-- ==== Sys2Proof/Word.lean ====
section
/-! DEFINITION. The word types of the SV640 model: bus characters and model time. -/

namespace Sys2Proof

/-- A character of the Cabinet Bus: eight data bits (R150). -/
abbrev Byte := BitVec 8

/-- Model time, counted in half periods of the 4.000 MHz reference since the end of the last power-on
reset (scope 3.5: every duration derives from the reference; R150 and R151 sample at half bit periods). -/
abbrev Time := Nat

end Sys2Proof
end

