-- ==== Sys2Proof/Config.lean ====
section
/-! DEFINITION. What the part fixes for every run, and the values the manual leaves free. -/

namespace Sys2Proof

/-- The part code of the PING answer (R180). -/
def Config.partCode : Nat := 0x0640

/-- The silicon revision number of the silicon the manual covers (R180). -/
def Config.revision : Nat := 0x01

/-- FREE VALUE (log entry 2): whether the VEND_RESULT stands before the PAYOUT_RESULT when one management
reset ends both a vend and a payout. R96 and R198 say that either may stand first. The argument is the
number of such choices made before. -/
opaque Config.vendResultFirst : Nat → Bool

/-- FREE VALUE (log entry 3): the cash credit after a returned price or payout remainder that would carry it above
65,535, the end of its range (R53). No rule gives the result. The argument counts such choices. -/
opaque Config.creditOverflow : Nat → BitVec 16

/-- FREE VALUE (log entry 7): the value not credited of a stacked bill whose class is outside 0 to 7 (R66). The
rules give such a class no value. The argument counts such choices. -/
opaque Config.unknownBillValue : Nat → BitVec 16

end Sys2Proof
end

