-- ==== Sys2Proof/Syntax.lean ====
section
/-! DEFINITION. The commands and events of the SV640: one constructor of `Instr` per row of
spec/opcode_table.json. A management row carries the SRC of the host's frame and the characters of its
payload that the row leaves open; a line or sensor row carries what the line or sensor shows. -/

namespace Sys2Proof

/-- The two segments of the Cabinet Bus (chapter 8): U to the machine board, D to the peripherals. -/
inductive Segment where
  | upstream
  | downstream
  deriving DecidableEq, Repr

/-- The levels a power-on reset reads (R146, R147, R149, R156, R38, R63, R75, R91). -/
structure PowerOnLevels where
  /-- NA0 to NA2, the node address straps -/
  straps : BitVec 3
  /-- the first supply sample, in tenths of a volt -/
  volts : Nat
  /-- DOOR reads open -/
  doorOpen : Bool
  /-- SRQ reads active -/
  srqActive : Bool
  /-- CLEV reads pressed -/
  leverPressed : Bool
  /-- DROP reads active -/
  dropActive : Bool
  /-- PSNS reads active -/
  psnsActive : Bool
  /-- TLOW0 to TLOW5, bit i set when the sensor of tube i is covered -/
  lowCovered : BitVec 6
  /-- TFUL0 to TFUL5, bit i set when the sensor of tube i is covered -/
  fullCovered : BitVec 6
  deriving DecidableEq, Repr

/-- One command or event of the SV640. -/
inductive Instr where
  /-- POWER_ON_RESET (R146): the levels read when the reset ends. -/
  | powerOnReset (levels : PowerOnLevels)
  /-- RESET (R187). -/
  | reset (src : Byte) (payload : List Byte)
  /-- PING (R180). -/
  | ping (src : Byte) (payload : List Byte)
  /-- TABLE READ (R181): the payload is table id, index. -/
  | tableRead (src : Byte) (payload : List Byte)
  /-- TABLE WRITE to a table with no write rule of its own (R182): the payload is table id, index, .... -/
  | tableWrite (src : Byte) (payload : List Byte)
  /-- TABLE WRITE to table 1 (R6): the payload after the table id. So for the nine rows that follow. -/
  | selectionWrite (src : Byte) (payload : List Byte)
  /-- Table 2 (R25). -/
  | trayWrite (src : Byte) (payload : List Byte)
  /-- Table 3 (R52). -/
  | coinTableWrite (src : Byte) (payload : List Byte)
  /-- Table 4 (R52). -/
  | billTableWrite (src : Byte) (payload : List Byte)
  /-- Table 5 (R76). -/
  | tubeTableWrite (src : Byte) (payload : List Byte)
  /-- Table 6 (R162). -/
  | routeTableWrite (src : Byte) (payload : List Byte)
  /-- Table 7 (R55). -/
  | vendSettingsWrite (src : Byte) (payload : List Byte)
  /-- Table 8 (R118). -/
  | coolingSettingsWrite (src : Byte) (payload : List Byte)
  /-- Table 9 (R114). -/
  | calibrationWrite (src : Byte) (payload : List Byte)
  /-- Table 10 (R152, R31). -/
  | driveAndLinkSettingsWrite (src : Byte) (payload : List Byte)
  /-- REPORT POLL (R197). -/
  | reportPoll (src : Byte) (payload : List Byte)
  /-- COMMAND GO ONLINE (R184): the parameters after the command code. So for the commands that follow. -/
  | goOnline (src : Byte) (params : List Byte)
  /-- GO OFFLINE (R185). -/
  | goOffline (src : Byte) (params : List Byte)
  /-- VEND (R10): selection, payment. -/
  | vend (src : Byte) (params : List Byte)
  /-- VEND CANCEL (R17). -/
  | vendCancel (src : Byte) (params : List Byte)
  /-- REFUND (R88). -/
  | refund (src : Byte) (params : List Byte)
  /-- PAYOUT (R89): form TUBE 1, tube, coins; or form AMOUNT 0, amount. -/
  | payout (src : Byte) (params : List Byte)
  /-- TUBE COUNT (R82): tube, count. -/
  | tubeCount (src : Byte) (params : List Byte)
  /-- HOST BILL MASK (R186): mask. -/
  | hostBillMask (src : Byte) (params : List Byte)
  /-- ECONOMY ON (R135). -/
  | economyOn (src : Byte) (params : List Byte)
  /-- ECONOMY OFF (R135). -/
  | economyOff (src : Byte) (params : List Byte)
  /-- HOLD RELEASE (R134). -/
  | holdRelease (src : Byte) (params : List Byte)
  /-- SWEEP (R43): tray first, tray last, column first, column last, order, reverse trays, reverse columns. -/
  | sweep (src : Byte) (params : List Byte)
  /-- SWEEP STOP (R47). -/
  | sweepStop (src : Byte) (params : List Byte)
  /-- AUDIT CLEAR (R73). -/
  | auditClear (src : Byte) (params : List Byte)
  /-- A host frame to a downstream address (R171). -/
  | transit (src dest kind : Byte) (payload : List Byte)
  /-- Twelve bit-times of mark on a segment (R153). -/
  | endOfFrame (seg : Segment)
  /-- A good downstream frame addressed to the SV640 (R160, R164): its SRC, KIND and payload. -/
  | reply (src kind : Byte) (payload : List Byte)
  /-- The response timeout expires (R164). -/
  | responseTimeout
  /-- A line held at space for 22 bit-times (R158). -/
  | lineBreak (seg : Segment)
  /-- A line returns to mark (R153). -/
  | breakEnd (seg : Segment)
  /-- ULK begins the answer's first start bit (R157). -/
  | answerStart
  /-- The answer's last stop bit ends (R156). -/
  | answerSent
  /-- DLK starts the next exchange (R163). -/
  | exchangeStart
  /-- The last stop bit of a downstream frame ends (R163). -/
  | downstreamFrameSent
  /-- An entry's next due time passes (R166). -/
  | pollDue (entry : Fin 8)
  /-- A debounced change of SRQ (R149, R173). -/
  | serviceRequestChange (active : Bool)
  /-- A debounced change of DOOR (R147). -/
  | doorChange (isOpen : Bool)
  /-- The supply sample that brings the low run to 4 (R143, R144), in tenths of a volt. -/
  | supplyLow (volts : Nat)
  /-- The supply sample that brings the good run to 200 (R143, R145). -/
  | supplyGood (volts : Nat)
  /-- The coin head reports a class, or UNKNOWN as `none` (R59). -/
  | classReport (cls : Option (Fin 16))
  /-- The coin head reports clear (R59). -/
  | clearReport
  /-- 500 ms since the class report (R59). -/
  | gateTimeout
  /-- The coin return lever held pressed 20 ms (R63). -/
  | leverPress
  /-- 10 s since the escrow decision (R65). -/
  | escrowExpiry
  /-- The card approval deadline (R103). -/
  | approvalDeadlineExpiry
  /-- The cam switch of the motor at a position shows a new level held 10 ms (R30, R33). -/
  | camChange (tray : Fin 8) (col : Fin 10) (closed : Bool)
  /-- 800 ms since motor start, for the motor on a column (R33). -/
  | stuckAtHome (col : Fin 10)
  /-- 6,000 ms since motor start (R33). -/
  | noHome (col : Fin 10)
  /-- 100 ms since motor start, with the largest sample of the motor in mA (R34). -/
  | openTest (col : Fin 10) (peak : Nat)
  /-- One current sample of a motor, in mA (R34). -/
  | motorShort (col : Fin 10) (sample : Nat)
  /-- The least sample of a motor over a continuous 200 ms, in mA (R34). -/
  | motorJam (col : Fin 10) (least : Nat)
  /-- DROP becomes active after at least 20 ms inactive (R38). -/
  | dropEvent
  /-- 1,500 ms since the turn completed (R39). -/
  | dropWindowClose
  /-- 50 ms since the coil check was energized, with its largest sample in mA (R45). -/
  | coilCheckEnd (peak : Nat)
  /-- One current sample of a coil check, in mA (R45). -/
  | coilCheckShort (sample : Nat)
  /-- 80 ms since the payout pulse began (R91). -/
  | payoutPulseEnd
  /-- PSNS becomes active after at least 5 ms inactive (R91). -/
  | payoutCoinSeen
  /-- 400 ms since the sensor window opened (R92). -/
  | sensorWindowExpiry
  /-- The least of 20 successive payout drive samples, in mA (R93). -/
  | driveJam (least : Nat)
  /-- A low sensor level held 50 ms (R78). -/
  | lowSensorChange (tube : Fin 6) (covered : Bool)
  /-- A full sensor level held 50 ms (R79). -/
  | fullSensorChange (tube : Fin 6) (covered : Bool)
  /-- The 1 s sample of the four temperature sensors TS0 to TS3 (R112). -/
  | coolingSample (airA airB coil condenser : BitVec 10)
  /-- 3 s since the compressor grant (R121). -/
  | startEnd
  /-- 180 s since the last stop (R120). -/
  | guardExpiry
  /-- 60 s since the compressor started (R122). -/
  | minimumRunEnd
  /-- Defrost due with a continuous run of 60 min (R123). -/
  | forcedDefrost
  /-- The defrost maximum (R124). -/
  | defrostMaximum
  /-- The drip time (R124). -/
  | dripEnd
  /-- 10 min on in BLIND_ON (R126). -/
  | blindOnEnd
  /-- 10 min off in BLIND_OFF (R126). -/
  | blindOffEnd
  /-- The grace window's end time passes (R131). -/
  | graceWindowEnd
  /-- A compressor start claim has waited 60 s (R139). -/
  | starvationGuard
  /-- A character is taken at its stop-bit sample (R150, R153): its eight data bits as sampled,
  least significant first, a mark being 1; and whether the parity bit and the stop bit were sampled at mark. -/
  | characterTaken (seg : Segment) (data : Byte) (parityMark stopMark : Bool)
  /-- A supply sample that completes no run (R143). -/
  | supplySample (volts : Nat)
  /-- CLEV returns to released (R63). -/
  | leverRelease
  /-- DROP returns to inactive (R38). -/
  | dropCurtainClear
  /-- PSNS returns to inactive (R91). -/
  | payoutSensorInactive
  deriving DecidableEq, Repr

end Sys2Proof
end

