-- ==== Sys2Proof/Decode.lean ====
section
/-! DEFINITION. The command that a word spells by the opcode table's bits. No row of the table has bits: the commands of the SV640
are events and whole frames, so no word spells one (log entry 8). -/

namespace Sys2Proof

/-- The command of a word of `nbits` bits: none, for every word. -/
def decodeTableWord (_nbits _w : Nat) : Option Instr := none

end Sys2Proof
end

