-- ==== Sys2Proof/Machine/State.lean ====
section
/-! DEFINITION. The state of the SV640, one record for each block of scope section 2, and the state right
after a power-on reset. Plain data throughout. -/

namespace Sys2Proof.Machine

/-! ## Enumerations (codes in R192) -/

/-- Machine modes (R188). -/
inductive Mode where
  | setup | online | service | safe
  deriving DecidableEq, Repr

/-- Return modes (R188): a mode other than SAFE. -/
inductive ReturnMode where
  | setup | online | service
  deriving DecidableEq, Repr

/-- Selection states (R1). -/
inductive SelState where
  | unused | active | disabled | jammed | emptySuspect
  deriving DecidableEq, Repr

/-- Payment kinds of a vend (R9). -/
inductive Payment where
  | cash | card | free
  deriving DecidableEq, Repr

/-- Stages of a vend (R9). -/
inductive Stage where
  | approvalWait | loadWait | turn1 | turn2 | settling
  deriving DecidableEq, Repr

/-- Outcomes of a vend (R9). -/
inductive VendOutcome where
  | success | noDrop | jammed | motorOpen | denied | cancelled | interrupted
  deriving DecidableEq, Repr

/-- Position health (R27). -/
inductive Health where
  | unknown | ok | opened | shorted
  deriving DecidableEq, Repr

/-- Results of a turn (R15, R40). -/
inductive TurnResult where
  | complete | jam | motorOpen
  deriving DecidableEq, Repr

/-- How a motor of a turn stands (R32, R36): running, stopped at its cam close, stopped by a fault whose
health finding is recorded with it, or stopped because its twin partner faulted. -/
inductive MotorStop where
  | running | normal | fault (finding : Option Health) | partnerFault
  deriving DecidableEq, Repr

/-- The check of a sweep (R44); an energized check carries the time it was energized. -/
inductive CoilCheck where
  | none | claimed | energized (since : Time)
  deriving DecidableEq, Repr

/-- Tube states (R80). -/
inductive TubeState where
  | ok | empty | jammed
  deriving DecidableEq, Repr

/-- Payout sources (R86). -/
inductive PayoutSource where
  | change | refund | service
  deriving DecidableEq, Repr

/-- Payout forms (R86); form TUBE names its tube. -/
inductive PayoutForm where
  | amount | tube (tube : Nat)
  deriving DecidableEq, Repr

/-- Card session states (R97). -/
inductive SessionState where
  | none | opened | approvalWait | vending
  deriving DecidableEq, Repr

/-- Compressor states (section 6.4). -/
inductive CompState where
  | disabled | guard | idle | waitSupply | start | run | defrost | drip | blindOn | blindOff
  deriving DecidableEq, Repr

/-- Kinds of supply claim (R136). -/
inductive ClaimKind where
  | vend | payout | coilCheck | compressor
  deriving DecidableEq, Repr

/-- Receiver line states (R153). -/
inductive LineState where
  | waitIdle | ready | receiving | brk
  deriving DecidableEq, Repr

/-- Answer states of ULK (R156). -/
inductive AnswerState where
  | free | turnaround | sending
  deriving DecidableEq, Repr

/-- Roles of a route entry (R161). -/
inductive Role where
  | bill | card | passive
  deriving DecidableEq, Repr

/-- Presence of a route entry (R161). -/
inductive Presence where
  | absent | present | lost
  deriving DecidableEq, Repr

/-- Segment states (R173). -/
inductive SegState where
  | owned | releasePending | released
  deriving DecidableEq, Repr

/-- Own-frame kinds (R169) with the values of their payloads. An ESCROW ACTION also carries the number of
the pending escrow record it was made for (R67); the number is the model's own and is not sent. -/
inductive OwnKind where
  | enable (mask : Vector Bool 8)
  | escrowAction (cls : Nat) (stack : Bool) (record : Nat)
  | approvalRequest (price selection : Nat)
  | vendResult (success : Bool) (price selection : Nat)
  | sessionEnd
  deriving DecidableEq, Repr

/-! ## Reports -/

/-- State keys (R195): a state report kind with its subject. -/
inductive StateKey where
  | credit | exactChange | selection (i : Nat) | positionHealth (i : Nat) | tube (i : Nat) | node (addr : Nat)
  | cardSession | cooling | sensor (i : Nat) | safetyHold | economy | door | supply | condenserHot
  | lateDrop (i : Nat) | billAnomaly (addr : Nat)
  deriving DecidableEq, Repr

/-- Event reports (R193, section 11.5), their fields fixed when queued. -/
inductive EventReport where
  | vendResult (selection : Nat) (payment : Payment) (outcome : VendOutcome) (price : Nat)
      (informed : Option Bool) (dropSeen : Option Bool)
  | payoutResult (source : PayoutSource) (requested paid : Nat) (short : Bool) (coins : List (Nat × Nat))
  | transitReply (tag node : Nat) (kind : Byte) (payload : List Byte)
  | transitLost (tag : Nat)
  | sweepDone (stopped : Bool) (lastChecked : Option Nat) (ok opened shorted : Nat)
  | peripheralEvent (node : Nat) (code : Byte) (params : List Byte)
  deriving DecidableEq, Repr

/-- An entry of the report queue (R193). -/
inductive Report where
  | state (key : StateKey)
  | event (ev : EventReport)
  deriving DecidableEq, Repr

/-! ## SEL and VND -/

/-- A selection entry (R1). `stock` is `none` for UNTRACKED. -/
structure Selection where
  state : SelState
  tray : Nat
  column : Nat
  twin : Bool
  chilled : Bool
  perishable : Bool
  price : Nat
  stock : Option Nat
  secondTurn : Bool
  noDropRun : Nat
  sales : Nat
  deriving DecidableEq, Repr

/-- Selection Store: the table, and what SEL derives from it and keeps (R3, R4). -/
structure Sel where
  table : Vector Selection 80
  vendable : Vector Bool 80
  pMin : Option Nat
  chilledOnSale : Bool
  deriving DecidableEq, Repr

/-- The vend context (R9), with the position or positions VND recorded at acceptance (R32). -/
structure VendCtx where
  selection : Nat
  payment : Payment
  price : Nat
  stage : Stage
  dropSeen : Bool
  slots : Nat
  outcome : Option VendOutcome
  tray : Nat
  col : Nat
  partner : Option Nat
  deriving DecidableEq, Repr

/-- Vend Control. -/
structure Vnd where
  ctx : Option VendCtx
  deriving DecidableEq, Repr

/-! ## SPD -/

/-- A tray entry (R24). -/
structure Tray where
  present : Bool
  columns : Nat
  mirror : Bool
  deriving DecidableEq, Repr

/-- One motor of a turn record (section 2.4): its column, whether its cam has opened, how it stands, and
whether its open test has been decided (R34). -/
structure Motor where
  col : Nat
  opened : Bool
  stop : MotorStop
  openTested : Bool
  deriving DecidableEq, Repr

/-- The turn record (section 2.4). It exists from motor start until the drop window closes (R39);
`completed` is the result and the time of completion. -/
structure Turn where
  selection : Nat
  tray : Nat
  start : Time
  motors : List Motor
  completed : Option (TurnResult × Time)
  dropSeen : Bool
  deriving DecidableEq, Repr

/-- The sweep context (R44). -/
structure Sweep where
  trayFirst : Nat
  trayLast : Nat
  colFirst : Nat
  colLast : Nat
  columnsFirst : Bool
  revTrays : Bool
  revCols : Bool
  cursorTray : Nat
  cursorCol : Nat
  paused : Bool
  check : CoilCheck
  okCount : Nat
  openCount : Nat
  shortCount : Nat
  lastChecked : Option Nat
  deriving DecidableEq, Repr

/-- Spiral Drive. `rowOn` and `colsOn` are the matrix drivers (R29); `camOpen` is the level of each
position's cam switch as it last changed (R30, R32); the late-drop record holds a selection and a time (R41). -/
structure Spd where
  trays : Vector Tray 8
  health : Vector Health 80
  jamThreshold : Nat
  rowOn : Option Nat
  colsOn : List Nat
  camOpen : Vector Bool 80
  turn : Option Turn
  sweep : Option Sweep
  lateDrop : Option (Nat × Time)
  lateCounts : Vector Nat 80
  dropActive : Bool
  dropInactiveSince : Time
  deriving DecidableEq, Repr

/-! ## CSH -/

/-- A coin class entry (R50). `route` is `none` for CASHBOX. -/
structure CoinClass where
  value : Nat
  route : Option Nat
  enabled : Bool
  deriving DecidableEq, Repr

/-- A bill class entry (R51). -/
structure BillClass where
  value : Nat
  enabled : Bool
  deriving DecidableEq, Repr

/-- The pending escrow record (R65), with the model's number of the record (R67). -/
structure Escrow where
  cls : Nat
  stack : Bool
  decidedAt : Time
  number : Nat
  deriving DecidableEq, Repr

/-- The eight audit totals (R72). -/
structure Audit where
  coinsIn : Nat
  billsIn : Nat
  cashVended : Nat
  cashPaidOut : Nat
  cardVended : Nat
  freeVends : Nat
  serviceFill : Nat
  servicePaidOut : Nat
  deriving DecidableEq, Repr

/-- What CSH keeps of bill anomalies for one node address (R66). -/
structure Anomaly where
  count : Nat
  cls : Nat
  uncredited : Nat
  deriving DecidableEq, Repr

/-- Cash Unit. `anomalies` is indexed by node address less 0x20; `gateSince` is the time of the class
report the open gate belongs to (R59). -/
structure Csh where
  coins : Vector CoinClass 16
  bills : Vector BillClass 8
  credit : Nat
  creditLimit : Nat
  hostMask : Vector Bool 8
  strict : Bool
  multiVend : Bool
  exactChange : Bool
  coinSafe : Vector Bool 16
  billSafe : Vector Bool 8
  effMask : Vector Bool 8
  escrow : Option Escrow
  escrowNumber : Nat
  anomalies : Vector Anomaly 64
  audit : Audit
  gateOpen : Bool
  gateSince : Time
  diverterTube : Bool
  leverPressed : Bool
  deriving DecidableEq, Repr

/-! ## CHG -/

/-- A tube entry (R75). -/
structure Tube where
  denom : Nat
  capacity : Nat
  count : Nat
  reserve : Nat
  lowLevel : Nat
  lowCovered : Bool
  fullCovered : Bool
  state : TubeState
  deriving DecidableEq, Repr

/-- The payout context (R86). `plan` is absent in WAIT_GRANT; the coin in progress is the tube being driven
with the pulse (`pulse`: its start, while the drive is on) and the sensor window (`window`: its start, while
open); `jammed` records a jam found during the window (R93) and `cut` an entry to SAFE (R96). -/
structure Payout where
  source : PayoutSource
  form : PayoutForm
  requested : Nat
  paying : Bool
  plan : Option (Vector Nat 6)
  paid : Nat
  coins : List (Nat × Nat)
  replans : Nat
  tube : Nat
  pulse : Option Time
  window : Option Time
  jammed : Bool
  cut : Bool
  deriving DecidableEq, Repr

/-- Change Unit, with the payout drive that is on (PDRV) and the payout sensor line (R91). -/
structure Chg where
  tubes : Vector Tube 6
  payout : Option Payout
  drive : Option Nat
  sensorActive : Bool
  sensorInactiveSince : Time
  deriving DecidableEq, Repr

/-! ## CRD -/

/-- Result owed to the reader (R97). -/
structure ResultOwed where
  success : Bool
  price : Nat
  selection : Nat
  vendLink : Bool
  deriving DecidableEq, Repr

/-- Card Unit (R97). `funds` is `none` for UNKNOWN; the last request is a selection and a price. -/
structure Crd where
  state : SessionState
  funds : Option Nat
  deadline : Option Time
  lastRequest : Option (Nat × Nat)
  owed : Option ResultOwed
  closePending : Bool
  deriving DecidableEq, Repr

/-! ## CLG -/

/-- A sensor record (R112). -/
structure Sensor where
  value : Option Int
  fault : Bool
  outRun : Nat
  inRun : Nat
  deriving DecidableEq, Repr

/-- Cooling settings (R118). -/
structure CoolSettings where
  setpoint : Int
  differential : Int
  economyOffset : Int
  safeLimit : Int
  holdDelay : Nat
  defrostInterval : Nat
  defrostTermination : Int
  defrostMaximum : Nat
  dripTime : Nat
  condenserTrip : Int
  enabled : Bool
  deriving DecidableEq, Repr

/-- The grace window (R131). -/
structure Grace where
  first : Time
  closeAt : Time
  deriving DecidableEq, Repr

/-- Cooling Unit. `runTicks` is the run-time accumulator up to the last switching of the contactor, in ticks
(R123); `startedAt` is the compressor's last start; `runEntered` the last entry to RUN and `contRun` the
continuous run, in ticks, kept when RUN is left; `stateSince` the entry to DEFROST, DRIP or BLIND_OFF;
`termInForce`, `maxInForce` and `dripInForce` the values a defrost or drip began with (R118). -/
structure Clg where
  sensors : Vector Sensor 4
  points : Vector (Nat × Int) 9
  settings : CoolSettings
  temp : Option Int
  filtered : Option Int
  blind : Bool
  blindSince : Time
  demand : Bool
  comp : CompState
  contactor : Bool
  startedAt : Time
  lastStop : Time
  runTicks : Nat
  runEntered : Time
  contRun : Nat
  stateSince : Time
  termInForce : Int
  maxInForce : Nat
  dripInForce : Nat
  hot : Bool
  tripCount : Nat
  evapFan : Bool
  condFan : Bool
  grace : Option Grace
  warmTime : Nat
  hold : Bool
  ecoRequested : Bool
  ecoEffective : Bool
  nextSample : Time
  deriving DecidableEq, Repr

/-! ## LDS and CMN -/

/-- A claim (R136), and whether it is guarding (R139). -/
structure Claim where
  kind : ClaimKind
  units : Nat
  filed : Time
  guarding : Bool
  deriving DecidableEq, Repr

/-- Load Scheduler: the claim list in filing order, and the units granted to each holder (R136). -/
structure Lds where
  claims : List Claim
  vendUnits : Nat
  payoutUnits : Nat
  coilUnits : Nat
  compUnits : Nat
  deriving DecidableEq, Repr

/-- Cabinet Monitor (R143, R147, R149). -/
structure Cmn where
  supplyLow : Bool
  lowRun : Nat
  goodRun : Nat
  brownouts : Nat
  volts : Nat
  nextSupply : Time
  doorOpen : Bool
  openings : Nat
  srqActive : Bool
  deriving DecidableEq, Repr

/-! ## ULK and DLK -/

/-- A received character with its error marks (R150), as `charOfSamples` derives them. -/
structure RxChar where
  byte : Byte
  parityError : Bool
  framingError : Bool
  deriving DecidableEq, Repr

/-- A receiver (R153): its line state, its buffer of up to 53 characters, the number of characters of the frame, whether
the frame has overrun (R156), the moment the idle count runs from (in READY, the moment it became so: no start edge
comes before it), and the latest moment at which the line is known to have been at mark, from which the space of a break
is counted at the earliest (R158, log entry 44). -/
structure Receiver where
  line : LineState
  buffer : List RxChar
  count : Nat
  overrun : Bool
  idleFrom : Time
  markAt : Time
  deriving DecidableEq, Repr

/-- Upstream Link (R156): its receiver, the answer state, the answer buffer (the whole ANSWER frame), the
delivery time of the frame answered, the end of the answer being sent, and the straps. -/
structure Ulk where
  rx : Receiver
  answerState : AnswerState
  answer : Option (List Byte)
  deliveredAt : Time
  sendEnd : Time
  straps : BitVec 3
  deriving DecidableEq, Repr

/-- A route entry (R161). -/
structure Route where
  inUse : Bool
  base : Nat
  span : Nat
  role : Role
  pollInterval : Nat
  timeout : Nat
  presence : Presence
  missed : Nat
  lastEnable : Option (Vector Bool 8)
  discarded : Nat
  deriving DecidableEq, Repr

/-- The poll schedule of an entry (R166, R167): its next due time, and whether its poll is due and deferred. -/
structure PollSlot where
  nextDue : Time
  due : Bool
  deferred : Bool
  deriving DecidableEq, Repr

/-- An entry of the own-frame queue (R169). The owner is the Cash Unit for ENABLE and ESCROW ACTION and the
Card Unit for the other kinds. -/
structure OwnFrame where
  node : Nat
  kind : OwnKind
  deriving DecidableEq, Repr

/-- A transit record (R171). -/
structure TransitRec where
  tag : Nat
  dest : Nat
  kind : Byte
  payload : List Byte
  sent : Bool
  deriving DecidableEq, Repr

/-- What an exchange carries (R163). -/
inductive ExchKind where
  | poll (slot : Bool)
  | own (frame : OwnFrame)
  | transit (tag : Nat)
  deriving DecidableEq, Repr

/-- The exchange in flight (R163). `awaiting` is the start of the response timeout, absent in SENDING;
`expired` says that the timeout passed while a frame was being received (R164). -/
structure Exchange where
  kind : ExchKind
  dest : Nat
  entry : Nat
  timeout : Nat
  fastRate : Bool
  awaiting : Option Time
  expired : Bool
  deriving DecidableEq, Repr

/-- A downstream frame being sent: its characters and the end of its last stop bit (R155). -/
structure SendingFrame where
  chars : List Byte
  finish : Time
  deriving DecidableEq, Repr

/-- Downstream Link. `fastRate` and `guardGap` are the settings of table 10 (R152) and `rxFast` is the rate
the D receiver counts at; `dde` is the line driver. -/
structure Dlk where
  routes : Vector Route 8
  polls : Vector PollSlot 8
  pointer : Nat
  own : List OwnFrame
  transits : List TransitRec
  nextTag : Nat
  exchange : Option Exchange
  sending : Option SendingFrame
  seg : SegState
  requestWaiting : Bool
  sgr : Bool
  dde : Bool
  rx : Receiver
  fastRate : Bool
  rxFast : Bool
  guardGap : Nat
  deriving DecidableEq, Repr

/-! ## MGT and RPQ -/

/-- Management Decoder (R188). -/
structure Mgt where
  mode : Mode
  returnMode : ReturnMode
  deriving DecidableEq, Repr

/-- Report Queue (R193). `partSent` says that part 1 of the head has been answered (R191). -/
structure Rpq where
  queue : List Report
  reserved : Nat
  dirty : List StateKey
  partSent : Bool
  deriving DecidableEq, Repr

/-! ## The machine -/

/-- The whole state. `now`, `pending` and `freeIx` are the model's own: the clock, the commands waiting, first
in first out, and the number of free choices made (log entries 1 and 2). -/
structure State where
  now : Time
  pending : List Instr
  freeIx : Nat
  sel : Sel
  vnd : Vnd
  spd : Spd
  csh : Csh
  chg : Chg
  crd : Crd
  clg : Clg
  lds : Lds
  cmn : Cmn
  ulk : Ulk
  dlk : Dlk
  mgt : Mgt
  rpq : Rpq
  deriving DecidableEq, Repr

/-- There is no fault: no command or event of the SV640 stops the part. The type has no constructor. -/
inductive Fault where
  deriving DecidableEq, Repr

/-- Refusals of the model. -/
inductive Refusal where
  /-- Raised by an arm of `exec` whose command has no meaning yet; safe: the run stops. No arm uses it. -/
  | notModelled (mnemonic : String)
  deriving DecidableEq, Repr

/-! ## Power-on values -/

/-- R2. -/
def Selection.powerOn : Selection where
  state := .unused
  tray := 0
  column := 0
  twin := false
  chilled := false
  perishable := false
  price := 1
  stock := none
  secondTurn := false
  noDropRun := 0
  sales := 0

/-- R2: after a power-on reset no selection is vendable and p_min is undefined. -/
def Sel.powerOn : Sel where
  table := Vector.replicate 80 Selection.powerOn
  vendable := Vector.replicate 80 false
  pMin := none
  chilledOnSale := false

/-- R24. -/
def Tray.powerOn : Tray where
  present := false
  columns := 10
  mirror := false

/-- R24, R27, R29, R31, R42, R49. The cams are taken at home and DROP inactive (log entries 4 and 5). -/
def Spd.powerOn : Spd where
  trays := Vector.replicate 8 Tray.powerOn
  health := Vector.replicate 80 .unknown
  jamThreshold := 1200
  rowOn := none
  colsOn := []
  camOpen := Vector.replicate 80 false
  turn := none
  sweep := none
  lateDrop := none
  lateCounts := Vector.replicate 80 0
  dropActive := false
  dropInactiveSince := 0

/-- R72. -/
def Audit.zero : Audit where
  coinsIn := 0
  billsIn := 0
  cashVended := 0
  cashPaidOut := 0
  cardVended := 0
  freeVends := 0
  serviceFill := 0
  servicePaidOut := 0

/-- Section 3.10, CSH state after reset, with R50, R51, R53, R59, R63, R66. -/
def Csh.powerOn : Csh where
  coins := Vector.replicate 16 ⟨1, none, false⟩
  bills := Vector.replicate 8 ⟨1, false⟩
  credit := 0
  creditLimit := 2000
  hostMask := Vector.replicate 8 false
  strict := false
  multiVend := false
  exactChange := false
  coinSafe := Vector.replicate 16 false
  billSafe := Vector.replicate 8 false
  effMask := Vector.replicate 8 false
  escrow := none
  escrowNumber := 0
  anomalies := Vector.replicate 64 ⟨0, 0, 0⟩
  audit := Audit.zero
  gateOpen := false
  gateSince := 0
  diverterTube := false
  leverPressed := false

/-- R75; the sensors are taken uncovered (log entry 5). -/
def Tube.powerOn : Tube where
  denom := 0
  capacity := 100
  count := 0
  reserve := 0
  lowLevel := 1
  lowCovered := false
  fullCovered := false
  state := .ok

/-- R75, R86, R96. -/
def Chg.powerOn : Chg where
  tubes := Vector.replicate 6 Tube.powerOn
  payout := none
  drive := none
  sensorActive := false
  sensorInactiveSince := 0

/-- R97. -/
def Crd.powerOn : Crd where
  state := .none
  funds := none
  deadline := none
  lastRequest := none
  owed := none
  closePending := false

/-- R112. -/
def Sensor.powerOn : Sensor where
  value := none
  fault := false
  outRun := 0
  inRun := 0

/-- R118, the defaults. -/
def CoolSettings.powerOn : CoolSettings where
  setpoint := 30
  differential := 20
  economyOffset := 30
  safeLimit := 70
  holdDelay := 30
  defrostInterval := 6
  defrostTermination := 50
  defrostMaximum := 30
  dripTime := 120
  condenserTrip := 600
  enabled := true

/-- Section 6.9, Cooling Unit state after reset. The last stop is the end of the reset (time 0), and the first
sample falls 1 s after it, 8,000,000 ticks (R112, R120). -/
def Clg.powerOn : Clg where
  sensors := Vector.replicate 4 Sensor.powerOn
  points := #v[(64, -400), (160, -250), (272, -100), (384, 0), (480, 100), (576, 200), (704, 350), (832, 550),
    (960, 800)]
  settings := CoolSettings.powerOn
  temp := none
  filtered := none
  blind := false
  blindSince := 0
  demand := false
  comp := .guard
  contactor := false
  startedAt := 0
  lastStop := 0
  runTicks := 0
  runEntered := 0
  contRun := 0
  stateSince := 0
  termInForce := 50
  maxInForce := 30
  dripInForce := 120
  hot := false
  tripCount := 0
  evapFan := false
  condFan := false
  grace := none
  warmTime := 0
  hold := false
  ecoRequested := false
  ecoEffective := false
  nextSample := 8000000

/-- R136. -/
def Lds.powerOn : Lds where
  claims := []
  vendUnits := 0
  payoutUnits := 0
  coilUnits := 0
  compUnits := 0

/-- R146, R147, R149, for a first supply sample of 24.0 V, a closed door and an inactive request line
(log entry 5). The next supply sample falls 10 ms later, 80,000 ticks. -/
def Cmn.powerOn : Cmn where
  supplyLow := false
  lowRun := 0
  goodRun := 1
  brownouts := 0
  volts := 240
  nextSupply := 80000
  doorOpen := false
  openings := 0
  srqActive := false

/-- R153: both receivers start in WAIT_IDLE with empty buffers. -/
def Receiver.powerOn : Receiver where
  line := .waitIdle
  buffer := []
  count := 0
  overrun := false
  idleFrom := 0
  markAt := 0

/-- Section 8.7; the straps are taken as 0 (log entry 5). -/
def Ulk.powerOn : Ulk where
  rx := Receiver.powerOn
  answerState := .free
  answer := none
  deliveredAt := 0
  sendEnd := 0
  straps := 0

/-- R161. -/
def Route.powerOn : Route where
  inUse := false
  base := 0x20
  span := 1
  role := .passive
  pollInterval := 100
  timeout := 50
  presence := .absent
  missed := 0
  lastEnable := none
  discarded := 0

/-- R152, R161, R169, R171, R177. -/
def Dlk.powerOn : Dlk where
  routes := Vector.replicate 8 Route.powerOn
  polls := Vector.replicate 8 ⟨0, false, false⟩
  pointer := 0
  own := []
  transits := []
  nextTag := 0
  exchange := none
  sending := none
  seg := .owned
  requestWaiting := false
  sgr := false
  dde := false
  rx := Receiver.powerOn
  fastRate := false
  rxFast := false
  guardGap := 1

/-- R188. -/
def Mgt.powerOn : Mgt where
  mode := .setup
  returnMode := .setup

/-- R193. -/
def Rpq.powerOn : Rpq where
  queue := []
  reserved := 0
  dirty := []
  partSent := false

/-- The machine right after a power-on reset that finds its lines at rest (log entry 5). -/
def State.reset : State where
  now := 0
  pending := []
  freeIx := 0
  sel := Sel.powerOn
  vnd := ⟨none⟩
  spd := Spd.powerOn
  csh := Csh.powerOn
  chg := Chg.powerOn
  crd := Crd.powerOn
  clg := Clg.powerOn
  lds := Lds.powerOn
  cmn := Cmn.powerOn
  ulk := Ulk.powerOn
  dlk := Dlk.powerOn
  mgt := Mgt.powerOn
  rpq := Rpq.powerOn

end Sys2Proof.Machine
end

