-- ==== Sys2Proof/Machine/Ops.lean ====
section
/-! DEFINITION. Operations every block uses: the clock, table access, and the report queue (chapter 11). -/

namespace Sys2Proof.Machine

/-- What a command answers: its next state, in every case. -/
abbrev Result := Host.Outcome State Fault Refusal

/-! ## Clock -/

/-- One millisecond in ticks (8,000 half periods of the 4.000 MHz reference, scope 3.5). -/
def ms (n : Nat) : Nat := 8000 * n

/-- Seconds in ticks. -/
def seconds (n : Nat) : Nat := 8000000 * n

/-- Minutes in ticks. -/
def minutes (n : Nat) : Nat := seconds (60 * n)

/-- The clock moved on to a due time that is still ahead; a due time already passed leaves it (log entry 1). -/
def State.upTo (s : State) (due : Time) : State := { s with now := max s.now due }

/-! ## Tables -/

/-- An entry of a table, `d` beyond its end. -/
def tget (v : Vector α n) (d : α) (i : Nat) : α := v.toList.getD i d

/-- A table with one entry replaced; an index beyond its end changes nothing. -/
def tset (v : Vector α n) (i : Nat) (x : α) : Vector α n := v.setIfInBounds i x

/-- A table made entry by entry. -/
def tmk (n : Nat) (f : Nat → α) : Vector α n := ⟨((List.range n).map f).toArray, by simp⟩

/-- A table with every entry changed. -/
def tmap (f : α → β) (v : Vector α n) : Vector β n := ⟨(v.toList.map f).toArray, by simp⟩

/-- A saturating count (scope 3.1). -/
def satAdd (limit a b : Nat) : Nat := min limit (a + b)

/-- The limit of an audit total (R72). -/
def auditLimit : Nat := 4294967295

/-! ## The report queue -/

/-- The kind code of a state key (R195). -/
def StateKey.code : StateKey → Nat
  | .credit => 0x10
  | .exactChange => 0x11
  | .selection _ => 0x12
  | .positionHealth _ => 0x13
  | .tube _ => 0x14
  | .node _ => 0x15
  | .cardSession => 0x16
  | .cooling => 0x17
  | .sensor _ => 0x18
  | .safetyHold => 0x19
  | .economy => 0x1A
  | .door => 0x1B
  | .supply => 0x1C
  | .condenserHot => 0x1D
  | .lateDrop _ => 0x1E
  | .billAnomaly _ => 0x1F

/-- The subject of a state key (R195). -/
def StateKey.subject : StateKey → Option Nat
  | .selection i | .positionHealth i | .tube i | .node i | .sensor i | .lateDrop i | .billAnomaly i => some i
  | _ => none

/-- R196: keys are ordered by kind code and then by subject ascending. -/
def StateKey.lt (a b : StateKey) : Bool :=
  decide (a.code < b.code) || (a.code == b.code && decide (a.subject.getD 0 < b.subject.getD 0))

/-- The dirty-state set is kept as a list in key order without repeats (R193, R196). -/
def insertKey (k : StateKey) : List StateKey → List StateKey
  | [] => [k]
  | x :: xs => if k = x then x :: xs else if k.lt x then k :: x :: xs else x :: insertKey k xs

/-- R193: the free unreserved slots are 32 less the entries and less the reservation count. -/
def freeSlots (s : State) : Nat := 32 - (s.rpq.queue.length + s.rpq.reserved)

/-- R195: a state report updates its queued entry, is appended, or sets its dirty flag. -/
def report (k : StateKey) (s : State) : State :=
  if .state k ∈ s.rpq.queue then s
  else if 0 < freeSlots s then { s with rpq := { s.rpq with queue := s.rpq.queue ++ [.state k] } }
  else { s with rpq := { s.rpq with dirty := insertKey k s.rpq.dirty } }

/-- A state report that is made when something changed. -/
def reportIf (c : Bool) (k : StateKey) (s : State) : State := if c then report k s else s

/-- R167, R196: the Downstream Link's deferred polls become eligible again. -/
def clearDeferred (s : State) : State :=
  { s with dlk := { s.dlk with polls := tmap (fun p => { p with deferred := false }) s.dlk.polls } }

/-- R196: what RPQ does in the step in which a slot frees. -/
def slotFreed (s : State) : State :=
  if 0 < freeSlots s then
    match s.rpq.dirty with
    | k :: ks => { s with rpq := { s.rpq with queue := s.rpq.queue ++ [.state k], dirty := ks } }
    | [] => if freeSlots s = 1 then clearDeferred s else s
  else s

/-- R194: RPQ can grant `n` slots. -/
def canReserve (n : Nat) (s : State) : Bool := decide (n ≤ freeSlots s)

/-- R194: the reservation count rises by `n`. -/
def reserve (n : Nat) (s : State) : State := { s with rpq := { s.rpq with reserved := s.rpq.reserved + n } }

/-- R194: an event report without a reservation (after a management reset) is appended; with no free slot,
which no run reaches, nothing is. -/
def appendEvent (ev : EventReport) (s : State) : State :=
  if 0 < freeSlots s then { s with rpq := { s.rpq with queue := s.rpq.queue ++ [.event ev] } } else s

/-- R194: an event report consumes a reserved slot. -/
def consumeSlot (ev : EventReport) (s : State) : State :=
  if 0 < s.rpq.reserved then
    { s with rpq := { s.rpq with queue := s.rpq.queue ++ [.event ev], reserved := s.rpq.reserved - 1 } }
  else appendEvent ev s

/-- R194: a reservation is released and its slot frees. -/
def releaseSlot (s : State) : State :=
  if 0 < s.rpq.reserved then slotFreed { s with rpq := { s.rpq with reserved := s.rpq.reserved - 1 } } else s

/-- R197: the head of the queue is removed and its slot frees. -/
def popReport (s : State) : State :=
  slotFreed { s with rpq := { s.rpq with queue := s.rpq.queue.drop 1, partSent := false } }

/-- R193, R198: the queue emptied, no reservation and no dirty flag. -/
def emptyReports (s : State) : State := clearDeferred { s with rpq := Rpq.powerOn }

/-! ## Money -/

/-- R54: an amount added to the cash credit, with a CREDIT report. The rules do not say what the cash credit
becomes when a returned price or remainder would carry it above 65,535: it is then a free value (log entry 3). An amount
of 0 changes no value and makes no report. -/
def addCredit (n : Nat) (s : State) : State :=
  if n = 0 then s
  else if s.csh.credit + n ≤ 65535 then report .credit { s with csh := { s.csh with credit := s.csh.credit + n } }
  else report .credit
    { s with csh := { s.csh with credit := (Config.creditOverflow s.freeIx).toNat }, freeIx := s.freeIx + 1 }

/-- R54: the whole cash credit leaves the account, with a CREDIT report. -/
def takeCredit (n : Nat) (s : State) : State :=
  if n = 0 then s else report .credit { s with csh := { s.csh with credit := s.csh.credit - n } }

end Sys2Proof.Machine
end

