-- ==== Sys2Proof/Machine/Operands.lean ====
section
/-! DEFINITION. The operand forms: characters, values of one, two and more characters, the fields of table
writes, the codes of R192, frames with their CHECK, and the pacing of frames (chapter 8, section 10.5). -/

namespace Sys2Proof.Machine

/-! ## Values -/

/-- A one-character value (R190). -/
def ch (n : Nat) : Byte := BitVec.ofNat 8 n

/-- A value of `n` characters, low character first (R190, R192); that the four of an audit total are so too is the model's reading
(log entry 47). -/
def lowFirst : Nat → Nat → List Byte
  | 0, _ => []
  | n + 1, v => ch v :: lowFirst n (v / 256)

/-- A two-character unsigned value. -/
def w2 (v : Nat) : List Byte := lowFirst 2 v

/-- A two-character signed value, two's complement (R190). -/
def i2 (v : Int) : List Byte := w2 (v % 65536).toNat

/-- A two-character signed value that may be absent, 0x8000 (R190). -/
def i2opt : Option Int → List Byte
  | some v => i2 v
  | none => w2 0x8000

/-- A two-valued field (R190). -/
def flag (b : Bool) : Byte := if b then 1 else 0

/-- A one-character value that may be absent, 0xFF (R190). -/
def opt1 : Option Nat → Byte
  | some v => ch v
  | none => 0xFF

/-- Stock UNTRACKED and funds UNKNOWN are sent as 0xFFFF (R190). -/
def w2opt : Option Nat → List Byte
  | some v => w2 v
  | none => w2 0xFFFF

/-- A mask character holds bill class n in bit n (R192). -/
def maskByte (m : Vector Bool 8) : Byte := ch (m.toList.foldr (fun b acc => (if b then 1 else 0) + 2 * acc) 0)

/-- The eight flags of a mask character. -/
def maskOf (b : Byte) : Vector Bool 8 := tmk 8 fun i => b.getLsbD i

/-- The value of two characters, low first (R190). -/
def val2 (lo hi : Byte) : Nat := lo.toNat + 256 * hi.toNat

/-- The signed value of two characters (R190). -/
def sval2 (lo hi : Byte) : Int := if val2 lo hi < 32768 then val2 lo hi else (val2 lo hi : Int) - 65536

/-! ## Codes (R192) -/

def Mode.code : Mode → Nat
  | .setup => 0
  | .online => 1
  | .service => 2
  | .safe => 3

def ReturnMode.code : ReturnMode → Nat
  | .setup => 0
  | .online => 1
  | .service => 2

def SelState.code : SelState → Nat
  | .unused => 0
  | .active => 1
  | .disabled => 2
  | .jammed => 3
  | .emptySuspect => 4

/-- The selection state of a code. -/
def selStateOf : Int → SelState
  | 1 => .active
  | 2 => .disabled
  | 3 => .jammed
  | 4 => .emptySuspect
  | _ => .unused

def Payment.code : Payment → Nat
  | .cash => 0
  | .card => 1
  | .free => 2

/-- The payment kind of a code. -/
def paymentOf : Nat → Option Payment
  | 0 => some .cash
  | 1 => some .card
  | 2 => some .free
  | _ => none

def VendOutcome.code : VendOutcome → Nat
  | .success => 0
  | .noDrop => 1
  | .jammed => 2
  | .motorOpen => 3
  | .denied => 4
  | .cancelled => 5
  | .interrupted => 6

def Health.code : Health → Nat
  | .unknown => 0
  | .ok => 1
  | .opened => 2
  | .shorted => 3

def TubeState.code : TubeState → Nat
  | .ok => 0
  | .empty => 1
  | .jammed => 2

def PayoutSource.code : PayoutSource → Nat
  | .change => 0
  | .refund => 1
  | .service => 2

def SessionState.code : SessionState → Nat
  | .none => 0
  | .opened => 1
  | .approvalWait => 2
  | .vending => 3

def CompState.code : CompState → Nat
  | .disabled => 0
  | .guard => 1
  | .idle => 2
  | .waitSupply => 3
  | .start => 4
  | .run => 5
  | .defrost => 6
  | .drip => 7
  | .blindOn => 8
  | .blindOff => 9

def Role.code : Role → Nat
  | .bill => 0
  | .card => 1
  | .passive => 2

/-- The role of a code. -/
def roleOf : Int → Role
  | 0 => .bill
  | 1 => .card
  | _ => .passive

def Presence.code : Presence → Nat
  | .absent => 0
  | .present => 1
  | .lost => 2

def SegState.code : SegState → Nat
  | .owned => 0
  | .releasePending => 1
  | .released => 2

/-- Answer statuses (R190 to R192). -/
inductive Status where
  | ok | badFrame | noTable | badIndex | badValue | entryBusy | wrongMode | inconsistent | notVendable | soldOut
  | held | creditShort | cashPresent | noSession | vendBusy | payoutBusy | noCredit | noVend | tooLate | busy
  | warm | queueFull | noRoute | transitFull | kindOwned
  deriving DecidableEq, Repr

def Status.code : Status → Nat
  | .ok => 0x00
  | .badFrame => 0x01
  | .noTable => 0x02
  | .badIndex => 0x03
  | .badValue => 0x04
  | .entryBusy => 0x05
  | .wrongMode => 0x06
  | .inconsistent => 0x07
  | .notVendable => 0x08
  | .soldOut => 0x09
  | .held => 0x0A
  | .creditShort => 0x0B
  | .cashPresent => 0x0C
  | .noSession => 0x0D
  | .vendBusy => 0x0E
  | .payoutBusy => 0x0F
  | .noCredit => 0x10
  | .noVend => 0x11
  | .tooLate => 0x12
  | .busy => 0x13
  | .warm => 0x14
  | .queueFull => 0x15
  | .noRoute => 0x16
  | .transitFull => 0x17
  | .kindOwned => 0x18

/-! ## Kind codes (R192) -/

def kPing : Byte := 0x10
def kTableRead : Byte := 0x11
def kTableWrite : Byte := 0x12
def kCommand : Byte := 0x13
def kReportPoll : Byte := 0x14
def kReset : Byte := 0x15
def kAnswer : Byte := 0x16
def kPoll : Byte := 0x20
def kNothing : Byte := 0x21
def kEvent : Byte := 0x22
def kAck : Byte := 0x23
def kEnable : Byte := 0x30
def kEscrowAction : Byte := 0x31
def kApprovalRequest : Byte := 0x32
def kVendResult : Byte := 0x33
def kSessionEnd : Byte := 0x34

/-- The KIND of an own frame. -/
def OwnKind.kind : OwnKind → Byte
  | .enable _ => kEnable
  | .escrowAction .. => kEscrowAction
  | .approvalRequest .. => kApprovalRequest
  | .vendResult .. => kVendResult
  | .sessionEnd => kSessionEnd

/-- The payload of an own frame (R192). STACK and SUCCESS are 0, RETURN and FAIL 1. -/
def OwnKind.payload : OwnKind → List Byte
  | .enable m => [maskByte m]
  | .escrowAction c stack _ => [ch c, if stack then 0 else 1]
  | .approvalRequest p i => w2 p ++ [ch i]
  | .vendResult ok p i => (if ok then (0 : Byte) else 1) :: w2 p ++ [ch i]
  | .sessionEnd => []

/-! ## Fields of a table write (R178, R182, R190) -/

/-- The form of a table field: one character, two characters, two characters signed, or an enumerated or
two-valued character with its list of codes. -/
inductive FieldForm where
  | byte
  | word
  | sword
  | code (allowed : List Nat)
  deriving DecidableEq, Repr

/-- A two-valued field. -/
def FieldForm.yesNo : FieldForm := .code [0, 1]

/-- The fields of each writable table, in the order of section 10.5. -/
def tableForms : Nat → List FieldForm
  | 1 => [.code [0, 1, 2, 3, 4], .byte, .byte, .yesNo, .yesNo, .yesNo, .word, .word, .yesNo, .byte, .word]
  | 2 => [.yesNo, .byte, .yesNo]
  | 3 => [.word, .code [0, 1, 2, 3, 4, 5, 0xFF], .yesNo]
  | 4 => [.word, .yesNo]
  | 5 => [.word, .byte, .byte, .byte, .byte, .yesNo, .yesNo, .code [0, 1, 2]]
  | 6 => [.yesNo, .byte, .byte, .code [0, 1, 2], .word, .byte, .code [0, 1, 2], .byte, .yesNo, .byte, .byte]
  | 7 => [.word, .yesNo, .yesNo]
  | 8 => [.sword, .byte, .byte, .sword, .byte, .byte, .sword, .byte, .word, .sword, .yesNo]
  | 9 => [.word, .sword]
  | 10 => [.word, .word, .byte]
  | _ => []

/-- One field read from the front of the values. -/
def readField : FieldForm → List Byte → Option (Int × List Byte)
  | .byte, b :: rest => some (b.toNat, rest)
  | .code _, b :: rest => some (b.toNat, rest)
  | .word, lo :: hi :: rest => some (val2 lo hi, rest)
  | .sword, lo :: hi :: rest => some (sval2 lo hi, rest)
  | _, _ => none

/-- R192: bit n of the field mask names field n. `none` when the mask names a field the table does not have
or the length is not the one the mask requires (R178). -/
def readFields : List FieldForm → Nat → List Byte → Option (List (Option Int))
  | [], mask, vals => if mask = 0 ∧ vals = [] then some [] else none
  | f :: fs, mask, vals =>
    if mask % 2 = 1 then
      match readField f vals with
      | some (v, rest) => (readFields fs (mask / 2) rest).map fun gs => some v :: gs
      | none => none
    else (readFields fs (mask / 2) vals).map fun gs => none :: gs

/-- R190: an enumerated or two-valued character is in its list. -/
def fieldCoded : FieldForm → Option Int → Bool
  | .code allowed, some v => allowed.contains v.toNat
  | _, _ => true

/-- R190 for all fields given. -/
def fieldsCoded (fs : List FieldForm) (gs : List (Option Int)) : Bool := (fs.zip gs).all fun p => fieldCoded p.1 p.2

/-- A table write as its owner sees it: the index and the fields given, in the table's order. -/
structure Write where
  index : Nat
  given : List (Option Int)
  deriving DecidableEq, Repr

/-- The write of a payload after the table id, or the status that ends it: BAD_FRAME by R178, BAD_INDEX by check 3 of
R182 for tables 7, 8 and 10, BAD_VALUE by R190. -/
def readWrite (id : Nat) (payload : List Byte) : Except Status Write :=
  match payload with
  | ix :: mlo :: mhi :: vals =>
    if val2 mlo mhi = 0 then .error .badFrame
    else
      match readFields (tableForms id) (val2 mlo mhi) vals with
      | none => .error .badFrame
      | some gs =>
        if (id = 7 ∨ id = 8 ∨ id = 10) ∧ ix ≠ 0 then .error .badIndex
        else if fieldsCoded (tableForms id) gs then .ok ⟨ix.toNat, gs⟩
        else .error .badValue
  | _ => .error .badFrame

/-- Field `i` of a write, if given. -/
def Write.get (w : Write) (i : Nat) : Option Int := w.given.getD i none

/-- Whether field `i` is given. -/
def Write.has (w : Write) (i : Nat) : Bool := (w.get i).isSome

/-- Field `i` as a natural number, or the value held. -/
def Write.nat (w : Write) (i : Nat) (held : Nat) : Nat := ((w.get i).map Int.toNat).getD held

/-- Field `i` as an integer, or the value held. -/
def Write.int (w : Write) (i : Nat) (held : Int) : Int := (w.get i).getD held

/-- Field `i` as a two-valued field, or the value held. -/
def Write.bool (w : Write) (i : Nat) (held : Bool) : Bool := ((w.get i).map (· == 1)).getD held

/-- Every field given is one of these. -/
def Write.only (w : Write) (allowed : List Nat) : Bool :=
  (List.range w.given.length).all fun i => !w.has i || allowed.contains i

/-! ## Answers and frames -/

/-- An ANSWER's status and the fields that follow the KIND answered (R179). -/
structure Answer where
  status : Status
  fields : List Byte
  deriving DecidableEq, Repr

/-- A refusal carries the status alone (R178, R179). -/
def refuse (st : Status) : Answer := ⟨st, []⟩

/-- OK with its fields. -/
def okAnswer (fields : List Byte) : Answer := ⟨.ok, fields⟩

/-- R154: CHECK makes the characters from DEST through CHECK sum to 0 modulo 256. -/
def checkOf (chars : List Byte) : Byte := - chars.sum

/-- A whole frame: DEST, SRC, KIND, LEN, payload, CHECK (R154). -/
def frame (dest src kind : Byte) (payload : List Byte) : List Byte :=
  let head := dest :: src :: kind :: ch payload.length :: payload
  head ++ [checkOf head]

/-- The own node address: 0x08 plus the straps (R156). -/
def ownNode (s : State) : Byte := 0x08 + s.ulk.straps.setWidth 8

/-! ## Characters on the line (R150) -/

/-- The number of marks among the nine data and parity bits. -/
def marks (bits : BitVec 9) : Nat := (List.range 9).countP fun i => bits.getLsbD i

/-- R150: the nine bits of a character as it is sent: the data bits, and a parity bit that makes the number of marks even. -/
def lineBits (b : Byte) : BitVec 9 :=
  b.setWidth 9 ||| if marks (b.setWidth 9) % 2 = 1 then 0x100 else 0

/-- R150: the nine bits that a receiver sampled, the parity bit above the data bits. -/
def sampledBits (data : Byte) (parityMark : Bool) : BitVec 9 := BitVec.cons parityMark data

/-- R150: a received character from its samples. An odd number of marks is a parity error, a stop bit at space a
framing error. -/
def charOfSamples (bits : BitVec 9) (stopMark : Bool) : RxChar where
  byte := bits.setWidth 8
  parityError := decide (marks bits % 2 = 1)
  framingError := !stopMark

/-- R158: how many bit-times after its start edge the line last went to space in a character whose stop bit was sampled at
space: at the end of the last of the nine bits that was at mark, or at the start edge (log entry 44). -/
def lastSpaceFrom (bits : BitVec 9) : Nat :=
  (List.range 9).foldl (fun n i => if bits.getLsbD i then i + 2 else n) 0

/-! ## Pacing (R151, R155) -/

/-- The duration of `n` bit-times from a pacer start, in ticks (two per reference period). -/
def bitTimes (fast : Bool) (n : Nat) : Nat :=
  if fast then 2 * (n / 3 * 625 + [0, 208, 416].getD (n % 3) 0)
  else 2 * (n / 3 * 1250 + [0, 417, 834].getD (n % 3) 0)

/-- The duration of a frame of `n` characters with guard gap `g` (R155). -/
def frameTicks (fast : Bool) (n g : Nat) : Nat := bitTimes fast (n * 11 + (n - 1) * g)

/-- From the start edge of a character to its stop-bit sample: ten bit periods and half the eleventh (R150). -/
def sampleTicks (fast : Bool) : Nat := if fast then 2 * 2083 + 208 else 2 * 4167 + 417

/-- From the stop-bit sample to the end of the stop bit period (R150). -/
def stopTicks (fast : Bool) : Nat := if fast then 208 else 417

end Sys2Proof.Machine
end

