-- ==== Sys2Proof/Machine/Planner.lean ====
section
/-! DEFINITION. The payout planner (section 4.3): which coins, taken from which tubes, make an amount. A pure
computation over the used tubes in planner order. -/

namespace Sys2Proof.Machine

/-- A used tube as the planner sees it: its number, its denomination and its availability (R83). -/
structure PlanTube where
  tube : Nat
  denom : Nat
  avail : Nat
  deriving DecidableEq, Repr

/-- R83: a tube of higher denomination goes first; equal denominations by ascending tube number. -/
def PlanTube.before (a b : PlanTube) : Bool :=
  decide (b.denom < a.denom) || (a.denom == b.denom && decide (a.tube ≤ b.tube))

/-- A tube put into its place of the planner order. -/
def insertTube (t : PlanTube) : List PlanTube → List PlanTube
  | [] => [t]
  | x :: xs => if t.before x then t :: x :: xs else x :: insertTube t xs

/-- The sum of a plan, the counts taken in planner order. -/
def planSum (ts : List PlanTube) (ks : List Nat) : Nat := ((ts.zip ks).map fun p => p.2 * p.1.denom).sum

/-- The coin count of a plan. -/
def planCoins (ks : List Nat) : Nat := ks.sum

/-- R83: a plan gives each tube a number of coins within its availability, at most the cap together. -/
def isPlan (ts : List PlanTube) (ks : List Nat) (cap : Nat) : Bool :=
  decide (ks.length = ts.length) && (ts.zip ks).all (fun p => decide (p.2 ≤ p.1.avail)) && decide (planCoins ks ≤ cap)

/-- The most coins of a tube that an amount and a cap leave room for. -/
def maxCoins (t : PlanTube) (amount cap : Nat) : Nat := min t.avail (min (amount / t.denom) cap)

/-- The most that the tubes can pay. -/
def planReach (ts : List PlanTube) : Nat := (ts.map fun t => t.avail * t.denom).sum

/-- Whether an exact plan exists (R84): the only question of change-safety (R57, R85). Amounts beyond all the
coins are answered without a search. -/
def canPay : List PlanTube → Nat → Nat → Bool
  | [], amount, _ => amount == 0
  | t :: ts, amount, cap =>
    decide (amount ≤ planReach (t :: ts)) &&
      (List.range (maxCoins t amount cap + 1)).any fun k => canPay ts (amount - k * t.denom) (cap - k)

/-- R84, R85: of two plans the greater sum first, then the fewer coins; the first of two equals is kept. -/
def betterPlan (ts : List PlanTube) (a b : List Nat) : List Nat :=
  if planSum ts a < planSum ts b ∨ (planSum ts a = planSum ts b ∧ planCoins b < planCoins a) then b else a

/-- The best of a list of plans, the earliest where several are equally good. -/
def bestOf (ts : List PlanTube) (first : List Nat) (rest : List (List Nat)) : List Nat :=
  rest.foldl (betterPlan ts) first

/-- The planner's plan for an amount under a coin cap (R84, R85): the greatest sum not above the amount, then the
fewest coins, then the greatest plan. It is the exact plan whenever one exists. The candidates for the
first tube run from its most coins down, so that of equally good plans the greatest stands first. -/
def bestPlan : List PlanTube → Nat → Nat → List Nat
  | [], _, _ => []
  | t :: ts, amount, cap =>
    let m := maxCoins t amount cap
    bestOf (t :: ts) (m :: bestPlan ts (amount - m * t.denom) (cap - m))
      ((List.range m).reverse.map fun k => k :: bestPlan ts (amount - k * t.denom) (cap - k))

/-- R83: the availability of a tube for CHANGE, REFUND and change-safety (`service` false) or SERVICE. -/
def availability (service : Bool) (t : Tube) : Nat :=
  match t.state with
  | .ok => if service then t.count else t.count - t.reserve
  | _ => 0

/-- The used tubes of a table in planner order (R83). -/
def planTubes (service : Bool) (tubes : Vector Tube 6) : List PlanTube :=
  (tubes.toList.zipIdx.filterMap fun p =>
    if p.1.denom = 0 then none else some ⟨p.2, p.1.denom, availability service p.1⟩).foldr insertTube []

/-- R83: the coin cap of a new payout and of change-safety. -/
def coinCap : Nat := 100

/-- The counts of a plan put back at their tubes. -/
def planVector (ts : List PlanTube) (ks : List Nat) : Vector Nat 6 :=
  (ts.zip ks).foldl (fun v p => tset v p.1.tube p.2) (Vector.replicate 6 0)

/-- The plan the Change Unit stores for an amount (R90, R94). -/
def makePlan (service : Bool) (tubes : Vector Tube 6) (amount cap : Nat) : Vector Nat 6 :=
  planVector (planTubes service tubes) (bestPlan (planTubes service tubes) amount cap)

end Sys2Proof.Machine
end

