-- ==== Sys2Proof/Machine/Selections.lean ====
section
/-! DEFINITION. The Selection Store (section 1.1) and the position mapping it asks SPD for (R26): vendability,
p_min, the chilled-on-sale flag, and the economy flag that depends on it (R135). -/

namespace Sys2Proof.Machine

/-- The selection entry of a number. -/
def selOf (s : State) (i : Nat) : Selection := tget s.sel.table Selection.powerOn i

/-- The tray entry of a number. -/
def trayOf (s : State) (t : Nat) : Tray := tget s.spd.trays Tray.powerOn t

/-- R27: the position index. -/
def posIndex (tray col : Nat) : Nat := tray * 10 + col

/-- The health of a position. -/
def healthAt (s : State) (tray col : Nat) : Health := tget s.spd.health .unknown (posIndex tray col)

/-- R26: the physical column of a logical column. -/
def physCol (t : Tray) (logical : Nat) : Option Nat :=
  if logical < t.columns then some (if t.mirror then t.columns - 1 - logical else logical) else none

/-- R26: the position's physical column, with the partner's for a twin; `none` is NO POSITION. -/
def positionOf (s : State) (e : Selection) : Option (Nat × Option Nat) :=
  match physCol (trayOf s e.tray) e.column, e.twin with
  | none, _ => none
  | some c, false => some (c, none)
  | some c, true =>
    match physCol (trayOf s e.tray) (e.column + 1) with
    | none => none
    | some p => some (c, some p)

/-- R3: UNKNOWN and OK allow the sale. -/
def Health.fit : Health → Bool
  | .unknown | .ok => true
  | .opened | .shorted => false

/-- R3, fourth condition; NO POSITION fails it (R26). -/
def positionFit (s : State) (e : Selection) : Bool :=
  match positionOf s e with
  | none => false
  | some (c, p) => (healthAt s e.tray c).fit && (p.map fun q => (healthAt s e.tray q).fit).getD true

/-- R3: a selection is held when it is CHILLED and perishable and the safety hold is set. -/
def isHeld (s : State) (e : Selection) : Bool := e.chilled && e.perishable && s.clg.hold

/-- R3. -/
def isVendable (s : State) (e : Selection) : Bool :=
  e.state == .active && e.stock != some 0 && (trayOf s e.tray).present && positionFit s e && !isHeld s e

/-- The lesser of two optional prices. -/
def minPrice : Option Nat → Option Nat → Option Nat
  | none, b => b
  | a, none => a
  | some a, some b => some (min a b)

/-- R4: the lowest price among the vendable selections. -/
def lowestPrice (table : Vector Selection 80) (flags : Vector Bool 80) : Option Nat :=
  (table.toList.zip flags.toList).foldl (fun m p => if p.2 then minPrice m (some p.1.price) else m) none

/-- R4: whether any vendable selection is both CHILLED and perishable. -/
def anyChilled (table : Vector Selection 80) (flags : Vector Bool 80) : Bool :=
  (table.toList.zip flags.toList).any fun p => p.2 && p.1.chilled && p.1.perishable

/-- R135: economy is effective while requested, the hold is clear and SEL's flag shows no chilled perishable
selection on sale; a change makes an ECONOMY report. -/
def ecoRefresh (s : State) : State :=
  let eff := s.clg.ecoRequested && !s.clg.hold && !s.sel.chilledOnSale
  if eff = s.clg.ecoEffective then s else report .economy { s with clg := { s.clg with ecoEffective := eff } }

/-- The numbers whose flag differs between two tables, ascending. -/
def changedFlags (old new : Vector Bool 80) : List Nat :=
  ((old.toList.zip new.toList).zipIdx.filter fun p => p.1.1 != p.1.2).map (·.2)

/-- R3 to R5: SEL re-evaluates vendability, reports each change in ascending order (log entry 6), recomputes p_min and its
flag, and CLG re-evaluates economy. The Cash Unit takes the new p_min in `settleCash`. -/
def selRefresh (s : State) : State :=
  let flags := tmap (isVendable s) s.sel.table
  let s1 := (changedFlags s.sel.vendable flags).foldl (fun a i => report (.selection i) a)
    { s with sel := { s.sel with
        vendable := flags
        pMin := lowestPrice s.sel.table flags
        chilledOnSale := anyChilled s.sel.table flags } }
  ecoRefresh s1

/-- An entry stored; a change of state or stock makes a SELECTION_STATE report (R5). -/
def storeSelection (i : Nat) (e : Selection) (s : State) : State :=
  reportIf ((selOf s i).state != e.state || (selOf s i).stock != e.stock) (.selection i)
    { s with sel := { s.sel with table := tset s.sel.table i e } }

/-- R28: a measured health stored; a change makes a POSITION_HEALTH report. -/
def storeHealth (tray col : Nat) (h : Health) (s : State) : State :=
  if healthAt s tray col = h then s
  else report (.positionHealth (posIndex tray col))
    { s with spd := { s.spd with health := tset s.spd.health (posIndex tray col) h } }

end Sys2Proof.Machine
end

