-- ==== Sys2Proof/Machine/Flags.lean ====
section
/-! DEFINITION. The flags the Cash Unit computes: change-safety (section 3.3), the effective bill enable mask (section 3.7) and the
exact-change state (section 3.8); with the own-frame hand-over that the ENABLE of R69 needs (R169). -/

namespace Sys2Proof.Machine

/-- A coin class entry. -/
def coinOf (s : State) (i : Nat) : CoinClass := tget s.csh.coins ⟨1, none, false⟩ i

/-- A bill class entry. -/
def billOf (s : State) (i : Nat) : BillClass := tget s.csh.bills ⟨1, false⟩ i

/-- A tube entry. -/
def tubeOf (s : State) (i : Nat) : Tube := tget s.chg.tubes Tube.powerOn i

/-- The held price: the price of a CASH vend not yet settled (R9, R54). -/
def heldPrice (s : State) : Nat :=
  match s.vnd.ctx with
  | some v => if v.payment = .cash ∧ v.outcome = none then v.price else 0
  | none => 0

/-- R56: the value of the pending escrow, while one exists with decision STACK. -/
def escrowValue (s : State) : Nat :=
  match s.csh.escrow with
  | some e => if e.stack then (billOf s e.cls).value else 0
  | none => 0

/-- R56: the committed credit c. -/
def committed (s : State) : Nat := s.csh.credit + heldPrice s + escrowValue s

/-- R57: the requirement amount, 0 when it would not be positive. -/
def requirement (strict : Bool) (pMin : Option Nat) (c v : Nat) : Nat :=
  if strict then c + v else c + v - pMin.getD 0

/-- R57: whether an amount could be returned as exact change from these tubes. -/
def changeFor (tubes : Vector Tube 6) (r : Nat) : Bool :=
  if r = 0 then true else if 65535 < r then false else canPay (planTubes false tubes) r coinCap

/-- R75: a tube is full when its count has reached its capacity or its full sensor is covered. -/
def Tube.full (t : Tube) : Bool := decide (t.capacity ≤ t.count) || t.fullCovered

/-- R77: a coin enters a tube; an EMPTY tube becomes OK. -/
def Tube.addCoin (t : Tube) : Tube :=
  { t with count := min t.capacity (t.count + 1), state := if t.state = .empty then .ok else t.state }

/-- R61: the tube an accepted coin of a class goes to, `none` for the cashbox. An unused tube takes no part (R75). -/
def routedTube (s : State) (i : Nat) : Option Nat :=
  match (coinOf s i).route with
  | some t => if (tubeOf s t).denom ≠ 0 ∧ !(tubeOf s t).full then some t else none
  | none => none

/-- R57: the tubes as they would stand after a coin's own routing. -/
def tubesAfter (s : State) (i : Nat) : Vector Tube 6 :=
  match routedTube s i with
  | some t => tset s.chg.tubes t (tubeOf s t).addCoin
  | none => s.chg.tubes

/-- R57 and R58 for a coin class. -/
def coinSafeNow (s : State) (i : Nat) : Bool :=
  changeFor (tubesAfter s i) (requirement s.csh.strict s.sel.pMin (committed s) (coinOf s i).value)

/-- R57 and R58 for a bill class. -/
def billSafeNow (s : State) (i : Nat) : Bool :=
  changeFor s.chg.tubes (requirement s.csh.strict s.sel.pMin (committed s) (billOf s i).value)

/-- R68. -/
def effectiveFlag (s : State) (i : Nat) : Bool :=
  tget s.csh.hostMask false i && (billOf s i).enabled && s.mgt.mode == .online &&
    decide (committed s + (billOf s i).value ≤ s.csh.creditLimit) && billSafeNow s i

/-- R71: the largest value among the enabled coin classes and the enabled bill classes, 0 with none enabled. -/
def largestEnabled (s : State) : Nat :=
  max ((s.csh.coins.toList.map fun c => if c.enabled then c.value else 0).foldl max 0)
    ((s.csh.bills.toList.map fun b => if b.enabled then b.value else 0).foldl max 0)

/-- R71: the exact-change state is on when some enabled instrument of the largest value is not change-safe
with c = 0 under PURCHASE. -/
def exactChangeNow (s : State) : Bool :=
  let v := largestEnabled s
  let r := requirement false s.sel.pMin 0 v
  (List.range 16).any (fun i => (coinOf s i).enabled && (coinOf s i).value == v && !changeFor (tubesAfter s i) r) ||
    (List.range 8).any (fun i => (billOf s i).enabled && (billOf s i).value == v && !changeFor s.chg.tubes r)

/-! ## Own frames (R169) -/

/-- R161: the lowest-indexed entry in use of a role, with its index. -/
def entryOf (role : Role) (s : State) : Option (Nat × Route) :=
  (s.dlk.routes.toList.zipIdx.find? fun p => p.1.inUse && p.1.role == role).map fun p => (p.2, p.1)

/-- An ENABLE for a node. -/
def OwnFrame.isEnableFor (node : Nat) (f : OwnFrame) : Bool :=
  match f.kind with
  | .enable _ => f.node == node
  | _ => false

/-- The queued ENABLE of a node takes a new mask in place (R169). -/
def OwnFrame.replaceEnable (node : Nat) (k : OwnKind) (f : OwnFrame) : OwnFrame :=
  if f.isEnableFor node then { f with kind := k } else f

/-- R169: an owner hands DLK a frame for the BILL node or the CARD node. The flag of the result says that the
frame was dropped without being sent. -/
def handFrame (role : Role) (k : OwnKind) (s : State) : State × Bool :=
  match entryOf role s with
  | none => (s, true)
  | some (_, r) =>
    if r.presence ≠ .present then (s, true)
    else if k.kind = kEnable ∧ s.dlk.own.any (OwnFrame.isEnableFor r.base) then
      ({ s with dlk := { s.dlk with own := s.dlk.own.map (OwnFrame.replaceEnable r.base k) } }, false)
    else if 4 ≤ s.dlk.own.length then (s, true)
    else ({ s with dlk := { s.dlk with own := s.dlk.own ++ [⟨r.base, k⟩] } }, false)

/-- R69: CSH compares the mask with the BILL entry's last sent enable and hands an ENABLE when they differ and the node is
PRESENT. A dropped ENABLE is not acted on. -/
def sendEnable (s : State) : State :=
  match entryOf .bill s with
  | some (_, r) =>
    if r.presence = .present ∧ r.lastEnable ≠ some s.csh.effMask then (handFrame .bill (.enable s.csh.effMask) s).1 else s
  | none => s

/-- R58, R68, R71: the change-safe masks, the effective mask and the exact-change state evaluated again, and the comparison of R69. -/
def cshRefresh (s : State) : State :=
  let change := exactChangeNow s
  sendEnable <| reportIf (change != s.csh.exactChange) .exactChange
    { s with csh := { s.csh with
        coinSafe := tmk 16 (coinSafeNow s)
        billSafe := tmk 8 (billSafeNow s)
        effMask := tmk 8 (effectiveFlag s)
        exactChange := change } }

/-- The inputs whose changes R58, R68 and R71 list. The making of an escrow record is itself a change (`billEscrow`). -/
structure CashInputs where
  credit : Nat
  held : Nat
  escrow : Option (Nat × Bool)
  pMin : Option Nat
  strict : Bool
  limit : Nat
  hostMask : Vector Bool 8
  mode : Mode
  coins : Vector CoinClass 16
  bills : Vector BillClass 8
  tubes : List (Nat × Nat × Nat × Nat × TubeState × Bool)
  deriving DecidableEq, Repr

/-- The inputs as they stand. -/
def cashInputs (s : State) : CashInputs where
  credit := s.csh.credit
  held := heldPrice s
  escrow := s.csh.escrow.map fun e => (e.cls, e.stack)
  pMin := s.sel.pMin
  strict := s.csh.strict
  limit := s.csh.creditLimit
  hostMask := s.csh.hostMask
  mode := s.mgt.mode
  coins := s.csh.coins
  bills := s.csh.bills
  tubes := s.chg.tubes.toList.map fun t => (t.denom, t.capacity, t.count, t.reserve, t.state, t.fullCovered)

/-- CSH evaluates its flags again when one of their inputs has changed since `before` (R58, R68, R71). It is
called once for each bundle of changes that a rule makes together (log entry 6). -/
def settleCash (before s : State) : State := if cashInputs before = cashInputs s then s else cshRefresh s

/-- A tube entry stored. A change makes a TUBE_STATE report (R81). -/
def storeTube (i : Nat) (t : Tube) (s : State) : State :=
  reportIf (tubeOf s i != t) (.tube i) { s with chg := { s.chg with tubes := tset s.chg.tubes i t } }

end Sys2Proof.Machine
end

