-- ==== Sys2Proof/Machine/SpiralDrive.lean ====
section
/-! DEFINITION. The Spiral Drive (chapter 2): drivers, turns and their supervision, and the sweep. Claims are
filed and units released here without an evaluation; `evaluateClaims` follows in the caller (R138). -/

namespace Sys2Proof.Machine

/-! ## Claims (R136, R137) -/

/-- A claim filed at the end of the list; there is at most one of each kind. -/
def fileClaim (k : ClaimKind) (units : Nat) (s : State) : State :=
  { s with lds := { s.lds with claims := s.lds.claims.filter (fun c => c.kind != k) ++ [⟨k, units, s.now, false⟩] } }

/-- A claim withdrawn; with no such claim in the list, no effect. -/
def withdrawClaim (k : ClaimKind) (s : State) : State :=
  { s with lds := { s.lds with claims := s.lds.claims.filter fun c => c.kind != k } }

/-! ## Drivers (R29) -/

/-- All drivers of the matrix off. -/
def driversOff (s : State) : State := { s with spd := { s.spd with rowOn := none, colsOn := [] } }

/-- One column driver off; the row goes off with the last column. -/
def columnOff (col : Nat) (s : State) : State :=
  let cols := s.spd.colsOn.filter (· != col)
  { s with spd := { s.spd with colsOn := cols, rowOn := if cols.isEmpty then none else s.spd.rowOn } }

/-! ## Turns (section 2.4) -/

/-- R32: the motors of the vend are started and the drop window opens. A cam that reads open at start is
taken as already having opened. -/
def startTurn (v : VendCtx) (s : State) : State :=
  let cols := v.col :: v.partner.toList
  { s with spd := { s.spd with
      rowOn := some v.tray
      colsOn := cols
      turn := some {
        selection := v.selection
        tray := v.tray
        start := s.now
        motors := cols.map fun c =>
          { col := c, opened := tget s.spd.camOpen false (posIndex v.tray c), stop := .running, openTested := false }
        completed := none
        dropSeen := false } } }

/-- The motor of a turn on a column. -/
def Turn.motorAt (t : Turn) (col : Nat) : Option Motor := t.motors.find? fun m => m.col == col

/-- A motor of a turn changed. -/
def Turn.setMotor (t : Turn) (col : Nat) (f : Motor → Motor) : Turn :=
  { t with motors := t.motors.map fun m => if m.col = col then f m else m }

/-- R36: the health finding of a motor's stop. -/
def MotorStop.finding : MotorStop → Option Health
  | .normal => some .ok
  | .fault f => f
  | .running | .partnerFault => none

/-- R36: the health found for one motor of a turn is stored. -/
def storeFinding (tray : Nat) (s : State) (m : Motor) : State :=
  match m.stop.finding with
  | some h => storeHealth tray m.col h s
  | none => s

/-- R34 to R36: the turn completes with a result: the drivers are off, the health found for each motor is
stored, and SEL and CSH take what follows. Of a twin the selection's own position is stored and reported first, then
its partner's (log entry 6). -/
def completeTurn (r : TurnResult) (t : Turn) (s : State) : State :=
  let s1 := driversOff { s with spd := { s.spd with turn := some { t with completed := some (r, s.now) } } }
  settleCash s (selRefresh (t.motors.foldl (storeFinding t.tray) s1))

/-- R34, R35: a fault on a motor stops every motor of the turn and completes it. -/
def motorFault (col : Nat) (finding : Option Health) (r : TurnResult) (t : Turn) (s : State) : State :=
  let stopOne (m : Motor) : Motor :=
    if m.col = col then { m with stop := .fault finding, openTested := true }
    else if m.stop = .running then { m with stop := .partnerFault } else m
  completeTurn r { t with motors := t.motors.map stopOne } s

/-- R33, R35: a motor stops normally at its cam close; the turn completes with the last one. -/
def motorHome (col : Nat) (t : Turn) (s : State) : State :=
  let t1 := t.setMotor col fun m => { m with stop := .normal }
  if t1.motors.any fun m => m.stop == .running then
    columnOff col { s with spd := { s.spd with turn := some t1 } }
  else completeTurn .complete t1 s

/-- The turn, while it is not complete, with its running motor on a column. -/
def runningMotor (col : Nat) (s : State) : Option (Turn × Motor) :=
  match s.spd.turn with
  | some t =>
    if t.completed = none then
      match t.motorAt col with
      | some m => if m.stop = .running then some (t, m) else none
      | none => none
    else none
  | none => none

/-- R37, R41, R42: a turn is stopped, or its window closed early: drivers off, the close recorded for late
drops, no turn report. -/
def stopTurn (s : State) : State :=
  match s.spd.turn with
  | some t => driversOff { s with spd := { s.spd with turn := none, lateDrop := some (t.selection, s.now) } }
  | none => s

/-- R37: the drop seen in the window that a stop closes. -/
def windowDrop (s : State) : Bool :=
  match s.spd.turn with
  | some t => t.dropSeen
  | none => false

/-! ## The sweep (section 2.6) -/

/-- R44: the next cursor, or `none` when the advance runs past the end of the window. -/
def Sweep.advance (w : Sweep) : Option (Nat × Nat) :=
  let trayStart := if w.revTrays then w.trayLast else w.trayFirst
  let trayEnd := if w.revTrays then w.trayFirst else w.trayLast
  let colStart := if w.revCols then w.colLast else w.colFirst
  let colEnd := if w.revCols then w.colFirst else w.colLast
  let nextTray := if w.revTrays then w.cursorTray - 1 else w.cursorTray + 1
  let nextCol := if w.revCols then w.cursorCol - 1 else w.cursorCol + 1
  if w.columnsFirst then
    if w.cursorTray ≠ trayEnd then some (nextTray, w.cursorCol)
    else if w.cursorCol ≠ colEnd then some (trayStart, nextCol) else none
  else
    if w.cursorCol ≠ colEnd then some (w.cursorTray, nextCol)
    else if w.cursorTray ≠ trayEnd then some (nextTray, colStart) else none

/-- R47, R48: SWEEP_DONE goes into the reserved slot and the context is removed. -/
def sweepFinish (stopped : Bool) (w : Sweep) (s : State) : State :=
  consumeSlot (.sweepDone stopped w.lastChecked w.okCount w.openCount w.shortCount)
    { s with spd := { s.spd with sweep := none } }

/-- R45: a position whose tray is absent or whose column is not below the tray's columns is skipped. -/
def sweepSkips (s : State) (tray col : Nat) : Bool := !(trayOf s tray).present || decide ((trayOf s tray).columns ≤ col)

/-- R45, R48: a RUNNING sweep with check NONE looks at positions from its cursor until one is to be checked,
for which it files its claim, or the walk has finished. -/
def sweepLook : Nat → State → State
  | 0, s => s
  | n + 1, s =>
    match s.spd.sweep with
    | none => s
    | some w =>
      if w.paused ∨ w.check ≠ .none then s
      else if sweepSkips s w.cursorTray w.cursorCol then
        match w.advance with
        | none => sweepFinish false w s
        | some (t, c) =>
          sweepLook n { s with spd := { s.spd with sweep := some { w with cursorTray := t, cursorCol := c } } }
      else
        fileClaim .coilCheck 1 { s with spd := { s.spd with sweep := some { w with check := .claimed } } }

/-- A window holds at most 80 positions. -/
def sweepWalk (s : State) : State := sweepLook 80 s

/-- R46, R47: a check in progress ends without a result: its claim is withdrawn, or its drivers go off and its unit
is released. -/
def endCheck (s : State) : State :=
  match s.spd.sweep with
  | some w =>
    let s1 := { s with spd := { s.spd with sweep := some { w with check := .none } } }
    match w.check with
    | .none => s1
    | .claimed => withdrawClaim .coilCheck s1
    | .energized _ => driversOff { s1 with lds := { s1.lds with coilUnits := 0 } }
  | none => s

/-- R46: the sweep pauses. -/
def pauseSweep (s : State) : State :=
  let s1 := endCheck s
  match s1.spd.sweep with
  | some w => { s1 with spd := { s1.spd with sweep := some { w with paused := true } } }
  | none => s1

/-- R46: a PAUSED sweep becomes RUNNING when no vend context exists and the mode is not SAFE, and looks at its
cursor afresh. -/
def resumeSweep (s : State) : State :=
  match s.spd.sweep with
  | some w =>
    if w.paused ∧ s.vnd.ctx = none ∧ s.mgt.mode ≠ .safe then
      sweepWalk { s with spd := { s.spd with sweep := some { w with paused := false } } }
    else s
  | none => s

/-- R47, R49: the sweep ends with ending STOPPED. -/
def stopSweep (s : State) : State :=
  let s1 := endCheck s
  match s1.spd.sweep with
  | some w => sweepFinish true w s1
  | none => s1

/-- R45: the grant of the coil check is taken. -/
def energizeCheck (s : State) : State :=
  match s.spd.sweep with
  | some w =>
    { s with
      lds := { s.lds with coilUnits := 1 }
      spd := { s.spd with
        sweep := some { w with check := .energized s.now }
        rowOn := some w.cursorTray
        colsOn := [w.cursorCol] } }
  | none => s

/-- The check that is energized, with its sweep and the time it began. -/
def energizedCheck (s : State) : Option (Sweep × Time) :=
  match s.spd.sweep with
  | some w =>
    match w.check with
    | .energized t => some (w, t)
    | _ => none
  | none => none

/-- R45: a coil check ends: the drivers go off and its unit is released. -/
def releaseCheck (w : Sweep) (s : State) : State :=
  driversOff { s with
    lds := { s.lds with coilUnits := 0 }
    spd := { s.spd with sweep := some { w with check := .none } } }

/-- R45: the result of a check that has ended is stored and counted, and the cursor advances. -/
def finishCheck (h : Health) (w : Sweep) (s : State) : State :=
  let w1 := { w with
    check := .none
    lastChecked := some (posIndex w.cursorTray w.cursorCol)
    okCount := if h = .ok then w.okCount + 1 else w.okCount
    openCount := if h = .opened then w.openCount + 1 else w.openCount
    shortCount := if h = .shorted then w.shortCount + 1 else w.shortCount }
  let s1 := settleCash s (selRefresh (storeHealth w.cursorTray w.cursorCol h
    { s with spd := { s.spd with sweep := some w1 } }))
  match w1.advance with
  | none => sweepFinish false w1 s1
  | some (t, c) =>
    sweepWalk { s1 with spd := { s1.spd with sweep := some { w1 with cursorTray := t, cursorCol := c } } }

end Sys2Proof.Machine
end

