-- ==== Sys2Proof/Machine/Payouts.lean ====
section
/-! DEFINITION. The Change Unit's payouts (sections 4.4 to 4.6). Units are released and claims filed here without an
evaluation; `evaluateClaims` follows in the caller (R138). -/

namespace Sys2Proof.Machine

/-- SERVICE takes no account of reserves (R83). -/
def PayoutSource.isService (x : PayoutSource) : Bool := x == .service

/-- R87: the unpaid remainder. -/
def Payout.remainder (p : Payout) : Nat := p.requested - p.paid

/-- The coins already paid. -/
def Payout.coinsPaid (p : Payout) : Nat := (p.coins.map (·.2)).sum

/-- R72, R87: the unpaid remainder of a CHANGE or REFUND payout context. -/
def moneyOwed (s : State) : Nat :=
  match s.chg.payout with
  | some p => if p.source.isService then 0 else p.remainder
  | none => 0

/-- R95, R96: a payout ends: its unit or claim goes back, the unpaid remainder of a CHANGE or REFUND returns to
the cash credit, `queue` places the PAYOUT_RESULT, and the context is removed. The claims are evaluated after both reports
(R137, log entry 6). -/
def endPayoutWith (queue : EventReport → State → State) (s : State) : State :=
  match s.chg.payout with
  | some p =>
    let s1 := withdrawClaim .payout { s with
      lds := { s.lds with payoutUnits := 0 }
      chg := { s.chg with payout := none, drive := none } }
    let s2 := settleCash s (if p.source.isService then s1 else addCredit p.remainder s1)
    queue (.payoutResult p.source p.requested p.paid (decide (p.paid < p.requested)) p.coins) s2
  | none => s

/-- R95: PAYOUT_RESULT goes into the payout's reserved slot. -/
def endPayout (s : State) : State := endPayoutWith consumeSlot s

/-- R91: the drive of a tube is pulsed and its sensor window opens. -/
def driveCoin (tube : Nat) (p : Payout) (s : State) : State :=
  { s with chg := { s.chg with
      drive := some tube
      payout := some { p with tube := tube, pulse := some s.now, window := some s.now, jammed := false } } }

/-- R90: the first tube in planner order whose planned count is above 0. -/
def nextPlanned (p : Payout) (s : State) : Option Nat :=
  match p.plan with
  | some plan =>
    ((planTubes p.source.isService s.chg.tubes).find? fun t => decide (0 < tget plan 0 t.tube)).map (·.tube)
  | none => none

/-- Paying resumes with the first planned tube; an empty plan ends the payout (R90, R94). -/
def payFirst (p : Payout) (s : State) : State :=
  match nextPlanned p s with
  | some t => driveCoin t p s
  | none => endPayout { s with chg := { s.chg with payout := some p } }

/-- R94: a replan of the unpaid remainder, or the end of a payout whose replans are used up. -/
def replan (p : Payout) (s : State) : State :=
  if p.replans < 2 then
    payFirst { p with
      replans := p.replans + 1
      plan := some (makePlan p.source.isService s.chg.tubes p.remainder (coinCap - p.coinsPaid)) } s
  else endPayout s

/-- R90: what follows a coin: the next planned tube, checked before it is driven in form AMOUNT, or the end. -/
def nextCoin (s : State) : State :=
  match s.chg.payout with
  | some p =>
    match nextPlanned p s with
    | some t =>
      if p.form = .amount ∧ availability p.source.isService (tubeOf s t) = 0 then replan p s else driveCoin t p s
    | none => endPayout s
  | none => s

/-- R92, R93: after a tube found empty or jammed: a replan in form AMOUNT, the end in form TUBE, and the end after
an entry to SAFE (R96). -/
def afterFailure (s : State) : State :=
  match s.chg.payout with
  | some p => if p.cut ∨ p.form ≠ .amount then endPayout s else replan p s
  | none => s

/-- R90: the plan made on the grant. -/
def firstPlan (p : Payout) (s : State) : Vector Nat 6 :=
  match p.form with
  | .amount => makePlan p.source.isService s.chg.tubes p.requested coinCap
  | .tube t => tset (Vector.replicate 6 0) t (p.requested / (tubeOf s t).denom)

/-- R90: the grant is taken; the payout enters PAYING, makes its plan and begins with its first coin. -/
def beginPaying (s : State) : State :=
  match s.chg.payout with
  | some p =>
    payFirst { p with paying := true, plan := some (firstPlan p s) }
      { s with lds := { s.lds with payoutUnits := 1 } }
  | none => s

/-- R91: the coin list with one more coin of a tube. -/
def addToCoins (tube : Nat) : List (Nat × Nat) → List (Nat × Nat)
  | [] => [(tube, 1)]
  | (t, n) :: rest => if t = tube then (t, n + 1) :: rest else (t, n) :: addToCoins tube rest

/-- R91: the sighting of a coin, before what follows it. -/
def coinPaid (p : Payout) (s : State) : State :=
  let t := tubeOf s p.tube
  let a := s.csh.audit
  let s1 := storeTube p.tube { t with count := t.count - 1 } s
  settleCash s { s1 with
    csh := { s1.csh with audit :=
      if p.source.isService then { a with servicePaidOut := satAdd auditLimit a.servicePaidOut t.denom }
      else { a with cashPaidOut := satAdd auditLimit a.cashPaidOut t.denom } }
    chg := { s1.chg with payout := some { p with
      paid := p.paid + t.denom
      plan := p.plan.map fun k => tset k p.tube (tget k 0 p.tube - 1)
      coins := addToCoins p.tube p.coins
      window := none } } }

/-- R87: the context of a new payout, which files its claim unless the mode is SAFE. -/
def openPayout (src : PayoutSource) (form : PayoutForm) (amount : Nat) (s : State) : State :=
  let s1 := { s with chg := { s.chg with payout := some {
    source := src
    form := form
    requested := amount
    paying := false
    plan := none
    paid := 0
    coins := []
    replans := 0
    tube := 0
    pulse := none
    window := none
    jammed := false
    cut := false } } }
  if s.mgt.mode = .safe then s1 else fileClaim .payout 1 s1

/-- R87, R88: a CHANGE or REFUND payout takes the whole cash credit. -/
def startCreditPayout (src : PayoutSource) (s : State) : State :=
  settleCash s (openPayout src .amount s.csh.credit (takeCredit s.csh.credit s))

end Sys2Proof.Machine
end

