-- ==== Sys2Proof/Machine/Cooling.lean ====
section
/-! DEFINITION. The Cooling Unit (chapter 6): sensors, the filtered temperature, the compressor, the warm timer and the
safety hold. Claims are filed and units released here without an evaluation (R138). -/

namespace Sys2Proof.Machine

/-! ## Rounding (scope 3.4) -/

/-- The quotient rounded to nearest, halves away from zero (scope 3.4, R113); the divisor is positive. -/
def divNearest (a b : Int) : Int := if 0 ≤ a then (2 * a + b).tdiv (2 * b) else (2 * a - b).tdiv (2 * b)

/-! ## Sensors (section 6.1) -/

/-- A sensor's reading (R112): its value while its status is OK. -/
def Sensor.reading (x : Sensor) : Option Int := if x.fault then none else x.value

/-- A sensor record. -/
def sensorOf (s : State) (i : Nat) : Sensor := tget s.clg.sensors Sensor.powerOn i

/-- A calibration point. -/
def pointOf (s : State) (i : Nat) : Nat × Int := tget s.clg.points (0, 0) i

/-- R113: the highest-numbered point, at most 7, whose raw value is at or below the sample. -/
def bracketOf (pts : Vector (Nat × Int) 9) (raw : Nat) : Nat :=
  (List.range 8).foldl (fun b i => if (tget pts (0, 0) i).1 ≤ raw then i else b) 0

/-- R113: the temperature of a raw sample, or `none` out of range. -/
def convert (pts : Vector (Nat × Int) 9) (raw : Nat) : Option Int :=
  if raw < (tget pts (0, 0) 0).1 ∨ (tget pts (0, 0) 8).1 < raw then none
  else
    let p := tget pts (0, 0) (bracketOf pts raw)
    let q := tget pts (0, 0) (bracketOf pts raw + 1)
    some (divNearest (p.2 * ((q.1 : Int) - p.1) + ((raw : Int) - p.1) * (q.2 - p.2)) ((q.1 : Int) - p.1))

/-- R115: a sensor record after a sample. -/
def Sensor.sampled (x : Sensor) : Option Int → Sensor
  | some v =>
    let run := min 4 (x.inRun + 1)
    { value := some v, fault := x.fault && decide (run < 4), outRun := 0, inRun := run }
  | none =>
    let run := min 4 (x.outRun + 1)
    { value := x.value, fault := x.fault || decide (run = 4), outRun := run, inRun := 0 }

/-- R115: one sensor sampled; a change of status makes a SENSOR_STATE report. -/
def sampleSensor (i raw : Nat) (s : State) : State :=
  let x := (sensorOf s i).sampled (convert s.clg.points raw)
  reportIf ((sensorOf s i).fault != x.fault) (.sensor i)
    { s with clg := { s.clg with sensors := tset s.clg.sensors i x } }

/-- R116: the input temperature T. -/
def inputTemp (a b : Sensor) : Option Int :=
  match a.reading, b.reading with
  | some x, some y => some ((x + y).tdiv 2)
  | some x, none => some x
  | none, some y => some y
  | none, none => none

/-- R117: T_f moved toward T. -/
def filterStep (tf t : Int) : Int :=
  let d := (t - tf).tdiv 8
  if d ≠ 0 then tf + d else if tf < t then tf + 1 else if t < tf then tf - 1 else tf

/-- R117: T_f after a sample; `ended` says that BLIND ends at this sample. -/
def nextFiltered (ended : Bool) (tf t : Option Int) : Option Int :=
  match t, tf with
  | none, _ => tf
  | some t, none => some t
  | some t, some f => if ended then some t else some (filterStep f t)

/-! ## Contactor, fans and states (section 6.4) -/

/-- R130: both fans follow the door, the state and the contactor. -/
def setFans (s : State) : State :=
  { s with clg := { s.clg with
      evapFan := !s.cmn.doorOpen && s.clg.comp != .drip
      condFan := s.clg.contactor } }

/-- The compressor state set; a change makes a COOLING_STATE report (R129). Entering RUN begins the continuous
run and leaving it keeps its value (R123); the fans follow (R130). -/
def setComp (c : CompState) (s : State) : State :=
  if s.clg.comp = c then s
  else
    report .cooling (setFans { s with clg := { s.clg with
      comp := c
      runEntered := if c = .run then s.now else s.clg.runEntered
      contRun := if c = .run then 0 else if s.clg.comp = .run then s.now - s.clg.runEntered else s.clg.contRun } })

/-- The limit of the run-time accumulator, 86,400 s (R123). -/
def runLimit : Nat := seconds 86400

/-- R123: the run-time accumulator in ticks as it stands now. -/
def runTicksNow (s : State) : Nat :=
  min runLimit (s.clg.runTicks + if s.clg.contactor then s.now - s.clg.startedAt else 0)

/-- R123: the continuous run in ticks as it stands now. -/
def contRunNow (s : State) : Nat := if s.clg.comp = .run then s.now - s.clg.runEntered else s.clg.contRun

/-- The defrost interval in ticks. -/
def defrostTicks (s : State) : Nat := seconds (3600 * s.clg.settings.defrostInterval)

/-- R123: defrost is due. -/
def defrostDue (s : State) : Bool := decide (defrostTicks s ≤ runTicksNow s)

/-- R120: the contactor switched off, which is a stop. -/
def contactorOff (s : State) : State :=
  { s with clg := { s.clg with
      runTicks := runTicksNow s
      contactor := false
      condFan := false
      lastStop := s.now } }

/-- A stop (R122): the contactor off and every unit released. -/
def compStop (s : State) : State := contactorOff { s with lds := { s.lds with compUnits := 0 } }

/-- The start claim filed (R121, R126). -/
def fileStart (s : State) : State := fileClaim .compressor 4 s

/-- R121, R125, R126, R128: what IDLE does when it looks. -/
def idleLook (s : State) : State :=
  if s.clg.comp = .idle ∧ s.mgt.mode ≠ .safe ∧ s.clg.hot = false then
    if s.clg.blind then fileStart (setComp .blindOn s)
    else if s.clg.demand then fileStart (setComp .waitSupply s)
    else s
  else s

/-- The guard time of R120. -/
def guardTicks : Nat := seconds 180

/-- R120: GUARD ends for the state R121 or R126 gives. -/
def leaveGuard (s : State) : State := idleLook (setComp .idle s)

/-- R120: a move into GUARD with 180 s already passed leaves it in the same step. -/
def enterGuard (s : State) : State :=
  let s1 := setComp .guard s
  if s.clg.lastStop + guardTicks ≤ s.now then leaveGuard s1 else s1

/-- R123, R124: DEFROST begins; the accumulator is set to 0, and the settings in force are those it begins with (R118). -/
def enterDefrost (s : State) : State :=
  setComp .defrost { s with clg := { s.clg with
    runTicks := 0
    stateSince := s.now
    termInForce := s.clg.settings.defrostTermination
    maxInForce := s.clg.settings.defrostMaximum } }

/-- R124: DRIP begins; a drip time of 0 passes at once. -/
def enterDrip (s : State) : State :=
  let s1 := setComp .drip { s with clg := { s.clg with stateSince := s.now, dripInForce := s.clg.settings.dripTime } }
  if s.clg.settings.dripTime = 0 then enterGuard s1 else s1

/-- R122: a stop by demand, for DEFROST when it is due and for GUARD otherwise. -/
def stopByDemand (s : State) : State :=
  let s1 := compStop s
  if defrostDue s then enterDefrost s1 else enterGuard s1

/-- R121, R126: the grant of the start claim is taken. -/
def startCompressor (s : State) : State :=
  let s1 := { s with
    lds := { s.lds with compUnits := 4 }
    clg := { s.clg with contactor := true, condFan := true, startedAt := s.now } }
  if s.clg.comp = .blindOn then s1 else setComp .start s1

/-! ## The sample (R112) -/

/-- R116, R117: T, BLIND and T_f after the records. The beginning and the end of BLIND make a COOLING_STATE report (R129). -/
def sampleTemps (s : State) : State :=
  let a := sensorOf s 0
  let b := sensorOf s 1
  let blind := a.fault && b.fault
  let t := if blind then none else inputTemp a b
  reportIf (blind != s.clg.blind) .cooling { s with clg := { s.clg with
    temp := t
    filtered := nextFiltered (s.clg.blind && !blind) s.clg.filtered t
    blind := blind
    blindSince := if blind && !s.clg.blind then s.now else s.clg.blindSince } }

/-- R119: the effective setpoint. -/
def effectiveSetpoint (s : State) : Int :=
  s.clg.settings.setpoint + if s.clg.ecoEffective then s.clg.settings.economyOffset else 0

/-- R119: demand evaluated. -/
def sampleDemand (s : State) : State :=
  match s.clg.filtered with
  | some tf =>
    if s.clg.blind then s
    else if effectiveSetpoint s + s.clg.settings.differential ≤ tf then { s with clg := { s.clg with demand := true } }
    else if tf ≤ effectiveSetpoint s then { s with clg := { s.clg with demand := false } }
    else s
  | none => s

/-- R126: what the beginning of BLIND does to WAIT_SUPPLY, START and RUN; IDLE is looked at with the others. -/
def blindBegins (s : State) : State :=
  if s.clg.comp = .waitSupply ∨ s.clg.comp = .start ∨ s.clg.comp = .run then setComp .blindOn s else s

/-- R126: what the end of BLIND does to BLIND_ON and BLIND_OFF. -/
def blindEnds (s : State) : State :=
  if s.clg.comp = .blindOn then
    if s.clg.contactor then enterGuard (compStop s) else enterGuard (withdrawClaim .compressor s)
  else if s.clg.comp = .blindOff then enterGuard s
  else s

/-- R125: the hot flag cleared by a cool condenser. -/
def clearHot (s : State) : State :=
  match (sensorOf s 3).reading with
  | some r =>
    if s.clg.hot ∧ r ≤ s.clg.settings.condenserTrip - 100 then
      report .condenserHot { s with clg := { s.clg with hot := false } }
    else s
  | none => s

/-- R125: the condenser trip of a running compressor. -/
def tripCheck (s : State) : State :=
  match (sensorOf s 3).reading with
  | some r =>
    if s.clg.contactor ∧ s.clg.settings.condenserTrip ≤ r ∧
        (s.clg.comp = .start ∨ s.clg.comp = .run ∨ s.clg.comp = .blindOn) then
      enterGuard (report .condenserHot
        (compStop { s with clg := { s.clg with hot := true, tripCount := satAdd 255 s.clg.tripCount 1 } }))
    else s
  | none => s

/-- R124: a warm coil ends DEFROST. -/
def coilCheckWarm (s : State) : State :=
  match (sensorOf s 2).reading with
  | some r => if s.clg.comp = .defrost ∧ s.clg.termInForce ≤ r then enterDrip s else s
  | none => s

/-- The minimum run of R122. -/
def minimumRun : Nat := seconds 60

/-- R121, R122: what a sample that finds demand off does to WAIT_SUPPLY and RUN. -/
def demandOffCheck (s : State) : State :=
  if s.clg.demand then s
  else if s.clg.comp = .waitSupply then setComp .idle (withdrawClaim .compressor s)
  else if s.clg.comp = .run ∧ s.clg.startedAt + minimumRun ≤ s.now then stopByDemand s
  else s

/-- R119 to R126: demand and the transitions of a sample, in the order of log entry 6. `was` is BLIND before the sample. -/
def sampleTransitions (was : Bool) (s : State) : State :=
  let s1 := if s.clg.blind && !was then blindBegins s else if was && !s.clg.blind then blindEnds s else s
  idleLook (demandOffCheck (coilCheckWarm (tripCheck (clearHot (sampleDemand s1)))))

/-- R131: the grace window is open until its end time passes. -/
def graceOpen (s : State) : Bool :=
  match s.clg.grace with
  | some g => decide (s.now ≤ g.closeAt)
  | none => false

/-- R132: the warm time after a sample. -/
def nextWarmTime (s : State) : Nat :=
  let warm := s.clg.blind || (s.clg.filtered.map fun t => decide (s.clg.settings.safeLimit < t)).getD false
  let cool := !s.clg.blind && (s.clg.filtered.map fun t => decide (t ≤ s.clg.settings.safeLimit)).getD false
  if warm then if graceOpen s then s.clg.warmTime else satAdd 65535 s.clg.warmTime 1
  else if cool then 0 else s.clg.warmTime

/-- R133: the hold is to be set at this sample. -/
def holdDue (s : State) : Bool := !s.clg.hold && decide (60 * s.clg.settings.holdDelay ≤ s.clg.warmTime)

/-! ## The door (R130, R131) -/

/-- R131: the grace window at a door opening. -/
def graceOpens (s : State) : Grace :=
  match s.clg.grace with
  | some g => if s.now ≤ g.closeAt then { g with closeAt := g.first + minutes 45 } else ⟨s.now, s.now + minutes 45⟩
  | none => ⟨s.now, s.now + minutes 45⟩

/-- R131: the grace window at a door close. -/
def graceCloses (s : State) : Option Grace :=
  s.clg.grace.map fun g => if s.now ≤ g.closeAt then { g with closeAt := min g.closeAt (s.now + minutes 15) } else g

/-- R148: CLG takes a door change. -/
def coolDoor (isOpen : Bool) (s : State) : State :=
  setFans { s with clg := { s.clg with grace := if isOpen then some (graceOpens s) else graceCloses s } }

end Sys2Proof.Machine
end

