-- ==== Sys2Proof/Machine/Supply.lean ====
section
/-! DEFINITION. The Load Scheduler (sections 7.1 and 7.2): the evaluation of the claim list and the grants, each with the
load its owner switches on in the same step. -/

namespace Sys2Proof.Machine

/-- R136: the units granted. -/
def unitsGranted (s : State) : Nat := s.lds.vendUnits + s.lds.payoutUnits + s.lds.coilUnits + s.lds.compUnits

/-- R136: the free units. -/
def freeUnits (s : State) : Nat := 4 - unitsGranted s

/-- R138: the claim of a kind whose units are all free. -/
def grantableClaim (s : State) (k : ClaimKind) : Option Claim :=
  s.lds.claims.find? fun c => c.kind == k && decide (c.units ≤ freeUnits s)

/-- R138: the claim the evaluation grants next: a guarding claim alone while one exists, otherwise the first that fits in the
order vend, payout, coil check, compressor start. While the mode is SAFE nothing is granted. -/
def nextGrant (s : State) : Option Claim :=
  if s.mgt.mode = .safe then none
  else
    match s.lds.claims.find? (·.guarding) with
    | some g => if g.units ≤ freeUnits s then some g else none
    | none =>
      [ClaimKind.vend, .payout, .coilCheck, .compressor].findSome? (grantableClaim s)

/-- R13, R140: the vend takes its grant: TURN_1, and the motors start. -/
def grantVend (units : Nat) (s : State) : State :=
  match s.vnd.ctx with
  | some v =>
    startTurn v { s with
      lds := { s.lds with vendUnits := units }
      vnd := ⟨some { v with stage := .turn1 }⟩ }
  | none => s

/-- R140: a claim granted leaves the list, and its owner switches its load on. -/
def grantClaim (c : Claim) (s : State) : State :=
  let s1 := withdrawClaim c.kind s
  match c.kind with
  | .vend => grantVend c.units s1
  | .payout => beginPaying s1
  | .coilCheck => energizeCheck s1
  | .compressor => startCompressor s1

/-- Grants as long as a claim can be granted, at most `n`. -/
def evaluateUpTo : Nat → State → State
  | 0, s => s
  | n + 1, s =>
    match nextGrant s with
    | some c => evaluateUpTo n (grantClaim c s)
    | none => s

/-- R138: an evaluation of the claim list. Each grant shortens the list, so its length bounds the grants. -/
def evaluateClaims (s : State) : State := evaluateUpTo s.lds.claims.length s

end Sys2Proof.Machine
end

