-- ==== Sys2Proof/Machine/Settlement.lean ====
section
/-! DEFINITION. The settlement of a vend (section 1.5) with the card result that a CARD vend waits for (sections 5.3 and 5.4). -/

namespace Sys2Proof.Machine

/-! ## The outcome on the selection and on the money (R18, R19) -/

/-- R18, R19: the outcomes that count as a delivery. -/
def VendCtx.delivered (v : VendCtx) (o : VendOutcome) : Bool :=
  o == .success || (o == .interrupted && v.dropSeen)

/-- R18: the outcome on the selection entry; `jam` says that the turn that delivered reported JAM. -/
def outcomeEntry (o : VendOutcome) (jam : Bool) (v : VendCtx) (e : Selection) : Selection :=
  if v.delivered o then
    { e with
      stock := e.stock.map (· - 1)
      noDropRun := 0
      sales := satAdd 65535 e.sales 1
      state := if o = .success ∧ jam then .jammed else e.state }
  else
    match o with
    | .noDrop =>
      { e with
        noDropRun := min 2 (e.noDropRun + 1)
        state := if 1 ≤ e.noDropRun then .emptySuspect else e.state }
    | .jammed => { e with state := .jammed }
    | _ => e

/-- R19: the audit totals of a delivery. -/
def auditDelivery (v : VendCtx) (a : Audit) : Audit :=
  match v.payment with
  | .cash => { a with cashVended := satAdd auditLimit a.cashVended v.price }
  | .card => { a with cardVended := satAdd auditLimit a.cardVended v.price }
  | .free => { a with freeVends := satAdd auditLimit a.freeVends 1 }

/-- R19: the money of an outcome. -/
def settleMoney (o : VendOutcome) (v : VendCtx) (s : State) : State :=
  if v.delivered o then { s with csh := { s.csh with audit := auditDelivery v s.csh.audit } }
  else if v.payment = .cash then addCredit v.price s
  else s

/-- R18, R19: the outcome recorded and applied to the selection and the money. The Cash Unit looks at its
inputs afterwards. -/
def recordOutcome (o : VendOutcome) (jam : Bool) (v : VendCtx) (s : State) : State :=
  settleMoney o v (selRefresh (storeSelection v.selection (outcomeEntry o jam v (selOf s v.selection))
    { s with vnd := ⟨some { v with outcome := some o, stage := .settling }⟩ }))

/-- R20: the VEND_RESULT of a context. -/
def vendReport (v : VendCtx) (o : VendOutcome) (informed : Bool) : EventReport :=
  .vendResult v.selection v.payment o v.price (if v.payment = .card then some informed else none)
    (if o = .interrupted then some v.dropSeen else none)

/-! ## Finishing (R21) -/

/-- R21: automatic change is started. -/
def changeStarts (s : State) : Bool := decide (0 < s.csh.credit) && s.mgt.mode != .safe && s.chg.payout.isNone

/-- R21: the second slot of a CASH vend accepted with multi-vend off. -/
def settleSecondSlot (v : VendCtx) (s : State) : State :=
  if v.slots = 2 then
    if changeStarts s then evaluateClaims (startCreditPayout .change s) else releaseSlot s
  else s

/-- R20, R21: VEND_RESULT is queued, the second slot dealt with and the context removed; a paused sweep resumes. -/
def finishVend (informed : Bool) (s : State) : State :=
  match s.vnd.ctx with
  | some v =>
    let s1 := settleSecondSlot v (consumeSlot (vendReport v (v.outcome.getD .cancelled) informed) s)
    evaluateClaims (resumeSweep { s1 with vnd := ⟨none⟩ })
  | none => s

/-! ## The card session's states -/

/-- R97: the session record stored; a change of state or funds makes a CARD_SESSION report. -/
def setSession (c : Crd) (s : State) : State :=
  reportIf (s.crd.state != c.state || s.crd.funds != c.funds) .cardSession { s with crd := c }

/-- The session becomes NONE: funds UNKNOWN, nothing owed, close pending no. The last request is kept. -/
def sessionNone (s : State) : State :=
  setSession { s.crd with state := .none, funds := none, deadline := none, owed := none, closePending := false } s

/-- R110: a session that may not be OPEN is ended with a SESSION END. -/
def sessionEnds (s : State) : State := sessionNone (handFrame .card .sessionEnd s).1

/-- R110: the session enters OPEN, or ends where the mode is not ONLINE. -/
def sessionOpens (s : State) : State :=
  if s.mgt.mode = .online then setSession { s.crd with state := .opened, deadline := none, owed := none } s
  else sessionEnds s

/-- R107: the end of a VEND RESULT exchange, found by CRD. -/
def resultEnds (acked : Bool) (s : State) : State :=
  match s.crd.owed with
  | some r =>
    let s1 := if r.vendLink then finishVend acked s else s
    let s2 := { s1 with crd := { s1.crd with owed := none } }
    if s2.crd.closePending then sessionNone s2 else sessionOpens s2
  | none => s

/-- R103 to R106: a VEND RESULT is owed and handed to DLK; a drop without sending ends it at once (R169). -/
def oweResult (r : ResultOwed) (s : State) : State :=
  let s1 := setSession { s.crd with state := .vending, deadline := none, owed := some r } s
  match handFrame .card (.vendResult r.success r.price r.selection) s1 with
  | (s2, true) => resultEnds false s2
  | (s2, false) => s2

/-- R105, R106: VND requests a VEND RESULT for its context. With no session there is no frame, and VND is told
so at once. The rules do not say what a request does that finds the session OPEN again; it is taken as with no session
(log entry 45). -/
def requestResult (success : Bool) (v : VendCtx) (s : State) : State :=
  match s.crd.state with
  | .approvalWait | .vending =>
    oweResult { success := success, price := v.price, selection := v.selection, vendLink := true } s
  | .none | .opened => finishVend false s

/-! ## Settlement -/

/-- R18, R137: a vend's grant is released and its claim withdrawn, with the evaluation that follows. -/
def releaseVend (s : State) : State :=
  evaluateClaims (withdrawClaim .vend { s with lds := { s.lds with vendUnits := 0 } })

/-- R18 to R21: settlement with an outcome. `informed` is the reader informed value of a DENIED card vend. -/
def settle (o : VendOutcome) (jam informed : Bool) (s : State) : State :=
  match s.vnd.ctx with
  | some v =>
    let s1 := releaseVend s
    let s2 := settleCash s1 (recordOutcome o jam v s1)
    if v.payment = .card ∧ o ≠ .denied then requestResult (v.delivered o) v s2 else finishVend informed s2
  | none => s

end Sys2Proof.Machine
end

