-- ==== Sys2Proof/Machine/Card.lean ====
section
/-! DEFINITION. The Card Unit (chapter 5): what it does with the reader's events, with the ends of its frames, with the loss
of the reader and with the approval deadline. -/

namespace Sys2Proof.Machine

/-- R13: the vend enters LOAD_WAIT and files its claim unless the mode is SAFE. -/
def enterLoadWait (s : State) : State :=
  match s.vnd.ctx with
  | some v =>
    let s1 := { s with vnd := ⟨some { v with stage := .loadWait }⟩ }
    if s.mgt.mode = .safe then s1
    else evaluateClaims (fileClaim .vend (if v.partner.isSome then 2 else 1) s1)
  | none => s

/-- R12: the Card Unit ends a waiting vend DENIED. Its VEND_RESULT stands before the CARD_SESSION report of what follows (log
entry 6). -/
def denyVend (informed : Bool) (s : State) : State := settle .denied false informed s

/-- R100: the approval is asked for. A request dropped without being sent is the end of its exchange (R101). -/
def askApproval (v : VendCtx) (s : State) : State × Bool :=
  handFrame .card (.approvalRequest v.price v.selection)
    (setSession { s.crd with
      state := .approvalWait
      deadline := some (s.now + seconds 30)
      lastRequest := some (v.selection, v.price) } s)

/-- R101: the end of an APPROVAL REQUEST exchange. -/
def requestEnds (acked : Bool) (s : State) : State :=
  if s.crd.state = .approvalWait ∧ acked = false then sessionOpens (denyVend false s) else s

/-- R99. -/
def sessionOpenEvent (funds : Option Nat) (s : State) : State :=
  match s.crd.state with
  | .none =>
    if s.mgt.mode = .online then setSession { s.crd with state := .opened, funds := funds } s
    else (handFrame .card .sessionEnd s).1
  | .opened | .approvalWait => setSession { s.crd with funds := funds } s
  | .vending => setSession { s.crd with funds := funds, closePending := false } s

/-- R108. -/
def sessionCloseEvent (s : State) : State :=
  match s.crd.state with
  | .none => s
  | .opened => sessionNone s
  | .approvalWait => sessionNone (denyVend false s)
  | .vending => { s with crd := { s.crd with closePending := true } }

/-- R102, R104. Of a denial by a short amount the VEND_RESULT stands before the CARD_SESSION report (log entry 6). -/
def approvedEvent (amount : Nat) (s : State) : State :=
  match s.crd.state, s.crd.lastRequest with
  | .approvalWait, some (_, price) =>
    if price ≤ amount then enterLoadWait (setSession { s.crd with state := .vending, deadline := none } s)
    else sessionOpens (denyVend true s)
  | .opened, some (sel, price) =>
    oweResult { success := false, price := price, selection := sel, vendLink := false } s
  | _, _ => s

/-- R102, R104. The VEND_RESULT stands before the CARD_SESSION report (log entry 6). -/
def deniedEvent (s : State) : State :=
  if s.crd.state = .approvalWait then sessionOpens (denyVend true s) else s

/-- R103: the approval deadline expires. -/
def deadlineExpires (s : State) : State :=
  let s1 := denyVend false s
  match s1.crd.lastRequest with
  | some (sel, price) =>
    oweResult { success := false, price := price, selection := sel, vendLink := false } s1
  | none => s1

/-- R109: the CARD node has gone LOST. -/
def readerLost (s : State) : State :=
  match s.crd.state with
  | .none => s
  | .opened => sessionNone s
  | .approvalWait => sessionNone (denyVend false s)
  | .vending =>
    match s.crd.owed with
    | some r => sessionNone (if r.vendLink then finishVend false s else s)
    | none => sessionNone s

/-- R110: the mode leaves ONLINE. -/
def sessionLeavesOnline (s : State) : State := if s.crd.state = .opened then sessionEnds s else s

end Sys2Proof.Machine
end

