-- ==== Sys2Proof/Machine/Vend.lean ====
section
/-! DEFINITION. Vend Control (chapter 1): VEND and VEND CANCEL, the turn report, and the interruptions of section 1.6. -/

namespace Sys2Proof.Machine

/-! ## Acceptance (R10, R11) -/

/-- R10: the report slots a vend needs. -/
def vendSlots (s : State) (pay : Payment) : Nat := if pay = .cash ∧ s.csh.multiVend = false then 2 else 1

/-- R10, check 7. -/
def paymentRefusal (s : State) (pay : Payment) (price : Nat) : Option Status :=
  match pay with
  | .cash =>
    if s.csh.credit < price then some .creditShort
    else if s.chg.payout.isSome then some .payoutBusy
    else none
  | .card =>
    if s.crd.state ≠ .opened then some .noSession
    else if s.csh.credit ≠ 0 then some .cashPresent
    else if (s.crd.funds.map fun f => decide (price ≤ f)).getD true then none
    else some .creditShort
  | .free => none

/-- R10: the first check that fails. -/
def vendRefusal (s : State) (i : Nat) (pay : Payment) : Option Status :=
  let e := selOf s i
  if !((s.mgt.mode == .online && pay != .free) || (s.mgt.mode == .service && pay == .free)) then some .wrongMode
  else if s.vnd.ctx.isSome then some .vendBusy
  else if ¬(i < 80 ∧ e.state = .active) then some .notVendable
  else if e.stock = some 0 then some .soldOut
  else if isHeld s e then some .held
  else if !((trayOf s e.tray).present && positionFit s e) then some .notVendable
  else
    match paymentRefusal s pay e.price with
    | some st => some st
    | none => if canReserve (vendSlots s pay) s then none else some .queueFull

/-- R9, R11: the context of a new vend. -/
def newVend (s : State) (i : Nat) (pay : Payment) : VendCtx :=
  let e := selOf s i
  let pos := (positionOf s e).getD (0, none)
  { selection := i
    payment := pay
    price := e.price
    stage := if pay = .card then .approvalWait else .loadWait
    dropSeen := false
    slots := vendSlots s pay
    outcome := none
    tray := e.tray
    col := pos.1
    partner := pos.2 }

/-- R11: what the acceptance of a vend does. A sweep pauses before the vend's claim is evaluated, so that no
motor of a check is energized beside the vend's (R29, log entry 6). -/
def acceptVend (i : Nat) (pay : Payment) (s : State) : State :=
  let v := newVend s i pay
  let s1 := pauseSweep (reserve v.slots { s with vnd := ⟨some v⟩ })
  match pay with
  | .cash => enterLoadWait (settleCash s (takeCredit v.price s1))
  | .free => enterLoadWait s1
  | .card =>
    match askApproval v (evaluateClaims s1) with
    | (s2, true) => requestEnds false s2
    | (s2, false) => s2

/-- R10, R11: VEND. -/
def vendCommand (i : Nat) (pay : Payment) (s : State) : Answer × State :=
  match vendRefusal s i pay with
  | some st => (refuse st, s)
  | none => (okAnswer [], acceptVend i pay s)

/-! ## Cancel (R17) and the safety hold (R14) -/

/-- R17: VEND CANCEL. -/
def vendCancelCommand (s : State) : Answer × State :=
  match s.vnd.ctx with
  | none => (refuse .noVend, s)
  | some v =>
    if v.stage = .approvalWait ∨ v.stage = .loadWait then (okAnswer [], settle .cancelled false false s)
    else (refuse .tooLate, s)

/-- Whether a selection stands under the safety hold's rule: CHILLED and perishable (R3). -/
def underHold (s : State) (i : Nat) : Bool := isHeld s (selOf s i)

/-- R14: the safety hold has become set. -/
def holdCancelsVend (s : State) : State :=
  match s.vnd.ctx with
  | some v =>
    if (v.stage = .approvalWait ∨ v.stage = .loadWait) ∧ underHold s v.selection then settle .cancelled false false s
    else s
  | none => s

/-! ## The turn report (R15, R16) -/

/-- R15, R16: what a turn report with this result and drop leads to; `none` is a second turn. -/
def turnOutcome (s : State) (v : VendCtx) (r : TurnResult) (drop : Bool) : Option VendOutcome :=
  if drop then some .success
  else
    match r with
    | .jam => some .jammed
    | .motorOpen => some .motorOpen
    | .complete =>
      if v.stage = .turn2 then some .noDrop
      else if (selOf s v.selection).secondTurn = false then some .noDrop
      else if underHold s v.selection then some .noDrop
      else none

/-- R15, R16: VND takes a turn report. -/
def turnReport (r : TurnResult) (drop : Bool) (s : State) : State :=
  match s.vnd.ctx with
  | some v =>
    let v1 := { v with dropSeen := v.dropSeen || drop }
    match turnOutcome s v r drop with
    | some o => settle o (decide (r = .jam)) false { s with vnd := ⟨some v1⟩ }
    | none => startTurn v { s with vnd := ⟨some { v1 with stage := .turn2 }⟩ }
  | none => s

/-! ## Interruptions (section 1.6) -/

/-- The stages in which a motor turns or a window is open. -/
def Stage.turning : Stage → Bool
  | .turn1 | .turn2 => true
  | _ => false

/-- R22: a vend in a turn is interrupted, with the drop its stopped window saw. -/
def interruptVend (drop : Bool) (s : State) : State :=
  match s.vnd.ctx with
  | some v =>
    if v.stage.turning then
      settle .interrupted false false { s with vnd := ⟨some { v with dropSeen := v.dropSeen || drop }⟩ }
    else s
  | none => s

/-- R13, R22: when SAFE ends a vend in LOAD_WAIT files its claim. The evaluation follows in the caller. -/
def refileVend (s : State) : State :=
  match s.vnd.ctx with
  | some v => if v.stage = .loadWait then fileClaim .vend (if v.partner.isSome then 2 else 1) s else s
  | none => s

/-- R23: the outcome a management reset gives a vend, with the context it is recorded for. -/
def resetVend (drop : Bool) (v : VendCtx) : VendOutcome × VendCtx :=
  match v.stage with
  | .approvalWait | .loadWait => (.cancelled, v)
  | .turn1 | .turn2 => (.interrupted, { v with dropSeen := v.dropSeen || drop })
  | .settling => (v.outcome.getD .cancelled, v)

/-- R23: the money and the selection of a vend that a management reset ends; one in SETTLING is settled already. -/
def resetVendSettles (drop : Bool) (s : State) : State :=
  match s.vnd.ctx with
  | some v =>
    let s1 := if v.stage = .settling then s else recordOutcome (resetVend drop v).1 false (resetVend drop v).2 s
    { s1 with vnd := ⟨none⟩ }
  | none => s

/-- R23: the VEND_RESULT of a vend that a management reset ends. -/
def resetVendReport (drop : Bool) (s : State) : Option EventReport :=
  s.vnd.ctx.map fun v => vendReport (resetVend drop v).2 (resetVend drop v).1 false

end Sys2Proof.Machine
end

