-- ==== Sys2Proof/Machine/Cash.lean ====
section
/-! DEFINITION. The Cash Unit's events (chapter 3): coins at the gate, the return lever, bills in escrow, and the audit clear. -/

namespace Sys2Proof.Machine

/-! ## Coins (section 3.4) -/

/-- R59: a coin is let into the accept path, toward its tube chute or the cashbox chute. -/
def openGate (toTube : Bool) (s : State) : State :=
  { s with csh := { s.csh with gateOpen := true, gateSince := s.now, diverterTube := toTube } }

/-- R59: the gate closes. -/
def closeGate (s : State) : State := { s with csh := { s.csh with gateOpen := false } }

/-- R60. -/
def coinAccepted (s : State) (i : Nat) : Bool :=
  (coinOf s i).enabled && s.chg.payout.isNone && decide (committed s + (coinOf s i).value ≤ s.csh.creditLimit) &&
    tget s.csh.coinSafe false i

/-- R62: a coin that fill mode accepts, with its tube. -/
def fillTube (s : State) (i : Nat) : Option Nat :=
  match routedTube s i with
  | some t => if (coinOf s i).value = (tubeOf s t).denom ∧ s.chg.payout = none then some t else none
  | none => none

/-- R61, R77: a coin enters its tube, if it has one. -/
def coinEnters (t : Option Nat) (s : State) : State :=
  match t with
  | some t => storeTube t (tubeOf s t).addCoin s
  | none => s

/-- R61: a coin accepted for credit. -/
def creditCoin (i : Nat) (s : State) : State :=
  let v := (coinOf s i).value
  let s1 := addCredit v (coinEnters (routedTube s i) (openGate (routedTube s i).isSome s))
  settleCash s { s1 with csh := { s1.csh with audit :=
    { s1.csh.audit with coinsIn := satAdd auditLimit s1.csh.audit.coinsIn v } } }

/-- R62: a coin accepted in fill mode. -/
def fillCoin (t i : Nat) (s : State) : State :=
  let s1 := coinEnters (some t) (openGate true s)
  settleCash s { s1 with csh := { s1.csh with audit :=
    { s1.csh.audit with serviceFill := satAdd auditLimit s1.csh.audit.serviceFill (coinOf s i).value } } }

/-- R59: a coin of a class is decided by the machine mode. -/
def coinDecided (i : Nat) (s : State) : State :=
  match s.mgt.mode with
  | .online => if coinAccepted s i then creditCoin i s else closeGate s
  | .service =>
    match fillTube s i with
    | some t => fillCoin t i s
    | none => closeGate s
  | .setup | .safe => closeGate s

/-! ## The lever (R63) and REFUND (R88) -/

/-- A CASH vend context exists. -/
def cashVendExists (s : State) : Bool := (s.vnd.ctx.map fun v => v.payment == .cash).getD false

/-- R88: the first check of REFUND that fails. The lever's conditions are the same (R63). -/
def refundRefusal (s : State) : Option Status :=
  if s.mgt.mode ≠ .online ∧ s.mgt.mode ≠ .service then some .wrongMode
  else if s.csh.credit = 0 then some .noCredit
  else if s.chg.payout.isSome then some .payoutBusy
  else if cashVendExists s then some .vendBusy
  else if canReserve 1 s then none else some .queueFull

/-- R88: a REFUND of the whole cash credit begins. -/
def startRefund (s : State) : State := evaluateClaims (startCreditPayout .refund (reserve 1 s))

/-- R88: REFUND. -/
def refundCommand (s : State) : Answer × State :=
  match refundRefusal s with
  | some st => (refuse st, s)
  | none => (okAnswer (w2 s.csh.credit), startRefund s)

/-! ## Bills (section 3.6) -/

/-- R64: the decision on a bill in escrow. -/
def stackBill (s : State) (c : Nat) : Bool :=
  s.mgt.mode == .online && (billOf s c).enabled && tget s.csh.hostMask false c && s.chg.payout.isNone &&
    decide (committed s + (billOf s c).value ≤ s.csh.creditLimit) && tget s.csh.billSafe false c

/-- R65, R67: the pending escrow record is removed, and the Cash Unit looks at its inputs. -/
def dropEscrow (s : State) : State := settleCash s { s with csh := { s.csh with escrow := none } }

/-- R58, R64, R65, R69: BILL ESCROW. The record made is a change of the Cash Unit's inputs, also where it replaces an equal one,
so that the flags are evaluated and the mask compared. An ENABLE is handed after the ESCROW ACTION; an action dropped without
being sent ends its record at once (R67). -/
def billEscrow (c : Nat) (s : State) : State :=
  let n := s.csh.escrowNumber + 1
  let stack := stackBill s c
  let s1 := { s with csh := { s.csh with
    escrowNumber := n
    escrow := some { cls := c, stack := stack, decidedAt := s.now, number := n } } }
  match handFrame .bill (.escrowAction c stack n) s1 with
  | (s2, dropped) => cshRefresh (if dropped then { s2 with csh := { s2.csh with escrow := none } } else s2)

/-- R66: the value of a stacked bill; a class outside 0 to 7 has none. -/
def billValue (s : State) (c : Nat) : Nat := if c < 8 then (billOf s c).value else 0

/-- R66: what a stacked bill adds to the cash credit. -/
def billCredit (s : State) (c : Nat) : Nat := min (billValue s c) (65535 - s.csh.credit)

/-- R66: the record that a stacked bill is expected by. -/
def escrowMatches (s : State) (c : Nat) : Bool :=
  (s.csh.escrow.map fun e => e.stack && e.cls == c).getD false

/-- The anomaly record of a node. -/
def anomalyOf (s : State) (node : Nat) : Anomaly := tget s.csh.anomalies ⟨0, 0, 0⟩ (node - 0x20)

/-- R66: an anomaly is counted and reported. The rules give no value to a bill of a class outside 0 to 7, so its value
not credited is free (log entry 7). -/
def billAnomaly (node c notCredited : Nat) (s : State) : State :=
  let a : Anomaly := {
    count := satAdd 255 (anomalyOf s node).count 1
    cls := c
    uncredited := if c < 8 then notCredited else (Config.unknownBillValue s.freeIx).toNat }
  report (.billAnomaly node) { s with
    csh := { s.csh with anomalies := tset s.csh.anomalies (node - 0x20) a }
    freeIx := if c < 8 then s.freeIx else s.freeIx + 1 }

/-- R66: BILL STACKED from the BILL node. A CREDIT report follows a bill of a class 0 to 7, also where the credit stands at the end
of its range and takes nothing of it. -/
def billStacked (node c : Nat) (s : State) : State :=
  let add := billCredit s c
  let a := s.csh.audit
  let s1 := reportIf (decide (c < 8)) .credit { s with csh := { s.csh with
    credit := s.csh.credit + add
    audit := { a with billsIn := satAdd auditLimit a.billsIn add }
    escrow := none } }
  settleCash s (if escrowMatches s c then s1 else billAnomaly node c (billValue s c - add) s1)

/-! ## The audit clear (R73) -/

/-- R73: AUDIT CLEAR. -/
def auditClearCommand (s : State) : Answer × State :=
  if s.mgt.mode = .safe then (refuse .wrongMode, s)
  else if 0 < s.csh.credit ∨ s.vnd.ctx.isSome ∨ s.chg.payout.isSome then (refuse .busy, s)
  else (okAnswer [], { s with csh := { s.csh with audit := Audit.zero } })

/-- R186, R70: HOST BILL MASK. A mask equal to the one held changes nothing (R186): the effective mask is not compared
with the last sent enable either (log entry 48). -/
def hostBillMaskCommand (m : Byte) (s : State) : Answer × State :=
  if s.mgt.mode = .safe then (refuse .wrongMode, s)
  else
    let s1 := settleCash s { s with csh := { s.csh with hostMask := maskOf m } }
    (okAnswer [maskByte s1.csh.hostMask, maskByte s1.csh.effMask], s1)

end Sys2Proof.Machine
end

