-- ==== Sys2Proof/Machine/Modes.lean ====
section
/-! DEFINITION. The machine modes (section 10.3): changes of mode, the entry to SAFE and its end (sections 7.3 to 7.5), the door
(section 7.6), and the segment release that depends on the mode (section 9.6). -/

namespace Sys2Proof.Machine

/-! ## The segment (R173 to R175) -/

/-- R174, R176: a pending release is completed when no exchange is in flight and no frame is being sent. While
RELEASED no poll is due or deferred. -/
def tryRelease (s : State) : State :=
  if s.dlk.seg = .releasePending ∧ s.dlk.exchange = none ∧ s.dlk.sending = none then
    { s with dlk := { s.dlk with
        seg := .released
        sgr := true
        dde := false
        polls := tmap (fun p => { p with due := false, deferred := false }) s.dlk.polls } }
  else s

/-- R173: a release is wanted and the mode allows it. -/
def pendRelease (s : State) : State :=
  tryRelease { s with dlk := { s.dlk with seg := .releasePending, requestWaiting := false } }

/-- R173: the mode leaves ONLINE. -/
def segmentLeavesOnline (s : State) : State :=
  if s.dlk.seg = .owned ∧ s.dlk.requestWaiting then pendRelease s else s

/-- R173: the request line becomes active. -/
def requestActive (s : State) : State :=
  if s.dlk.seg = .owned then
    if s.mgt.mode = .online then { s with dlk := { s.dlk with requestWaiting := true } } else pendRelease s
  else s

/-- R175: the segment comes back from the service tool. -/
def segmentReturns (s : State) : State :=
  { s with dlk := { s.dlk with
      seg := .owned
      sgr := false
      routes := tmap (fun r => { r with missed := 0 }) s.dlk.routes
      polls := tmk 8 fun i =>
        let p := tget s.dlk.polls ⟨0, false, false⟩ i
        if (tget s.dlk.routes Route.powerOn i).inUse then { p with due := true, deferred := false } else p } }

/-- R173: the request line becomes inactive. -/
def requestInactive (s : State) : State :=
  match s.dlk.seg with
  | .owned => { s with dlk := { s.dlk with requestWaiting := false } }
  | .releasePending => { s with dlk := { s.dlk with seg := .owned } }
  | .released => segmentReturns s

/-! ## Changes of mode (R188, R189) -/

/-- The return mode that a mode left for SAFE gives (R188). -/
def Mode.toReturn : Mode → ReturnMode
  | .online => .online
  | .service => .service
  | .setup | .safe => .setup

/-- R188: the mode set, with the return mode of an entry to SERVICE. -/
def storeMode (m : Mode) (s : State) : State :=
  { s with mgt := { mode := m, returnMode := if m = .service then .online else s.mgt.returnMode } }

/-- R189: CSH, CRD and DLK take a change of mode from `before`, in this order. -/
def modeFollows (before s : State) : State :=
  let s1 := settleCash before s
  if before.mgt.mode = .online ∧ s.mgt.mode ≠ .online then segmentLeavesOnline (sessionLeavesOnline s1) else s1

/-- R189: a change of mode that neither enters nor leaves SAFE. A mode already held is no change. -/
def changeMode (m : Mode) (s : State) : State :=
  if s.mgt.mode = m then s
  else
    let s1 := storeMode m s
    modeFollows s (evaluateClaims (if m = .online then stopSweep s1 else s1))

/-! ## SAFE (R141, R144, section 7.5) -/

/-- R141: LDS takes back every grant and drops every claim. -/
def dropAllGrants (s : State) : State :=
  { s with lds := { claims := [], vendUnits := 0, payoutUnits := 0, coilUnits := 0, compUnits := 0 } }

/-- R96: a payout at the entry to SAFE. -/
def cutPayout (s : State) : State :=
  match s.chg.payout with
  | some p =>
    if p.paying ∧ p.window.isSome then
      { s with chg := { s.chg with drive := none, payout := some { p with pulse := none, cut := true } } }
    else endPayout s
  | none => s

/-- R128: the compressor at the entry to SAFE. -/
def coolingEntersSafe (s : State) : State :=
  if s.clg.comp = .disabled then s else setComp .guard (contactorOff s)

/-- R144: the entry to SAFE. -/
def enterSafe (s : State) : State :=
  let drop := windowDrop s
  let s1 := { s with mgt := { mode := .safe, returnMode := s.mgt.mode.toReturn } }
  let s2 := coolingEntersSafe (cutPayout (interruptVend drop (pauseSweep (stopTurn (dropAllGrants s1)))))
  modeFollows s s2

/-- R145: the mode taken up when SAFE ends. -/
def modeAfterSafe (s : State) : Mode :=
  match s.mgt.returnMode, s.cmn.doorOpen with
  | .setup, _ => .setup
  | _, false => .online
  | _, true => .service

/-- R145: the end of SAFE, with one evaluation of the claims filed anew (R141). -/
def leaveSafe (s : State) : State :=
  let m := modeAfterSafe s
  let s1 := idleLook (refileVend (storeMode m s))
  let s2 := if m = .online then stopSweep s1 else resumeSweep s1
  evaluateClaims (modeFollows s s2)

/-! ## The door (R147, R148) -/

/-- R148: MGT takes a door change. -/
def doorMovesMode (isOpen : Bool) (s : State) : State :=
  match s.mgt.mode, isOpen with
  | .online, true => changeMode .service s
  | .service, false => changeMode .online s
  | _, _ => s

/-- R147, R148: a door change taken. The DOOR report stands before those of the change of mode, and CLG takes the door
after MGT (log entry 6). -/
def doorTaken (isOpen : Bool) (s : State) : State :=
  coolDoor isOpen <| doorMovesMode isOpen <| report .door
    { s with cmn := { s.cmn with
        doorOpen := isOpen
        openings := if isOpen then satAdd 65535 s.cmn.openings 1 else s.cmn.openings } }

/-! ## The supply monitor (R143) -/

/-- R143: the runs and the voltage of a sample. -/
def supplySampled (volts : Nat) (s : State) : State :=
  { s with cmn := { s.cmn with
      volts := volts
      lowRun := if volts < 190 then min 4 (s.cmn.lowRun + 1) else 0
      goodRun := if 215 ≤ volts then min 200 (s.cmn.goodRun + 1) else 0
      nextSupply := s.cmn.nextSupply + ms 10 } }

/-- R143: the sample that changes the supply state to LOW. -/
def completesLow (volts : Nat) (s : State) : Bool := !s.cmn.supplyLow && decide (volts < 190) && decide (3 ≤ s.cmn.lowRun)

/-- R143: the sample that changes the supply state to GOOD. -/
def completesGood (volts : Nat) (s : State) : Bool :=
  s.cmn.supplyLow && decide (215 ≤ volts) && decide (199 ≤ s.cmn.goodRun)

end Sys2Proof.Machine
end

