-- ==== Sys2Proof/Machine/Downstream.lean ====
section
/-! DEFINITION. The Downstream Link's exchanges (sections 9.2 to 9.5) and its receiver's frames (R153, R154, R160). -/

namespace Sys2Proof.Machine

/-- A receiver with its frame taken or discarded: READY, with an empty buffer. The line is at mark, so that no start edge comes
before this moment (R153, R155). -/
def Receiver.readyAt (now : Time) : Receiver :=
  { line := .ready, buffer := [], count := 0, overrun := false, idleFrom := now, markAt := now }

/-! ## Routes -/

/-- A route entry. -/
def routeOf (s : State) (i : Nat) : Route := tget s.dlk.routes Route.powerOn i

/-- R161: an entry in use covers the addresses of its span. -/
def Route.covers (r : Route) (addr : Nat) : Bool := r.inUse && decide (r.base ≤ addr) && decide (addr < r.base + r.span)

/-- The entry that covers an address, with its index. -/
def coveringEntry (s : State) (addr : Nat) : Option (Nat × Route) :=
  (s.dlk.routes.toList.zipIdx.find? fun p => p.1.covers addr).map fun p => (p.2, p.1)

/-- R161: the index is that of the entry of a role that the role's frames and events belong to. -/
def isEntryOf (role : Role) (s : State) (i : Nat) : Bool := ((entryOf role s).map (·.1)) == some i

/-- R161: an entry whose events are handled as those of a PASSIVE entry. -/
def actsPassive (s : State) (i : Nat) : Bool := !(isEntryOf .bill s i || isEntryOf .card s i)

/-- A route entry stored. -/
def setRoute (i : Nat) (r : Route) (s : State) : State := { s with dlk := { s.dlk with routes := tset s.dlk.routes i r } }

/-! ## Ends of own frames, told to their owners (R169, R170) -/

/-- The owner of an own frame takes its end. The end of an ESCROW ACTION acts on the record it was made for (R67). -/
def ownFrameEnds (acked : Bool) (f : OwnFrame) (s : State) : State :=
  match f.kind with
  | .enable _ | .sessionEnd => s
  | .escrowAction _ _ n =>
    if !acked && (s.csh.escrow.map fun e => e.number == n).getD false then dropEscrow s else s
  | .approvalRequest .. => requestEnds acked s
  | .vendResult .. => resultEnds acked s

/-- R165, R162: the frames queued for a node are removed, and each is reported to its owner as dropped. -/
def dropOwnFrames (node : Nat) (s : State) : State :=
  (s.dlk.own.filter fun f => f.node == node).foldl (fun a f => ownFrameEnds false f a)
    { s with dlk := { s.dlk with own := s.dlk.own.filter fun f => f.node != node } }

/-! ## Presence (R165) -/

/-- R165: the loss of a node passed to the Cash Unit and to the Card Unit. -/
def passLoss (bill card : Bool) (s : State) : State :=
  let s1 := if bill then dropEscrow s else s
  if card then readerLost s1 else s1

/-- R165: an entry goes LOST. -/
def entryLost (i : Nat) (r : Route) (s : State) : State :=
  let s1 := report (.node r.base) (setRoute i { r with presence := .lost, missed := 3 } s)
  dropOwnFrames r.base (passLoss (isEntryOf .bill s1 i) (isEntryOf .card s1 i) s1)

/-- R165: an exchange to an entry's address was replied. -/
def entryReplied (i : Nat) (r : Route) (s : State) : State :=
  let s1 := setRoute i { r with presence := .present, missed := 0 } s
  if r.presence = .present then s1
  else
    let s2 := report (.node r.base) s1
    if isEntryOf .bill s2 i then sendEnable s2 else s2

/-- R165: an exchange to an entry's address was missed. -/
def entryMissed (i : Nat) (r : Route) (s : State) : State :=
  if r.presence = .present then
    if r.missed + 1 < 3 then setRoute i { r with missed := r.missed + 1 } s else entryLost i r s
  else s

/-- R165: the presence that follows an exchange's end; a destination that no entry covers any longer has none. -/
def updatePresence (replied : Bool) (dest : Nat) (s : State) : State :=
  match coveringEntry s dest with
  | some (i, r) => if replied then entryReplied i r s else entryMissed i r s
  | none => s

/-! ## Poll events (R168, R192) -/

/-- What an EVENT payload holds for the SV640's own blocks. -/
inductive PeripheralEvent where
  | billEscrow (cls : Nat)
  | billStacked (cls : Nat)
  | billReturned
  | sessionOpen (funds : Option Nat)
  | sessionClose
  | approved (amount : Nat)
  | denied
  deriving DecidableEq, Repr

/-- R192: the bill events, with parameters that match their kind. -/
def billEventOf (code : Byte) : List Byte → Option PeripheralEvent
  | [c] =>
    if code = 0x01 then some (.billEscrow c.toNat)
    else if code = 0x02 then some (.billStacked c.toNat)
    else if code = 0x03 then some .billReturned
    else none
  | _ => none

/-- R192: the card events, with parameters that match their kind. The known character is two-valued (R190, log entry
21); at 0 the funds are UNKNOWN whatever their two characters hold (log entry 50). -/
def cardEventOf (code : Byte) : List Byte → Option PeripheralEvent
  | [] => if code = 0x09 then some .sessionClose else if code = 0x0B then some .denied else none
  | [lo, hi] => if code = 0x0A then some (.approved (val2 lo hi)) else none
  | [known, lo, hi] =>
    if code = 0x08 then
      if known = 1 then some (.sessionOpen (some (val2 lo hi)))
      else if known = 0 then some (.sessionOpen none)
      else none
    else none
  | _ => none

/-- R168: the event that an entry's role hands to the Cash Unit or the Card Unit. -/
def consumedEvent (s : State) (i : Nat) (code : Byte) (params : List Byte) : Option PeripheralEvent :=
  if isEntryOf .bill s i then billEventOf code params
  else if isEntryOf .card s i then cardEventOf code params
  else none

/-- R64, R66, R67, R99, R102, R104, R108: an event taken by its block. -/
def takeEvent (node : Nat) (ev : PeripheralEvent) (s : State) : State :=
  match ev with
  | .billEscrow c => billEscrow c s
  | .billStacked c => billStacked node c s
  | .billReturned => dropEscrow s
  | .sessionOpen f => sessionOpenEvent f s
  | .sessionClose => sessionCloseEvent s
  | .approved a => approvedEvent a s
  | .denied => deniedEvent s

/-- R167: the slot of a poll that queues no PERIPHERAL_EVENT. -/
def releasePollSlot (slot : Bool) (s : State) : State := if slot then releaseSlot s else s

/-- R168: an event that no block consumes: a PERIPHERAL_EVENT in the poll's slot, or discarded and counted. With the count at its
end a discard changes nothing, and makes no NODE_STATE report (log entry 52). -/
def reportEvent (x : Exchange) (slot : Bool) (code : Byte) (params : List Byte) (s : State) : State :=
  if slot then consumeSlot (.peripheralEvent x.dest code params) s
  else
    let r := routeOf s x.entry
    reportIf (decide (r.discarded < 255)) (.node r.base) (setRoute x.entry { r with discarded := satAdd 255 r.discarded 1 } s)

/-- R168: a poll replied. The poll's slot is released before a consumed event acts (section 9.8, log entry 6). -/
def pollReplied (x : Exchange) (slot : Bool) (kind : Byte) (payload : List Byte) (s : State) : State :=
  if kind = kEvent then
    match payload with
    | [] => releasePollSlot slot s
    | code :: params =>
      match consumedEvent s x.entry code params with
      | some ev => takeEvent x.dest ev (releasePollSlot slot s)
      | none => reportEvent x slot code params s
  else releasePollSlot slot s

/-! ## Ends of exchanges (R164) -/

/-- R170: the last sent enable of the BILL entry after an acknowledged ENABLE, whichever entry that is by then (log
entry 51). -/
def enableAcked (f : OwnFrame) (s : State) : State :=
  match f.kind, entryOf .bill s with
  | .enable m, some (i, r) => setRoute i { r with lastEnable := some m } s
  | _, _ => s

/-- R172: a transit leaves the queue. -/
def removeTransit (tag : Nat) (s : State) : State :=
  { s with dlk := { s.dlk with transits := s.dlk.transits.filter fun t => t.tag != tag } }

/-- R168, R170, R172: an exchange replied, by its kind. -/
def repliedByKind (x : Exchange) (src kind : Byte) (payload : List Byte) (s : State) : State :=
  match x.kind with
  | .poll slot => pollReplied x slot kind payload s
  | .own f =>
    if kind = kAck then ownFrameEnds true f (enableAcked f s) else ownFrameEnds false f s
  | .transit tag => consumeSlot (.transitReply tag src.toNat kind payload) (removeTransit tag s)

/-- R162, R168, R170, R172: an exchange that ends without a reply, by its kind. -/
def unrepliedByKind (x : Exchange) (s : State) : State :=
  match x.kind with
  | .poll slot => releasePollSlot slot s
  | .own f => ownFrameEnds false f s
  | .transit tag => consumeSlot (.transitLost tag) (removeTransit tag s)

/-- The exchange's record removed. -/
def clearExchange (s : State) : State := { s with dlk := { s.dlk with exchange := none } }

/-- R164: an exchange ends as replied. -/
def exchangeReplied (x : Exchange) (src kind : Byte) (payload : List Byte) (s : State) : State :=
  tryRelease (repliedByKind x src kind payload (updatePresence true x.dest (clearExchange s)))

/-- R164: an exchange ends as missed. -/
def exchangeMissed (x : Exchange) (s : State) : State :=
  tryRelease (unrepliedByKind x (updatePresence false x.dest (clearExchange s)))

/-- The exchange that awaits its reply, with the start of its timeout. -/
def awaitingExchange (s : State) : Option (Exchange × Time) :=
  match s.dlk.exchange with
  | some x => x.awaiting.map fun t => (x, t)
  | none => none

/-- R164: a good frame delivered on D, with its SRC, KIND and payload. -/
def downstreamFrame (src kind : Byte) (payload : List Byte) (s : State) : State :=
  match awaitingExchange s with
  | some (x, _) => if src.toNat = x.dest then exchangeReplied x src kind payload s else s
  | none => s

/-- R164: after the end of a frame that was no reply, a timeout that passed meanwhile ends the exchange. -/
def lateExpiry (s : State) : State :=
  match awaitingExchange s with
  | some (x, _) => if x.expired then exchangeMissed x s else s
  | none => s

/-! ## The start of an exchange (R163, R166, R167, R172) -/

/-- R155, R163: a frame begins on D for an exchange, at the rate in force. -/
def beginExchange (k : ExchKind) (dest entry timeout : Nat) (kind : Byte) (payload : List Byte) (s : State) : State :=
  let chars := frame (ch dest) (ownNode s) kind payload
  { s with dlk := { s.dlk with
      exchange := some {
        kind := k
        dest := dest
        entry := entry
        timeout := timeout
        fastRate := s.dlk.fastRate
        awaiting := none
        expired := false }
      sending := some { chars := chars, finish := s.now + frameTicks s.dlk.fastRate chars.length s.dlk.guardGap }
      dde := true
      rxFast := s.dlk.fastRate } }

/-- The oldest own frame begins its exchange. It is sent to the node it was queued for, whichever entry is the BILL or the
CARD entry by then (log entry 51). -/
def beginOwn (f : OwnFrame) (rest : List OwnFrame) (s : State) : State :=
  let s1 := { s with dlk := { s.dlk with own := rest } }
  match coveringEntry s f.node with
  | some (i, r) => beginExchange (.own f) f.node i r.timeout f.kind.kind f.kind.payload s1
  | none => ownFrameEnds false f s1

/-- R172: the oldest QUEUED transit begins its exchange, or is lost where no entry covers its destination. -/
def beginTransit (t : TransitRec) (s : State) : State :=
  match coveringEntry s t.dest with
  | some (i, r) =>
    beginExchange (.transit t.tag) t.dest i r.timeout t.kind t.payload
      { s with dlk := { s.dlk with
          transits := s.dlk.transits.map fun u => if u.tag = t.tag then { u with sent := true } else u } }
  | none => consumeSlot (.transitLost t.tag) (removeTransit t.tag s)

/-- The poll schedule of an entry. -/
def pollOf (s : State) (i : Nat) : PollSlot := tget s.dlk.polls ⟨0, false, false⟩ i

/-- R166, R167: a poll begins. -/
def beginPoll (i : Nat) (slot : Bool) (s : State) : State :=
  let r := routeOf s i
  let wait := if r.presence = .present then ms r.pollInterval else ms 1000
  let s1 := if slot then reserve 1 s else s
  beginExchange (.poll slot) r.base i r.timeout kPoll []
    { s1 with dlk := { s1.dlk with
        polls := tset s1.dlk.polls i { nextDue := s.now + wait, due := false, deferred := false }
        pointer := (i + 1) % 8 } }

/-- R167: a PASSIVE poll without a slot is deferred. -/
def deferPoll (i : Nat) (s : State) : State :=
  { s with dlk := { s.dlk with polls := tset s.dlk.polls i { pollOf s i with deferred := true } } }

/-- R166, R167: the entries are looked at in order; the first poll that is due, not deferred and able to begin
does. A poll that was deferred stays so where its entry has become the BILL or the CARD entry (log entry 53). -/
def choosePoll : List Nat → State → State
  | [], s => s
  | i :: is, s =>
    if (routeOf s i).inUse ∧ (pollOf s i).due ∧ (pollOf s i).deferred = false then
      if canReserve 1 s then beginPoll i true s
      else if actsPassive s i then choosePoll is (deferPoll i s)
      else beginPoll i false s
    else choosePoll is s

/-- R166: the entries from the poll pointer upward, wrapping from 7 to 0. -/
def pollOrder (s : State) : List Nat := (List.range 8).map fun k => (s.dlk.pointer + k) % 8

/-- R163: the next exchange. -/
def nextExchange (s : State) : State :=
  if s.dlk.seg = .owned ∧ s.dlk.exchange = none ∧ s.dlk.sending = none then
    match s.dlk.own with
    | f :: rest => beginOwn f rest s
    | [] =>
      match s.dlk.transits.find? fun t => !t.sent with
      | some t => beginTransit t s
      | none => choosePoll (pollOrder s) s
  else s

/-- R163, R176: the last stop bit of a downstream frame ends. The driver goes off and the receiver is READY (R155), with nothing
of a frame it was receiving when the driver went on (log entry 49). -/
def frameSent (s : State) : State :=
  let s1 := { s with dlk := { s.dlk with
    sending := none
    dde := false
    rx := .readyAt s.now } }
  match s.dlk.exchange with
  | some x =>
    if x.awaiting = none then { s1 with dlk := { s1.dlk with exchange := some { x with awaiting := some s.now } } } else s1
  | none => tryRelease s1

end Sys2Proof.Machine
end

