-- ==== Sys2Proof/Machine/Tables.lean ====
section
/-! DEFINITION. The tables the host reads and writes (sections 10.1 and 10.5): the layouts of their entries, and each owner's
write rule. -/

namespace Sys2Proof.Machine

/-! ## Layouts (R181, R192) -/

def Selection.fields (e : Selection) : List Byte :=
  [ch e.state.code, ch e.tray, ch e.column, flag e.twin, flag e.chilled, flag e.perishable] ++ w2 e.price ++
    w2opt e.stock ++ [flag e.secondTurn, ch e.noDropRun] ++ w2 e.sales

def Tray.fields (t : Tray) : List Byte := [flag t.present, ch t.columns, flag t.mirror]

def CoinClass.fields (c : CoinClass) : List Byte := w2 c.value ++ [opt1 c.route, flag c.enabled]

def BillClass.fields (b : BillClass) : List Byte := w2 b.value ++ [flag b.enabled]

def Tube.fields (t : Tube) : List Byte :=
  w2 t.denom ++ [ch t.capacity, ch t.count, ch t.reserve, ch t.lowLevel, flag t.lowCovered, flag t.fullCovered,
    ch t.state.code]

def Route.fields (r : Route) : List Byte :=
  [flag r.inUse, ch r.base, ch r.span, ch r.role.code] ++ w2 r.pollInterval ++
    [ch r.timeout, ch r.presence.code, ch r.missed, flag r.lastEnable.isSome,
      (r.lastEnable.map maskByte).getD 0xFF, ch r.discarded]

def vendSettingsFields (s : State) : List Byte := w2 s.csh.creditLimit ++ [flag s.csh.strict, flag s.csh.multiVend]

def CoolSettings.fields (c : CoolSettings) : List Byte :=
  i2 c.setpoint ++ [ch c.differential.toNat, ch c.economyOffset.toNat] ++ i2 c.safeLimit ++
    [ch c.holdDelay, ch c.defrostInterval] ++ i2 c.defrostTermination ++ [ch c.defrostMaximum] ++ w2 c.dripTime ++
    i2 c.condenserTrip ++ [flag c.enabled]

def pointFields (p : Nat × Int) : List Byte := w2 p.1 ++ i2 p.2

def driveLinkFields (s : State) : List Byte :=
  w2 s.spd.jamThreshold ++ w2 (if s.dlk.fastRate then 19200 else 9600) ++ [ch s.dlk.guardGap]

/-- Table 12 (R192). The four characters of a total go low first: the model's reading (log entry 47). -/
def Audit.fields (a : Audit) : List Byte :=
  [a.coinsIn, a.billsIn, a.cashVended, a.cashPaidOut, a.cardVended, a.freeVends, a.serviceFill,
    a.servicePaidOut].flatMap (lowFirst 4)

/-- The funds of the session record, with their known flag. -/
def fundsFields (c : Crd) : List Byte := flag c.funds.isSome :: w2opt c.funds

/-- Table 13 (R181). -/
def statusFields (s : State) : List Byte :=
  [ch s.mgt.mode.code, ch s.mgt.returnMode.code] ++ w2 s.csh.credit ++ [ch s.crd.state.code] ++ fundsFields s.crd ++
    [ch s.clg.comp.code] ++ i2opt s.clg.filtered ++
    [flag s.clg.blind, flag s.clg.hold, flag s.clg.ecoEffective, flag s.csh.exactChange, ch s.dlk.seg.code,
      flag s.dlk.requestWaiting, ch s.rpq.queue.length, maskByte s.csh.hostMask, maskByte s.csh.effMask]

/-- The number of entries of each table (R181); a table that does not exist has none. -/
def tableSize : Nat → Nat
  | 1 | 11 => 80
  | 2 | 4 | 6 => 8
  | 3 => 16
  | 5 => 6
  | 9 => 9
  | 7 | 8 | 10 | 12 | 13 => 1
  | _ => 0

/-- Every field of an entry as it stands (R181). -/
def entryFields (s : State) (id ix : Nat) : List Byte :=
  match id with
  | 1 => (selOf s ix).fields
  | 2 => (trayOf s ix).fields
  | 3 => (coinOf s ix).fields
  | 4 => (billOf s ix).fields
  | 5 => (tubeOf s ix).fields
  | 6 => (routeOf s ix).fields
  | 7 => vendSettingsFields s
  | 8 => s.clg.settings.fields
  | 9 => pointFields (pointOf s ix)
  | 10 => driveLinkFields s
  | 11 => [ch (tget s.spd.health .unknown ix).code]
  | 12 => s.csh.audit.fields
  | 13 => statusFields s
  | _ => []

/-- An OK answer to a read or a write: the table id, the index and the whole entry (R181, R182). -/
def entryAnswer (s : State) (id ix : Nat) : Answer := okAnswer (ch id :: ch ix :: entryFields s id ix)

/-- R181: TABLE READ. -/
def tableReadAnswer (s : State) (payload : List Byte) : Answer :=
  match payload with
  | [id, ix] =>
    if tableSize id.toNat = 0 then refuse .noTable
    else if tableSize id.toNat ≤ ix.toNat then refuse .badIndex
    else entryAnswer s id.toNat ix.toNat
  | _ => refuse .badFrame

/-! ## Table 1 (R6, R7, R8) -/

/-- R6, R7: the mode permits the fields given. -/
def selectionPermitted (m : Mode) (w : Write) : Bool :=
  match m with
  | .setup => true
  | .online | .service => w.only [0, 5, 6, 7, 8] && w.get 0 != some 0
  | .safe => false

/-- R1, R6, R7: the values given are in range. -/
def selectionInRange (w : Write) : Bool :=
  decide (w.nat 1 0 ≤ 7) && decide (w.nat 2 0 ≤ 9) && decide (1 ≤ w.nat 6 1 ∧ w.nat 6 1 ≤ 9999) &&
    decide (w.nat 7 0 ≤ 255 ∨ w.nat 7 0 = 65535) && decide (w.nat 9 0 ≤ 2) &&
    w.get 0 != some 3 && w.get 0 != some 4

/-- R7: a write of ACTIVE or DISABLED over JAMMED or EMPTY_SUSPECT clears the fault. -/
def faultCleared (w : Write) (e : Selection) : Bool :=
  (e.state == .jammed || e.state == .emptySuspect) && (w.get 0 == some 1 || w.get 0 == some 2)

/-- The entry with the fields given. -/
def selectionWritten (w : Write) (e : Selection) : Selection where
  state := ((w.get 0).map selStateOf).getD e.state
  tray := w.nat 1 e.tray
  column := w.nat 2 e.column
  twin := w.bool 3 e.twin
  chilled := w.bool 4 e.chilled
  perishable := w.bool 5 e.perishable
  price := w.nat 6 e.price
  stock := ((w.get 7).map fun v => if v = 65535 then none else some v.toNat).getD e.stock
  secondTurn := w.bool 8 e.secondTurn
  noDropRun := w.nat 9 (if faultCleared w e then 0 else e.noDropRun)
  sales := w.nat 10 e.sales

/-- R6. -/
def selectionRefusal (s : State) (w : Write) : Option Status :=
  if 80 ≤ w.index then some .badIndex
  else if !selectionPermitted s.mgt.mode w then some .wrongMode
  else if (s.vnd.ctx.map fun v => v.selection == w.index).getD false then some .entryBusy
  else if !selectionInRange w then some .badValue
  else none

/-- R3 to R6: an entry stored, with what follows from it. -/
def storeSelectionWrite (w : Write) (s : State) : State :=
  settleCash s (selRefresh (storeSelection w.index (selectionWritten w (selOf s w.index)) s))

/-! ## Table 2 (R25) -/

def trayRefusal (s : State) (w : Write) : Option Status :=
  if 8 ≤ w.index then some .badIndex
  else if (s.vnd.ctx.map fun v => (selOf s v.selection).tray == w.index).getD false then some .entryBusy
  else if s.mgt.mode ≠ .setup then some .wrongMode
  else if ¬(1 ≤ w.nat 1 1 ∧ w.nat 1 1 ≤ 10) then some .badValue
  else none

def trayWritten (w : Write) (t : Tray) : Tray where
  present := w.bool 0 t.present
  columns := w.nat 1 t.columns
  mirror := w.bool 2 t.mirror

/-- R24, R25: a tray stored, with the vendability that follows. -/
def storeTrayWrite (w : Write) (s : State) : State :=
  settleCash s (selRefresh
    { s with spd := { s.spd with trays := tset s.spd.trays w.index (trayWritten w (trayOf s w.index)) } })

/-! ## Tables 3 and 4 (R52) -/

/-- R52: the mode permits the fields given; `enabled` is the number of the enabled flag. -/
def cashPermitted (m : Mode) (enabled : Nat) (w : Write) : Bool :=
  match m with
  | .setup => true
  | .online | .service => w.only [enabled]
  | .safe => false

def coinWritten (w : Write) (c : CoinClass) : CoinClass where
  value := w.nat 0 c.value
  route := ((w.get 1).map fun v => if v = 255 then none else some v.toNat).getD c.route
  enabled := w.bool 2 c.enabled

def billWritten (w : Write) (b : BillClass) : BillClass where
  value := w.nat 0 b.value
  enabled := w.bool 1 b.enabled

/-- R52, check 4: in ONLINE or SERVICE a class enabled by a write must leave the machine consistent. -/
def coinConsistent (s : State) (w : Write) : Bool :=
  let c := coinWritten w (coinOf s w.index)
  s.mgt.mode == .setup || w.get 2 != some 1 ||
    (decide (c.value ≤ s.csh.creditLimit) && (c.route.map fun t => c.value == (tubeOf s t).denom).getD true)

def billConsistent (s : State) (w : Write) : Bool :=
  s.mgt.mode == .setup || w.get 1 != some 1 ||
    decide ((billWritten w (billOf s w.index)).value ≤ s.csh.creditLimit)

def coinRefusal (s : State) (w : Write) : Option Status :=
  if 16 ≤ w.index then some .badIndex
  else if !cashPermitted s.mgt.mode 2 w then some .wrongMode
  else if ¬(1 ≤ w.nat 0 1 ∧ w.nat 0 1 ≤ 9999) then some .badValue
  else if !coinConsistent s w then some .badValue
  else none

def billRefusal (s : State) (w : Write) : Option Status :=
  if 8 ≤ w.index then some .badIndex
  else if !cashPermitted s.mgt.mode 1 w then some .wrongMode
  else if ¬(1 ≤ w.nat 0 1 ∧ w.nat 0 1 ≤ 20000) then some .badValue
  else if !billConsistent s w then some .badValue
  else none

def storeCoinWrite (w : Write) (s : State) : State :=
  settleCash s
    { s with csh := { s.csh with coins := tset s.csh.coins w.index (coinWritten w (coinOf s w.index)) } }

def storeBillWrite (w : Write) (s : State) : State :=
  settleCash s
    { s with csh := { s.csh with bills := tset s.csh.bills w.index (billWritten w (billOf s w.index)) } }

/-! ## Table 5 (R76) -/

def tubePermitted (m : Mode) (w : Write) : Bool :=
  match m with
  | .setup => w.only [0, 1, 3, 4]
  | .online | .service => w.only [3]
  | .safe => false

/-- R76: a capacity below the count clamps the count. -/
def tubeWritten (w : Write) (t : Tube) : Tube :=
  { t with
    denom := w.nat 0 t.denom
    capacity := w.nat 1 t.capacity
    count := min t.count (w.nat 1 t.capacity)
    reserve := w.nat 3 t.reserve
    lowLevel := w.nat 4 t.lowLevel }

/-- R75, R76: the entry as it would stand is in range. -/
def Tube.inRange (t : Tube) : Bool :=
  decide (t.denom ≤ 9999) && decide (1 ≤ t.capacity ∧ t.capacity ≤ 200) && decide (t.reserve ≤ t.capacity) &&
    decide (1 ≤ t.lowLevel ∧ t.lowLevel ≤ t.capacity)

def tubeRefusal (s : State) (w : Write) : Option Status :=
  if 6 ≤ w.index then some .badIndex
  else if !tubePermitted s.mgt.mode w then some .wrongMode
  else if s.chg.payout.isSome then some .entryBusy
  else if !(tubeWritten w (tubeOf s w.index)).inRange then some .badValue
  else none

def storeTubeWrite (w : Write) (s : State) : State :=
  settleCash s (storeTube w.index (tubeWritten w (tubeOf s w.index)) s)

/-! ## Table 6 (R162) -/

def routePermitted (m : Mode) (w : Write) : Bool :=
  match m with
  | .setup => w.only [0, 1, 2, 3, 4, 5]
  | .online | .service => w.only [4, 5]
  | .safe => false

/-- A value brought into a range (R162). -/
def clampTo (lo hi v : Nat) : Nat := max lo (min hi v)

/-- R162: the entry with the fields given, the timings clamped. -/
def routeWritten (w : Write) (r : Route) : Route :=
  { r with
    inUse := w.bool 0 r.inUse
    base := w.nat 1 r.base
    span := w.nat 2 r.span
    role := ((w.get 3).map roleOf).getD r.role
    pollInterval := clampTo 20 1000 (w.nat 4 r.pollInterval)
    timeout := clampTo 10 250 (w.nat 5 r.timeout) }

/-- R162, check 3. -/
def Route.wellPlaced (r : Route) : Bool :=
  decide (0x20 ≤ r.base ∧ r.base ≤ 0x5F) && [1, 2, 4, 8].contains r.span && decide (r.base % r.span = 0) &&
    decide (r.base + r.span - 1 ≤ 0x5F)

/-- Two entries in use cover a common address (R162, check 4). -/
def Route.overlaps (a b : Route) : Bool :=
  a.inUse && b.inUse && decide (a.base < b.base + b.span) && decide (b.base < a.base + a.span)

def routeRefusal (s : State) (w : Write) : Option Status :=
  let r := routeWritten w (routeOf s w.index)
  if 8 ≤ w.index then some .badIndex
  else if !routePermitted s.mgt.mode w then some .wrongMode
  else if !r.wellPlaced then some .badValue
  else if (List.range 8).any fun i => i != w.index && r.overlaps (routeOf s i) then some .badValue
  else none

/-- R162: the write changes where the entry stands or its role. -/
def rehomes (old new : Route) : Bool :=
  old.inUse != new.inUse || old.base != new.base || old.span != new.span || old.role != new.role

/-- R162: an exchange whose destination the entry covered ends, changing no presence. -/
def endCoveredExchange (old : Route) (s : State) : State :=
  match s.dlk.exchange with
  | some x => if old.covers x.dest then unrepliedByKind x (clearExchange s) else s
  | none => s

/-- R162: the polls of a re-homed entry. -/
def rehomePoll (i : Nat) (inUse : Bool) (s : State) : State :=
  let p : PollSlot := { nextDue := s.now, due := inUse && s.dlk.seg != .released, deferred := false }
  { s with dlk := { s.dlk with polls := tset s.dlk.polls i p } }

/-- R162: an entry re-homed. A loss passed on is that of the node the entry stood for before the write. -/
def rehome (i : Nat) (old new : Route) (s : State) : State :=
  let bill := isEntryOf .bill s i && old.presence == .present
  let card := isEntryOf .card s i && old.presence == .present
  let s1 := setRoute i { new with presence := .absent, missed := 0, lastEnable := none, discarded := 0 } s
  let s2 := reportIf new.inUse (.node new.base) (reportIf old.inUse (.node old.base) (passLoss bill card s1))
  let s3 := if old.inUse then dropOwnFrames old.base s2 else s2
  tryRelease (endCoveredExchange old (rehomePoll i new.inUse s3))

def storeRouteWrite (w : Write) (s : State) : State :=
  let old := routeOf s w.index
  let new := routeWritten w old
  if rehomes old new then rehome w.index old new s else setRoute w.index new s

/-! ## Table 7 (R55) -/

def vendSettingsPermitted (m : Mode) (w : Write) : Bool :=
  match m with
  | .setup => true
  | .online | .service => w.only [0, 2]
  | .safe => false

def vendSettingsRefusal (s : State) (w : Write) : Option Status :=
  let limit := w.nat 0 s.csh.creditLimit
  if !vendSettingsPermitted s.mgt.mode w then some .wrongMode
  else if w.has 0 ∧ limit < committed s + moneyOwed s then some .badValue
  else if w.has 0 ∧ s.mgt.mode ≠ .setup ∧ limit < largestEnabled s then some .badValue
  else none

def storeVendSettingsWrite (w : Write) (s : State) : State :=
  settleCash s { s with csh := { s.csh with
    creditLimit := w.nat 0 s.csh.creditLimit
    strict := w.bool 1 s.csh.strict
    multiVend := w.bool 2 s.csh.multiVend } }

/-! ## Table 8 (R118, R127) -/

def coolingWritten (w : Write) (c : CoolSettings) : CoolSettings where
  setpoint := w.int 0 c.setpoint
  differential := w.int 1 c.differential
  economyOffset := w.int 2 c.economyOffset
  safeLimit := w.int 3 c.safeLimit
  holdDelay := w.nat 4 c.holdDelay
  defrostInterval := w.nat 5 c.defrostInterval
  defrostTermination := w.int 6 c.defrostTermination
  defrostMaximum := w.nat 7 c.defrostMaximum
  dripTime := w.nat 8 c.dripTime
  condenserTrip := w.int 9 c.condenserTrip
  enabled := w.bool 10 c.enabled

/-- The ranges of R118. -/
def CoolSettings.inRange (c : CoolSettings) : Bool :=
  decide (-50 ≤ c.setpoint ∧ c.setpoint ≤ 150) && decide (5 ≤ c.differential ∧ c.differential ≤ 50) &&
    decide (0 ≤ c.economyOffset ∧ c.economyOffset ≤ 60) && decide (0 ≤ c.safeLimit ∧ c.safeLimit ≤ 150) &&
    decide (1 ≤ c.holdDelay ∧ c.holdDelay ≤ 120) && decide (1 ≤ c.defrostInterval ∧ c.defrostInterval ≤ 24) &&
    decide (0 ≤ c.defrostTermination ∧ c.defrostTermination ≤ 150) &&
    decide (5 ≤ c.defrostMaximum ∧ c.defrostMaximum ≤ 60) && decide (c.dripTime ≤ 600) &&
    decide (400 ≤ c.condenserTrip ∧ c.condenserTrip ≤ 800)

def coolingRefusal (s : State) (w : Write) : Option Status :=
  if s.mgt.mode = .safe then some .wrongMode
  else if !(coolingWritten w s.clg.settings).inRange then some .badValue
  else none

/-- R127: cooling disabled. -/
def disableCooling (s : State) : State :=
  let s1 := if s.clg.contactor then compStop s else { s with lds := { s.lds with compUnits := 0 } }
  setComp .disabled (withdrawClaim .compressor s1)

def storeCoolingWrite (w : Write) (s : State) : State :=
  let c := coolingWritten w s.clg.settings
  let s1 := { s with clg := { s.clg with settings := c } }
  evaluateClaims (
    if s.clg.settings.enabled = c.enabled then s1
    else if c.enabled then (if s.clg.comp = .disabled then enterGuard s1 else s1)
    else disableCooling s1)

/-! ## Table 9 (R114) -/

def pointWritten (w : Write) (p : Nat × Int) : Nat × Int := (w.nat 0 p.1, w.int 1 p.2)

/-- R113: the raw values ascend strictly. -/
def rawAscending (pts : Vector (Nat × Int) 9) : Bool :=
  (List.range 8).all fun i => decide ((tget pts (0, 0) i).1 < (tget pts (0, 0) (i + 1)).1)

def calibrationRefusal (s : State) (w : Write) : Option Status :=
  let p := pointWritten w (pointOf s w.index)
  if 9 ≤ w.index then some .badIndex
  else if s.mgt.mode = .safe then some .wrongMode
  else if ¬(p.1 ≤ 1023 ∧ -400 ≤ p.2 ∧ p.2 ≤ 800) then some .badValue
  else if !rawAscending (tset s.clg.points w.index p) then some .badValue
  else none

def storeCalibrationWrite (w : Write) (s : State) : State :=
  { s with clg := { s.clg with points := tset s.clg.points w.index (pointWritten w (pointOf s w.index)) } }

/-! ## Table 10 (R31, R152) -/

def driveLinkRefusal (s : State) (w : Write) : Option Status :=
  if s.mgt.mode ≠ .setup then some .wrongMode
  else if ¬(500 ≤ w.nat 0 500 ∧ w.nat 0 500 ≤ 2500) then some .badValue
  else none

/-- R152: the link settings are clamped. -/
def storeDriveLinkWrite (w : Write) (s : State) : State :=
  { s with
    spd := { s.spd with jamThreshold := w.nat 0 s.spd.jamThreshold }
    dlk := { s.dlk with
      fastRate := ((w.get 1).map fun v => decide (14400 ≤ v)).getD s.dlk.fastRate
      guardGap := min 4 (w.nat 2 s.dlk.guardGap) } }

/-! ## The writes (R178, R182, R190) -/

/-- A TABLE WRITE to a table with an owner: the form and the codes are checked first, then the owner's checks, and
the answer carries the entry as stored. -/
def ownedWrite (id : Nat) (refusal : State → Write → Option Status) (store : Write → State → State)
    (payload : List Byte) (s : State) : Answer × State :=
  match readWrite id payload with
  | .error st => (refuse st, s)
  | .ok w =>
    match refusal s w with
    | some st => (refuse st, s)
    | none => (entryAnswer (store w s) id w.index, store w s)

def writeSelection := ownedWrite 1 selectionRefusal storeSelectionWrite
def writeTray := ownedWrite 2 trayRefusal storeTrayWrite
def writeCoin := ownedWrite 3 coinRefusal storeCoinWrite
def writeBill := ownedWrite 4 billRefusal storeBillWrite
def writeTube := ownedWrite 5 tubeRefusal storeTubeWrite
def writeRoute := ownedWrite 6 routeRefusal storeRouteWrite
def writeVendSettings := ownedWrite 7 vendSettingsRefusal storeVendSettingsWrite
def writeCooling := ownedWrite 8 coolingRefusal storeCoolingWrite
def writeCalibration := ownedWrite 9 calibrationRefusal storeCalibrationWrite
def writeDriveLink := ownedWrite 10 driveLinkRefusal storeDriveLinkWrite

/-- R182: a TABLE WRITE by its table id. -/
def tableWriteAnswer (payload : List Byte) (s : State) : Answer × State :=
  match payload with
  | [] => (refuse .badFrame, s)
  | id :: rest =>
    match id.toNat with
    | 1 => writeSelection rest s
    | 2 => writeTray rest s
    | 3 => writeCoin rest s
    | 4 => writeBill rest s
    | 5 => writeTube rest s
    | 6 => writeRoute rest s
    | 7 => writeVendSettings rest s
    | 8 => writeCooling rest s
    | 9 => writeCalibration rest s
    | 10 => writeDriveLink rest s
    | 11 | 12 | 13 => (refuse .wrongMode, s)
    | _ => (refuse .noTable, s)

end Sys2Proof.Machine
end

