-- ==== Sys2Proof/Machine/Commands.lean ====
section
/-! DEFINITION. The management commands that no earlier file holds (sections 10.1 and 10.2), the report records (section 11.3), and the
dispatch of a management frame by its KIND and command code. -/

namespace Sys2Proof.Machine

/-! ## GO ONLINE and GO OFFLINE (R184, R185) -/

/-- The positions of a selection. -/
def positionsOf (s : State) (i : Nat) : List (Nat × Nat) :=
  match positionOf s (selOf s i) with
  | some (c, p) => (c :: p.toList).map fun q => ((selOf s i).tray, q)
  | none => []

def selectionActive (s : State) (i : Nat) : Bool := (selOf s i).state == .active

/-- R184, check 1, at a selection. -/
def failsPosition (s : State) (i : Nat) : Bool :=
  selectionActive s i && !((trayOf s (selOf s i).tray).present && (positionOf s (selOf s i)).isSome)

/-- R184, check 2, at a selection. -/
def failsShared (s : State) (i : Nat) : Bool :=
  selectionActive s i && (List.range i).any fun j =>
    selectionActive s j && (positionsOf s i).any fun p => (positionsOf s j).contains p

/-- R184, check 3, at a tube. -/
def failsDenomination (s : State) (i : Nat) : Bool :=
  (tubeOf s i).denom != 0 && (List.range i).any fun j => (tubeOf s j).denom == (tubeOf s i).denom

/-- R184, check 4, at a coin class. -/
def failsRoute (s : State) (i : Nat) : Bool :=
  (coinOf s i).enabled && ((coinOf s i).route.map fun t => (coinOf s i).value != (tubeOf s t).denom).getD false

/-- R184, check 5, at a route entry. -/
def failsRole (s : State) (i : Nat) : Bool :=
  (routeOf s i).inUse && (routeOf s i).role != .passive &&
    (List.range i).any fun j => (routeOf s j).inUse && (routeOf s j).role == (routeOf s i).role

/-- The first item at which a check fails. -/
def firstFailing (table n : Nat) (f : Nat → Bool) : Option (Nat × Nat) := ((List.range n).find? f).map fun i => (table, i)

/-- R184: the first inconsistency, as a table id and an index. -/
def firstInconsistency (s : State) : Option (Nat × Nat) :=
  (firstFailing 1 80 (failsPosition s)).or <|
  (firstFailing 1 80 (failsShared s)).or <|
  (firstFailing 5 6 (failsDenomination s)).or <|
  (firstFailing 3 16 (failsRoute s)).or <|
  (firstFailing 6 8 (failsRole s)).or <|
  if s.csh.creditLimit < largestEnabled s then some (7, 0) else none

/-- R184: the mode that GO ONLINE takes up. -/
def onlineMode (s : State) : Mode := if s.cmn.doorOpen then .service else .online

/-- R184: GO ONLINE. -/
def goOnlineCommand (s : State) : Answer × State :=
  if s.mgt.mode ≠ .setup then (refuse .wrongMode, s)
  else
    match firstInconsistency s with
    | some (t, i) => (⟨.inconsistent, [ch t, ch i]⟩, s)
    | none => (okAnswer [ch (onlineMode s).code], changeMode (onlineMode s) s)

/-- R185: GO OFFLINE. -/
def goOfflineCommand (s : State) : Answer × State :=
  if s.mgt.mode = .setup ∨ s.mgt.mode = .safe then (refuse .wrongMode, s)
  else if s.vnd.ctx.isSome ∨ s.chg.payout.isSome then (refuse .busy, s)
  else (okAnswer [], changeMode .setup { s with mgt := { s.mgt with returnMode := .setup } })

/-! ## PAYOUT and TUBE COUNT (R89, R82) -/

/-- R89: what a PAYOUT names. -/
inductive PayoutRequest where
  | tube (tube coins : Nat)
  | amount (amount : Nat)
  deriving DecidableEq, Repr

/-- R178, R190: the parameters of PAYOUT. -/
def payoutRequest : List Byte → Except Status PayoutRequest
  | [] => .error .badFrame
  | form :: rest =>
    if form ≠ 0 ∧ form ≠ 1 then .error .badValue
    else
      match rest with
      | [a, b] => .ok (if form = 1 then .tube a.toNat b.toNat else .amount (val2 a b))
      | _ => .error .badFrame

/-- R89: the amount requested. -/
def requestedAmount (s : State) : PayoutRequest → Nat
  | .tube t n => n * (tubeOf s t).denom
  | .amount a => a

/-- R89, checks 3 and 4. -/
def payoutValueRefusal (s : State) : PayoutRequest → Option Status
  | .tube t n =>
    if 6 ≤ t then some .badIndex
    else if (tubeOf s t).denom = 0 ∨ (tubeOf s t).state = .jammed ∨ ¬(1 ≤ n ∧ n ≤ 100) ∨
        65535 < n * (tubeOf s t).denom then some .badValue
    else none
  | .amount a => if 1 ≤ a ∧ a ≤ 65535 then none else some .badValue

/-- R89: the first check that fails. -/
def payoutRefusal (s : State) (r : PayoutRequest) : Option Status :=
  if s.mgt.mode ≠ .service ∧ s.mgt.mode ≠ .setup then some .wrongMode
  else if s.chg.payout.isSome then some .payoutBusy
  else
    match payoutValueRefusal s r with
    | some st => some st
    | none => if canReserve 1 s then none else some .queueFull

/-- The form of a payout request. -/
def PayoutRequest.form : PayoutRequest → PayoutForm
  | .tube t _ => .tube t
  | .amount _ => .amount

/-- R89: a service payout begins. -/
def startServicePayout (r : PayoutRequest) (s : State) : State :=
  evaluateClaims (openPayout .service r.form (requestedAmount s r) (reserve 1 s))

/-- R89: PAYOUT. -/
def payoutCommand (params : List Byte) (s : State) : Answer × State :=
  match payoutRequest params with
  | .error st => (refuse st, s)
  | .ok r =>
    match payoutRefusal s r with
    | some st => (refuse st, s)
    | none => (okAnswer (w2 (requestedAmount s r)), startServicePayout r s)

/-- R82: the first check that fails. -/
def tubeCountRefusal (s : State) (t : Nat) : Option Status :=
  if s.mgt.mode ≠ .service ∧ s.mgt.mode ≠ .setup then some .wrongMode
  else if 6 ≤ t then some .badIndex
  else if s.chg.payout.isSome then some .payoutBusy
  else if (tubeOf s t).denom = 0 then some .badValue
  else none

/-- R82: the count is set, clamped to the capacity, and the state becomes OK. -/
def setTubeCount (t n : Nat) (s : State) : State :=
  settleCash s (storeTube t { tubeOf s t with count := min n (tubeOf s t).capacity, state := .ok } s)

/-- R82: TUBE COUNT. -/
def tubeCountCommand (t n : Nat) (s : State) : Answer × State :=
  match tubeCountRefusal s t with
  | some st => (refuse st, s)
  | none => (okAnswer [ch (min n (tubeOf s t).capacity)], setTubeCount t n s)

/-! ## Economy and the safety hold (R134, R135) -/

/-- R135: requested set or cleared; each change of either flag makes an ECONOMY report. -/
def requestEconomy (on : Bool) (s : State) : State :=
  ecoRefresh (reportIf (s.clg.ecoRequested != on) .economy { s with clg := { s.clg with ecoRequested := on } })

/-- R135: ECONOMY ON and ECONOMY OFF. -/
def economyCommand (on : Bool) (s : State) : Answer × State :=
  if s.mgt.mode = .safe then (refuse .wrongMode, s)
  else
    let s1 := requestEconomy on s
    (okAnswer [flag s1.clg.ecoRequested, flag s1.clg.ecoEffective], s1)

/-- R134: the compartment is seen cool. -/
def seenCool (s : State) : Bool :=
  !s.clg.blind && (s.clg.filtered.map fun t => decide (t ≤ s.clg.settings.safeLimit)).getD false

/-- R134: the hold is cleared, with the vendability and economy that follow. -/
def clearHold (s : State) : State :=
  if s.clg.hold then
    settleCash s (selRefresh (report .safetyHold { s with clg := { s.clg with hold := false, warmTime := 0 } }))
  else { s with clg := { s.clg with warmTime := 0 } }

/-- R134: HOLD RELEASE. -/
def holdReleaseCommand (s : State) : Answer × State :=
  if s.mgt.mode = .safe then (refuse .wrongMode, s)
  else if seenCool s then (okAnswer [], clearHold s)
  else (refuse .warm, s)

/-! ## The sweep (R43, R47) -/

/-- R43: the sweep that a SWEEP names; the two-valued characters are read as such (R190). -/
def sweepOf (s : State) (t0 t1 c0 c1 : Nat) (columnsFirst revTrays revCols : Bool) : Sweep where
  trayFirst := t0
  trayLast := t1
  colFirst := c0
  colLast := c1
  columnsFirst := columnsFirst
  revTrays := revTrays
  revCols := revCols
  cursorTray := if revTrays then t1 else t0
  cursorCol := if revCols then c1 else c0
  paused := s.vnd.ctx.isSome
  check := .none
  okCount := 0
  openCount := 0
  shortCount := 0
  lastChecked := none

/-- R43: the first check that fails. -/
def sweepRefusal (s : State) (w : Sweep) : Option Status :=
  if s.mgt.mode ≠ .setup ∧ s.mgt.mode ≠ .service then some .wrongMode
  else if s.spd.sweep.isSome then some .busy
  else if ¬(w.trayLast ≤ 7 ∧ w.colLast ≤ 9 ∧ w.trayFirst ≤ w.trayLast ∧ w.colFirst ≤ w.colLast) then some .badValue
  else if canReserve 1 s then none else some .queueFull

/-- R43, R45: the sweep begins, and its walk with it unless it is PAUSED. -/
def startSweep (w : Sweep) (s : State) : State :=
  evaluateClaims (sweepWalk (reserve 1 { s with spd := { s.spd with sweep := some w } }))

/-- A two-valued or enumerated character of 0 or 1 (R190). -/
def isBit (b : Byte) : Bool := b = 0 || b = 1

/-- R43: SWEEP. -/
def sweepCommand (params : List Byte) (s : State) : Answer × State :=
  match params with
  | [t0, t1, c0, c1, order, rt, rc] =>
    if isBit order && isBit rt && isBit rc then
      let w := sweepOf s t0.toNat t1.toNat c0.toNat c1.toNat (order == 1) (rt == 1) (rc == 1)
      match sweepRefusal s w with
      | some st => (refuse st, s)
      | none => (okAnswer [ch w.cursorTray, ch w.cursorCol], startSweep w s)
    else (refuse .badValue, s)
  | _ => (refuse .badFrame, s)

/-- R47: SWEEP STOP. -/
def sweepStopCommand (s : State) : Answer × State := (okAnswer [], evaluateClaims (stopSweep s))

/-! ## PING and transits (R180, R171) -/

/-- R180: PING. -/
def pingAnswer (s : State) : Answer :=
  okAnswer (w2 Config.partCode ++ [ch Config.revision, ch s.mgt.mode.code, s.ulk.straps.setWidth 8])

/-- R171, check 2. -/
def kindOwned (s : State) (entry : Nat) (kind : Byte) : Bool :=
  [kEnable, kEscrowAction, kApprovalRequest, kVendResult, kSessionEnd].contains kind ||
    (kind == kPoll && !actsPassive s entry)

/-- R171: the first check that fails. -/
def transitRefusal (s : State) (dest : Nat) (kind : Byte) : Option Status :=
  match coveringEntry s dest with
  | none => some .noRoute
  | some (i, _) =>
    if kindOwned s i kind then some .kindOwned
    else if 4 ≤ s.dlk.transits.length then some .transitFull
    else if canReserve 1 s then none else some .queueFull

/-- R171: a transit tagged and queued. -/
def queueTransit (dest : Nat) (kind : Byte) (payload : List Byte) (s : State) : State :=
  let s1 := reserve 1 s
  { s1 with dlk := { s1.dlk with
      nextTag := (s1.dlk.nextTag + 1) % 256
      transits := s1.dlk.transits ++ [⟨s1.dlk.nextTag, dest, kind, payload, false⟩] } }

/-- R171: a transit delivered by ULK. -/
def transitCommand (dest : Nat) (kind : Byte) (payload : List Byte) (s : State) : Answer × State :=
  match transitRefusal s dest kind with
  | some st => (refuse st, s)
  | none => (okAnswer [ch s.dlk.nextTag], queueTransit dest kind payload s)

/-! ## REPORT POLL (R191, R192, R197) -/

/-- The fields of a NODE_STATE record (R161). -/
def nodeFields (s : State) (base : Nat) : List Byte :=
  match s.dlk.routes.toList.find? fun r => r.inUse && r.base == base with
  | some r => [ch r.presence.code, ch r.missed, ch r.discarded]
  | none => [ch Presence.absent.code, 0, 0]

/-- R192: the fields of a state record, as its owner holds them now. -/
def StateKey.fields (s : State) : StateKey → List Byte
  | .credit => w2 s.csh.credit
  | .exactChange => [flag s.csh.exactChange]
  | .selection i =>
    [ch (selOf s i).state.code] ++ w2opt (selOf s i).stock ++ [flag (tget s.sel.vendable false i)]
  | .positionHealth i => [ch (tget s.spd.health .unknown i).code]
  | .tube i =>
    let t := tubeOf s i
    w2 t.denom ++ [ch t.count, ch t.reserve, ch t.state.code, flag t.lowCovered, flag t.fullCovered]
  | .node a => nodeFields s a
  | .cardSession => ch s.crd.state.code :: fundsFields s.crd
  | .cooling =>
    [ch s.clg.comp.code] ++ i2opt s.clg.filtered ++ [flag s.clg.blind, flag s.clg.demand] ++
      lowFirst 3 (runTicksNow s / seconds 1)
  | .sensor i => flag (sensorOf s i).fault :: i2opt (sensorOf s i).value
  | .safetyHold => flag s.clg.hold :: w2 s.clg.warmTime
  | .economy => [flag s.clg.ecoRequested, flag s.clg.ecoEffective]
  | .door => flag s.cmn.doorOpen :: w2 s.cmn.openings
  | .supply => [flag s.cmn.supplyLow, ch s.cmn.brownouts] ++ w2 s.cmn.volts
  | .condenserHot => [flag s.clg.hot, ch s.clg.tripCount] ++ i2opt (sensorOf s 3).reading
  | .lateDrop i => [ch (tget s.spd.lateCounts 0 i)]
  | .billAnomaly a => [ch (anomalyOf s a).count, ch (anomalyOf s a).cls] ++ w2 (anomalyOf s a).uncredited

/-- R192: the record of an event report. -/
def EventReport.record : EventReport → List Byte
  | .vendResult i p o price informed drop =>
    [0x01, 0xFF, ch i, ch p.code, ch o.code] ++ w2 price ++
      [(informed.map flag).getD 0xFF, (drop.map flag).getD 0xFF]
  | .payoutResult src requested paid short coins =>
    [0x02, 0xFF, ch src.code] ++ w2 requested ++ w2 paid ++ [flag short, ch coins.length] ++
      coins.flatMap fun p => [ch p.1, ch p.2]
  | .transitReply tag node kind payload => [0x03, 0xFF, ch tag, ch node, kind, ch payload.length] ++ payload
  | .transitLost tag => [0x04, 0xFF, ch tag]
  | .sweepDone stopped last ok op short => [0x05, 0xFF, flag stopped, opt1 last, ch ok, ch op, ch short]
  | .peripheralEvent node code params => [0x06, ch node, code, ch params.length] ++ params

/-- R192, R197: the record of an entry. -/
def recordOf (s : State) : Report → List Byte
  | .state k => ch k.code :: opt1 k.subject :: k.fields s
  | .event ev => ev.record

/-- R191, R197: the answer to REPORT POLL and what it removes. -/
def reportPollAnswer (s : State) : Answer × State :=
  match s.rpq.queue with
  | [] => (okAnswer [0, 0], s)
  | r :: _ =>
    let rec1 := recordOf s r
    if s.rpq.partSent then (okAnswer (2 :: rec1.drop 45), popReport s)
    else if rec1.length ≤ 45 then (okAnswer (0 :: rec1), popReport s)
    else (okAnswer (1 :: rec1.take 45), { s with rpq := { s.rpq with partSent := true } })

/-! ## Forms (R178, R190) -/

/-- A frame or command whose payload or parameters are empty. -/
def noParams (f : State → Answer × State) (params : List Byte) (s : State) : Answer × State :=
  if params = [] then f s else (refuse .badFrame, s)

/-- VEND: selection, payment. -/
def vendFrame (params : List Byte) (s : State) : Answer × State :=
  match params with
  | [i, p] =>
    match paymentOf p.toNat with
    | some pay => vendCommand i.toNat pay s
    | none => (refuse .badValue, s)
  | _ => (refuse .badFrame, s)

/-- TUBE COUNT: tube, count. -/
def tubeCountFrame (params : List Byte) (s : State) : Answer × State :=
  match params with
  | [t, n] => tubeCountCommand t.toNat n.toNat s
  | _ => (refuse .badFrame, s)

/-- HOST BILL MASK: mask. -/
def hostBillMaskFrame (params : List Byte) (s : State) : Answer × State :=
  match params with
  | [m] => hostBillMaskCommand m s
  | _ => (refuse .badFrame, s)

end Sys2Proof.Machine
end

