-- ==== Sys2Proof/Machine/Resets.lean ====
section
/-! DEFINITION. The two resets (scope 2.2): the management reset, block by block (R187 and the rule of each block), and the
power-on reset. -/

namespace Sys2Proof.Machine

/-! ## Management reset -/

/-- R176: DLK's part. The segment state and the waiting request are kept; a pending release is completed at once
when no frame is being sent. -/
def resetLink (s : State) : State :=
  tryRelease { s with dlk := { s.dlk with own := [], transits := [], exchange := none } }

/-- R111: CRD's part, as R97 gives; no frame is handed over. -/
def resetCard (s : State) : State := setSession Crd.powerOn s

/-- R142: LDS's part; the compressor's grant is kept. -/
def resetLoads (s : State) : State :=
  { s with lds := { s.lds with claims := [], vendUnits := 0, payoutUnits := 0, coilUnits := 0 } }

/-- R37, R42, R49: SPD's part. -/
def resetSpirals (s : State) : State :=
  let s1 := driversOff (stopTurn s)
  { s1 with spd := { s1.spd with sweep := none } }

/-- R59, R65: CSH's own part. -/
def resetCash (s : State) : State :=
  { s with csh := { s.csh with escrow := none, gateOpen := false, diverterTube := false } }

/-- R146, R187: MGT's part. -/
def resetMode (s : State) : State :=
  { s with mgt := { mode := if s.cmn.supplyLow then .safe else .setup, returnMode := .setup } }

/-- R96: the PAYOUT_RESULT of a payout that the reset ends. -/
def resetPayoutReport (s : State) : Option EventReport :=
  s.chg.payout.map fun p => .payoutResult p.source p.requested p.paid (decide (p.paid < p.requested)) p.coins

/-- An event report appended without a reservation, if there is one (R198). -/
def appendResult (ev : Option EventReport) (s : State) : State :=
  match ev with
  | some e => appendEvent e s
  | none => s

/-- R198: the two results into the emptied queue. With both, either may stand first: a free value decides
(log entry 2). -/
def appendResults (vend payout : Option EventReport) (s : State) : State :=
  if vend.isSome ∧ payout.isSome then
    let s1 := { s with freeIx := s.freeIx + 1 }
    if Config.vendResultFirst s.freeIx then appendResult payout (appendResult vend s1)
    else appendResult vend (appendResult payout s1)
  else appendResult payout (appendResult vend s)

/-- R128: CLG files again a start claim that the reset dropped. -/
def refileStart (s : State) : State :=
  if s.clg.comp = .waitSupply ∨ (s.clg.comp = .blindOn ∧ s.clg.contactor = false) then fileStart s else s

/-- R187: the management reset. The results of the work it ends stand first in the emptied queue (R23, R198); the state
reports of what it changes follow, CARD_SESSION first, then those of the selection, the credit and the exact-change state
(log entry 6). -/
def managementReset (s : State) : State :=
  let drop := windowDrop s
  let s1 := appendResults (resetVendReport drop s) (resetPayoutReport s) (emptyReports s)
  let s2 := resetMode (resetSpirals (resetLoads (resetCard (resetLink s1))))
  let s3 := resetCash (endPayoutWith (fun _ a => a) (resetVendSettles drop s2))
  evaluateClaims (refileStart (cshRefresh s3))

/-- R187: RESET is answered OK, whatever the mode. -/
def resetCommand (s : State) : Answer × State := (okAnswer [], managementReset s)

/-! ## Power-on reset -/

/-- The sensor levels of the tubes at the end of a power-on reset (R75). -/
def poweredTube (l : PowerOnLevels) (i : Nat) : Tube :=
  { Tube.powerOn with lowCovered := l.lowCovered.getLsbD i, fullCovered := l.fullCovered.getLsbD i }

/-- R146: the supply state of the first sample, without its report. -/
def poweredMonitor (l : PowerOnLevels) : Cmn where
  supplyLow := decide (l.volts < 190)
  lowRun := if l.volts < 190 then 1 else 0
  goodRun := if 215 ≤ l.volts then 1 else 0
  brownouts := 0
  volts := l.volts
  nextSupply := ms 10
  doorOpen := l.doorOpen
  openings := if l.doorOpen then 1 else 0
  srqActive := l.srqActive

/-- Every block at its power-on values, with the levels the reset reads. The cams stand where they are (log entry 4), and the
commands that wait go on waiting. -/
def poweredState (l : PowerOnLevels) (s : State) : State :=
  { State.reset with
    pending := s.pending
    freeIx := s.freeIx
    spd := { Spd.powerOn with dropActive := l.dropActive, camOpen := s.spd.camOpen }
    csh := { Csh.powerOn with leverPressed := l.leverPressed }
    chg := { Chg.powerOn with tubes := tmk 6 (poweredTube l), sensorActive := l.psnsActive }
    cmn := poweredMonitor l
    ulk := { Ulk.powerOn with straps := l.straps }
    mgt := { mode := if l.volts < 190 then .safe else .setup, returnMode := .setup } }

/-- R146, R147, R149: the SUPPLY and DOOR reports, the door opening passed to CLG, and the request line passed to DLK. -/
def powerOn (l : PowerOnLevels) (s : State) : State :=
  let s1 := reportIf (decide (l.volts < 190)) .supply (poweredState l s)
  let s2 := if l.doorOpen then coolDoor true (report .door s1) else s1
  if l.srqActive then requestActive s2 else s2

end Sys2Proof.Machine
end

