-- ==== Sys2Proof/Machine/Upstream.lean ====
section
/-! DEFINITION. The Upstream Link and both receivers (chapter 8): characters, ends of frames, the delivery and the answer of a
frame, and breaks. -/

namespace Sys2Proof.Machine

/-! ## Management frames by KIND and command code (R178, R183) -/

/-- R178, R183: a COMMAND by its code. -/
def commandAnswer (payload : List Byte) (s : State) : Answer × State :=
  match payload with
  | [] => (refuse .badFrame, s)
  | code :: params =>
    match code.toNat with
    | 0x01 => noParams goOnlineCommand params s
    | 0x02 => noParams goOfflineCommand params s
    | 0x03 => vendFrame params s
    | 0x04 => noParams vendCancelCommand params s
    | 0x05 => noParams refundCommand params s
    | 0x06 => payoutCommand params s
    | 0x07 => tubeCountFrame params s
    | 0x08 => hostBillMaskFrame params s
    | 0x09 => noParams (economyCommand true) params s
    | 0x0A => noParams (economyCommand false) params s
    | 0x0B => noParams holdReleaseCommand params s
    | 0x0C => sweepCommand params s
    | 0x0D => noParams sweepStopCommand params s
    | 0x0E => noParams auditClearCommand params s
    | _ => (refuse .badFrame, s)

/-- R178: a management frame by its KIND. -/
def managementAnswer (kind : Byte) (payload : List Byte) (s : State) : Answer × State :=
  if kind = kPing then noParams (fun a => (pingAnswer a, a)) payload s
  else if kind = kTableRead then (tableReadAnswer s payload, s)
  else if kind = kTableWrite then tableWriteAnswer payload s
  else if kind = kCommand then commandAnswer payload s
  else if kind = kReportPoll then noParams reportPollAnswer payload s
  else if kind = kReset then noParams resetCommand payload s
  else (refuse .badFrame, s)

/-! ## Delivery and answer (R156, R157) -/

/-- The ANSWER frame (R156, R179): to the SRC of the frame answered, the status and the KIND before the fields. -/
def answerFrame (s : State) (src kind : Byte) (a : Answer) : List Byte :=
  frame src (ownNode s) kAnswer (ch a.status.code :: kind :: a.fields)

/-- R156: a good frame is delivered and acts in the same step, its ANSWER placed in the answer buffer. A frame that
began while the receive buffer was held has overrun and is discarded. -/
def deliver (src kind : Byte) (act : State → Answer × State) (s : State) : State :=
  let s1 := { s with ulk := { s.ulk with rx := .readyAt s.now } }
  if s.ulk.answerState ≠ .free ∨ s.ulk.rx.overrun then s1
  else
    let r := act s1
    { r.2 with ulk := { r.2.ulk with
        answerState := .turnaround
        answer := some (answerFrame s src kind r.1)
        deliveredAt := s.now } }

/-- R156: a good frame is sorted by its DEST. -/
def sortFrame (dest src kind : Byte) (payload : List Byte) (s : State) : State :=
  if dest = ownNode s then deliver src kind (managementAnswer kind payload) s
  else if (coveringEntry s dest.toNat).isSome then deliver src kind (transitCommand dest.toNat kind payload) s
  else s

/-- R157: from the delivery, 12 bit-times after the frame's last character, to the earliest start of the answer, 1 ms after
that character: 8,000 ticks less 5,000. -/
def turnaroundTicks : Nat := ms 1 - bitTimes true 12

/-- R157, R155: the answer's first start bit begins, no earlier than its time. -/
def beginAnswer (chars : List Byte) (s : State) : State :=
  let s1 := s.upTo (s.ulk.deliveredAt + turnaroundTicks)
  { s1 with ulk := { s1.ulk with
      answerState := .sending
      sendEnd := s1.now + frameTicks true chars.length s1.dlk.guardGap } }

/-! ## Frames (R154) -/

/-- R154: the tests of a frame; `some` is a good frame with its DEST, SRC, KIND and payload. -/
def goodFrame (r : Receiver) : Option (Byte × Byte × Byte × List Byte) :=
  if r.overrun ∨ (r.buffer.any fun c => c.parityError || c.framingError) then none
  else
    match r.buffer.map (·.byte) with
    | dest :: src :: kind :: len :: rest =>
      if len.toNat ≤ 48 ∧ r.count = len.toNat + 5 ∧ (r.buffer.map (·.byte)).sum = 0 then
        some (dest, src, kind, rest.take len.toNat)
      else none
    | _ => none

/-! ## Receivers (R150, R153) -/

/-- The receiver of a segment. -/
def rxOf (seg : Segment) (s : State) : Receiver :=
  match seg with
  | .upstream => s.ulk.rx
  | .downstream => s.dlk.rx

/-- The receiver of a segment stored. -/
def setRx (seg : Segment) (r : Receiver) (s : State) : State :=
  match seg with
  | .upstream => { s with ulk := { s.ulk with rx := r } }
  | .downstream => { s with dlk := { s.dlk with rx := r } }

/-- The rate a receiver counts at: U always 19,200 bit/s (R151, R152). -/
def rxFastRate (seg : Segment) (s : State) : Bool :=
  match seg with
  | .upstream => true
  | .downstream => s.dlk.rxFast

/-- R155: while DLK's driver is on, its receiver takes no start edges or breaks from DRX. That it takes no character either whose
start edge came before and whose stop sample falls in that time is the model's choice (log entry 49). -/
def rxDeaf (seg : Segment) (s : State) : Bool :=
  match seg with
  | .upstream => false
  | .downstream => s.dlk.dde

/-- R156: a frame that begins while the receive buffer is held overruns. On D overrun does not arise (R160). -/
def beginsOverrun (seg : Segment) (s : State) : Bool :=
  match seg with
  | .upstream => s.ulk.answerState != .free
  | .downstream => false

/-- R153: a character taken by a receiver; the idle count runs from the end of its stop bit period (R150). -/
def Receiver.take (r : Receiver) (c : RxChar) (overrun : Bool) (stopEnd markAt : Time) : Receiver :=
  match r.line with
  | .waitIdle => { r with idleFrom := stopEnd, markAt := markAt }
  | .ready =>
    { line := .receiving, buffer := [c], count := 1, overrun := overrun, idleFrom := stopEnd, markAt := markAt }
  | .receiving =>
    { r with
      buffer := if r.buffer.length < 53 then r.buffer ++ [c] else r.buffer
      count := r.count + 1
      idleFrom := stopEnd
      markAt := markAt }
  | .brk => r

/-- R158: the latest moment at mark that a character taken at `now` shows: its stop sample, or, with that sample at
space, the end of its last bit at mark, counted by the receiver's pacer from the start edge (R151, log entry 44). -/
def lastMark (fast : Bool) (bits : BitVec 9) (stopMark : Bool) (now : Time) : Time :=
  if stopMark then now else now - sampleTicks fast + bitTimes fast (lastSpaceFrom bits)

/-- R150, R153: a character taken, its error marks found from its samples. Its start edge comes no earlier than the end of the
character before it, or than the moment at which the receiver became READY. While DLK's driver is on, no character is taken on D
(R155, log entry 49). -/
def characterTaken (seg : Segment) (bits : BitVec 9) (stopMark : Bool) (s : State) : State :=
  if rxDeaf seg s ∨ (rxOf seg s).line = .brk then s
  else
    let fast := rxFastRate seg s
    let s1 := s.upTo ((rxOf seg s).idleFrom + sampleTicks fast)
    setRx seg ((rxOf seg s1).take (charOfSamples bits stopMark) (beginsOverrun seg s1) (s1.now + stopTicks fast)
      (lastMark fast bits stopMark s1.now)) s1

/-- R154, R160: a frame ends on D. While the segment is RELEASED nothing is delivered. -/
def endDownstream (good : Option (Byte × Byte × Byte × List Byte)) (s : State) : State :=
  if s.dlk.seg = .released then s
  else
    match good with
    | some (dest, src, kind, payload) =>
      lateExpiry (if dest = ownNode s then downstreamFrame src kind payload s else s)
    | none => lateExpiry s

/-- R154, R156: a frame ends on U. -/
def endUpstream (r : Receiver) (s : State) : State :=
  match goodFrame r with
  | some (dest, src, kind, payload) => sortFrame dest src kind payload s
  | none => s

/-- R153: twelve bit-times of mark. On D a frame that was being received when DLK's driver went on may still end while the
driver is on, and what is left of it is dropped when the driver goes off: the rules do not say (log entry 49). -/
def frameEnds (seg : Segment) (s : State) : State :=
  let r := rxOf seg s
  let s1 := s.upTo (r.idleFrom + bitTimes (rxFastRate seg s) 12)
  match r.line with
  | .waitIdle => setRx seg (.readyAt s1.now) s1
  | .receiving =>
    let s2 := setRx seg (.readyAt s1.now) s1
    match seg with
    | .upstream => endUpstream r s2
    | .downstream => endDownstream (goodFrame r) s2
  | .ready | .brk => s

/-! ## Breaks (R158 to R160) -/

/-- R159: a break on URX discards an answer that has not begun. -/
def breakUpstream (s : State) : State :=
  if s.ulk.answerState = .turnaround then { s with ulk := { s.ulk with answerState := .free, answer := none } } else s

/-- R160: a break on DRX ends an exchange that awaits its reply. -/
def breakDownstream (s : State) : State :=
  if s.dlk.seg = .released then s
  else
    match awaitingExchange s with
    | some (x, _) => exchangeMissed x s
    | none => s

/-- R158: the 22nd bit-time of space ends, counted at the receiver's rate (R151) from the last change to space. -/
def breakDue (seg : Segment) (s : State) : Time := (rxOf seg s).markAt + bitTimes (rxFastRate seg s) 22

/-- R158: a break detected, no earlier than its time, moves the receiver to BREAK and discards its partial frame. -/
def breakTaken (seg : Segment) (s : State) : State :=
  if rxDeaf seg s ∨ (rxOf seg s).line = .brk then s
  else
    let s1 := setRx seg { rxOf seg s with line := .brk, buffer := [], count := 0, overrun := false }
      (s.upTo (breakDue seg s))
    match seg with
    | .upstream => breakUpstream s1
    | .downstream => breakDownstream s1

/-- R153: the line returns to mark. -/
def breakEnds (seg : Segment) (s : State) : State :=
  if (rxOf seg s).line = .brk then setRx seg { rxOf seg s with line := .waitIdle, idleFrom := s.now, markAt := s.now } s else s

end Sys2Proof.Machine
end

