-- ==== Sys2Proof/Machine/CabinetRows.lean ====
section
/-! DEFINITION. The meanings of the power-on reset and of the Cabinet Monitor's rows (sections 7.4 to 7.7). -/

namespace Sys2Proof.Machine

/-- POWER_ON_RESET (R146). -/
def execPowerOnReset (levels : PowerOnLevels) (s : State) : Result := .next (powerOn levels s)

/-- SERVICE_REQUEST_CHANGE (R149, R173). -/
def execServiceRequestChange (active : Bool) (s : State) : Result :=
  if s.cmn.srqActive = active then .next s
  else
    let s1 := { s with cmn := { s.cmn with srqActive := active } }
    .next (if active then requestActive s1 else requestInactive s1)

/-- DOOR_CHANGE (R147, R148). -/
def execDoorChange (isOpen : Bool) (s : State) : Result :=
  if s.cmn.doorOpen = isOpen then .next s else .next (doorTaken isOpen s)

/-- SUPPLY_LOW (R143, R144). The SUPPLY report stands before those of the entry to SAFE (log entry 6). -/
def execSupplyLow (volts : Nat) (s : State) : Result :=
  if completesLow volts s then
    let s1 := supplySampled volts (s.upTo s.cmn.nextSupply)
    .next (enterSafe (report .supply { s1 with cmn := { s1.cmn with
      supplyLow := true
      brownouts := satAdd 255 s1.cmn.brownouts 1 } }))
  else .next s

/-- SUPPLY_GOOD (R143, R145). The SUPPLY report stands before those of the end of SAFE (log entry 6). -/
def execSupplyGood (volts : Nat) (s : State) : Result :=
  if completesGood volts s then
    let s1 := supplySampled volts (s.upTo s.cmn.nextSupply)
    .next (leaveSafe (report .supply { s1 with cmn := { s1.cmn with supplyLow := false } }))
  else .next s

/-- SUPPLY_SAMPLE (R143): a sample that completes no run. One that would complete a run is another row's. -/
def execSupplySample (volts : Nat) (s : State) : Result :=
  if completesLow volts s ∨ completesGood volts s then .next s
  else .next (supplySampled volts (s.upTo s.cmn.nextSupply))

end Sys2Proof.Machine
end

