-- ==== Sys2Proof/Machine/CashRows.lean ====
section
/-! DEFINITION. The meanings of the rows of the coin mechanism, the return lever, the escrow and the card deadline (chapters 3
and 5). -/

namespace Sys2Proof.Machine

/-- CLASS_REPORT (R59). A coin of class UNKNOWN is returned in every mode (R60). -/
def execClassReport (cls : Option (Fin 16)) (s : State) : Result :=
  match cls with
  | some i => .next (coinDecided i s)
  | none => .next (closeGate s)

/-- CLEAR_REPORT (R59). -/
def execClearReport (s : State) : Result := .next (closeGate s)

/-- GATE_TIMEOUT (R59). -/
def execGateTimeout (s : State) : Result :=
  if s.csh.gateOpen then .next (closeGate (s.upTo (s.csh.gateSince + ms 500))) else .next s

/-- LEVER_PRESS (R63). A lever that reads pressed already makes no press until it has been released. -/
def execLeverPress (s : State) : Result :=
  if s.csh.leverPressed then .next s
  else
    let s1 := { s with csh := { s.csh with leverPressed := true } }
    .next (if refundRefusal s = none then startRefund s1 else s1)

/-- LEVER_RELEASE (R63). -/
def execLeverRelease (s : State) : Result := .next { s with csh := { s.csh with leverPressed := false } }

/-- ESCROW_EXPIRY (R65). -/
def execEscrowExpiry (s : State) : Result :=
  match s.csh.escrow with
  | some e => .next (dropEscrow (s.upTo (e.decidedAt + seconds 10)))
  | none => .next s

/-- APPROVAL_DEADLINE_EXPIRY (R103). -/
def execApprovalDeadlineExpiry (s : State) : Result :=
  match s.crd.state, s.crd.deadline with
  | .approvalWait, some due => .next (deadlineExpires (s.upTo due))
  | _, _ => .next s

end Sys2Proof.Machine
end

