-- ==== Sys2Proof/Machine/CoolingRows.lean ====
section
/-! DEFINITION. The meanings of the rows of the Cooling Unit (chapter 6) and of the starvation guard (R139). -/

namespace Sys2Proof.Machine

/-- R115: the four records updated. -/
def sampleSensors (airA airB coil condenser : Nat) (s : State) : State :=
  sampleSensor 3 condenser (sampleSensor 2 coil (sampleSensor 1 airB (sampleSensor 0 airA s)))

/-- R133: the hold is set where it is due, with what follows from it. -/
def sampleHold (s : State) : State :=
  if holdDue s then
    let s1 := report .safetyHold { s with clg := { s.clg with hold := true } }
    evaluateClaims (holdCancelsVend (settleCash s (selRefresh s1)))
  else s

/-- R132: the warm time advanced. -/
def sampleWarm (s : State) : State := { s with clg := { s.clg with warmTime := nextWarmTime s } }

/-- COOLING_SAMPLE (R112): records, temperatures, demand and transitions, warm timer, in this order. -/
def execCoolingSample (airA airB coil condenser : BitVec 10) (s : State) : Result :=
  let s0 := s.upTo s.clg.nextSample
  let s1 := { s0 with clg := { s0.clg with nextSample := s.clg.nextSample + seconds 1 } }
  let s2 := sampleTemps (sampleSensors airA.toNat airB.toNat coil.toNat condenser.toNat s1)
  let s3 := evaluateClaims (setFans (sampleTransitions s.clg.blind s2))
  .next (sampleHold (sampleWarm s3))

/-- START_END (R121, R126): 3 of the 4 units go back. -/
def execStartEnd (s : State) : Result :=
  if s.lds.compUnits = 4 ∧ s.clg.contactor ∧ (s.clg.comp = .start ∨ s.clg.comp = .blindOn) then
    let s1 := s.upTo (s.clg.startedAt + seconds 3)
    let s2 := { s1 with lds := { s1.lds with compUnits := 1 } }
    .next (evaluateClaims (if s.clg.comp = .start then setComp .run s2 else s2))
  else .next s

/-- GUARD_EXPIRY (R120). -/
def execGuardExpiry (s : State) : Result :=
  if s.clg.comp = .guard then .next (evaluateClaims (leaveGuard (s.upTo (s.clg.lastStop + guardTicks)))) else .next s

/-- MINIMUM_RUN_END (R122). -/
def execMinimumRunEnd (s : State) : Result :=
  if s.clg.comp = .run then
    let s1 := s.upTo (s.clg.startedAt + minimumRun)
    .next (if s.clg.demand then s1 else evaluateClaims (stopByDemand s1))
  else .next s

/-- R123: the moment at which defrost is due and the continuous run is 60 min. -/
def forcedDefrostTime (s : State) : Time :=
  max (s.clg.runEntered + minutes 60) (s.clg.startedAt + (defrostTicks s - s.clg.runTicks))

/-- FORCED_DEFROST (R123). -/
def execForcedDefrost (s : State) : Result :=
  if s.clg.comp = .run then .next (evaluateClaims (enterDefrost (compStop (s.upTo (forcedDefrostTime s))))) else .next s

/-- DEFROST_MAXIMUM (R124). -/
def execDefrostMaximum (s : State) : Result :=
  if s.clg.comp = .defrost then
    .next (evaluateClaims (enterDrip (s.upTo (s.clg.stateSince + minutes s.clg.maxInForce))))
  else .next s

/-- DRIP_END (R124). -/
def execDripEnd (s : State) : Result :=
  if s.clg.comp = .drip then
    .next (evaluateClaims (enterGuard (s.upTo (s.clg.stateSince + seconds s.clg.dripInForce))))
  else .next s

/-- R126: a BLIND_ON period ends. -/
def endBlindOn (s : State) : State :=
  if defrostDue s then enterDefrost (compStop s)
  else setComp .blindOff (compStop { s with clg := { s.clg with stateSince := s.now } })

/-- BLIND_ON_END (R126): 10 min from the later of the compressor's start and the beginning of BLIND. -/
def execBlindOnEnd (s : State) : Result :=
  if s.clg.comp = .blindOn ∧ s.clg.contactor then
    .next (evaluateClaims (endBlindOn (s.upTo (max s.clg.startedAt s.clg.blindSince + minutes 10))))
  else .next s

/-- BLIND_OFF_END (R126). -/
def execBlindOffEnd (s : State) : Result :=
  if s.clg.comp = .blindOff then
    .next (evaluateClaims (fileStart (setComp .blindOn (s.upTo (s.clg.stateSince + minutes 10)))))
  else .next s

/-- GRACE_WINDOW_END (R131). -/
def execGraceWindowEnd (s : State) : Result :=
  match s.clg.grace with
  | some g =>
    let s1 := s.upTo g.closeAt
    .next { s1 with clg := { s1.clg with grace := none } }
  | none => .next s

/-- R139: a compressor start claim becomes guarding. -/
def guardClaim (s : State) : State :=
  { s with lds := { s.lds with claims := s.lds.claims.map fun c =>
      if c.kind = .compressor then { c with guarding := true } else c } }

/-- STARVATION_GUARD (R139). -/
def execStarvationGuard (s : State) : Result :=
  match s.lds.claims.find? fun c => c.kind == .compressor && !c.guarding with
  | some c => .next (evaluateClaims (guardClaim (s.upTo (c.filed + seconds 60))))
  | none => .next s

end Sys2Proof.Machine
end

