-- ==== Sys2Proof/Machine/LinkRows.lean ====
section
/-! DEFINITION. The meanings of the rows of the two segments (chapters 8 and 9). A timed event moves the clock on to its due
time where that is still ahead; an event whose condition does not hold has no effect (log entry 1). -/

namespace Sys2Proof.Machine

/-- END_OF_FRAME (R153). -/
def execEndOfFrame (seg : Segment) (s : State) : Result := .next (frameEnds seg s)

/-- REPLY (R164): a good frame on D addressed to the SV640. It leaves D's receiver READY. -/
def execReply (src kind : Byte) (payload : List Byte) (s : State) : Result :=
  .next (endDownstream (some (ownNode s, src, kind, payload)) (setRx .downstream (.readyAt s.now) s))

/-- RESPONSE_TIMEOUT (R164). While D's receiver is RECEIVING, the expiry waits for the frame's end. -/
def execResponseTimeout (s : State) : Result :=
  match awaitingExchange s with
  | some (x, t) =>
    if x.expired then .next s
    else
      let s1 := s.upTo (t + ms x.timeout)
      if s1.dlk.rx.line = .receiving then
        .next { s1 with dlk := { s1.dlk with exchange := some { x with expired := true } } }
      else .next (exchangeMissed x s1)
  | none => .next s

/-- BREAK (R158). -/
def execLineBreak (seg : Segment) (s : State) : Result := .next (breakTaken seg s)

/-- BREAK_END (R153). -/
def execBreakEnd (seg : Segment) (s : State) : Result := .next (breakEnds seg s)

/-- ANSWER_START (R157). -/
def execAnswerStart (s : State) : Result :=
  match s.ulk.answerState, s.ulk.answer with
  | .turnaround, some chars => .next (beginAnswer chars s)
  | _, _ => .next s

/-- ANSWER_SENT (R156). -/
def execAnswerSent (s : State) : Result :=
  if s.ulk.answerState = .sending then
    let s1 := s.upTo s.ulk.sendEnd
    .next { s1 with ulk := { s1.ulk with answerState := .free, answer := none } }
  else .next s

/-- EXCHANGE_START (R163). -/
def execExchangeStart (s : State) : Result := .next (nextExchange s)

/-- DOWNSTREAM_FRAME_SENT (R163). -/
def execDownstreamFrameSent (s : State) : Result :=
  match s.dlk.sending with
  | some f => .next (frameSent (s.upTo f.finish))
  | none => .next s

/-- POLL_DUE (R166). While the segment is RELEASED no poll falls due (R174). -/
def execPollDue (entry : Fin 8) (s : State) : Result :=
  if (routeOf s entry).inUse ∧ (pollOf s entry).due = false ∧ s.dlk.seg ≠ .released then
    let s1 := s.upTo (pollOf s entry).nextDue
    .next { s1 with dlk := { s1.dlk with polls := tset s1.dlk.polls entry { pollOf s entry with due := true } } }
  else .next s

/-- CHARACTER_TAKEN (R150, R153). -/
def execCharacterTaken (seg : Segment) (data : Byte) (parityMark stopMark : Bool) (s : State) : Result :=
  .next (characterTaken seg (sampledBits data parityMark) stopMark s)

end Sys2Proof.Machine
end

