-- ==== Sys2Proof/Machine/ManagementRows.lean ====
section
/-! DEFINITION. The meanings of the rows that stand for a frame delivered upstream (sections 10.1, 10.2 and 9.5). Each is
delivered by ULK (R156), and its ANSWER is placed in the answer buffer in the same step (R179). -/

namespace Sys2Proof.Machine

/-- RESET (R187). -/
def execReset (src : Byte) (payload : List Byte) (s : State) : Result :=
  .next (deliver src kReset (noParams resetCommand payload) s)

/-- PING (R180). -/
def execPing (src : Byte) (payload : List Byte) (s : State) : Result :=
  .next (deliver src kPing (noParams (fun a => (pingAnswer a, a)) payload) s)

/-- TABLE READ (R181). -/
def execTableRead (src : Byte) (payload : List Byte) (s : State) : Result :=
  .next (deliver src kTableRead (fun a => (tableReadAnswer a payload, a)) s)

/-- TABLE WRITE (R182). -/
def execTableWrite (src : Byte) (payload : List Byte) (s : State) : Result :=
  .next (deliver src kTableWrite (tableWriteAnswer payload) s)

/-- TABLE WRITE to table 1 (R6). -/
def execSelectionWrite (src : Byte) (payload : List Byte) (s : State) : Result :=
  .next (deliver src kTableWrite (writeSelection payload) s)

/-- TABLE WRITE to table 2 (R25). -/
def execTrayWrite (src : Byte) (payload : List Byte) (s : State) : Result :=
  .next (deliver src kTableWrite (writeTray payload) s)

/-- TABLE WRITE to table 3 (R52). -/
def execCoinTableWrite (src : Byte) (payload : List Byte) (s : State) : Result :=
  .next (deliver src kTableWrite (writeCoin payload) s)

/-- TABLE WRITE to table 4 (R52). -/
def execBillTableWrite (src : Byte) (payload : List Byte) (s : State) : Result :=
  .next (deliver src kTableWrite (writeBill payload) s)

/-- TABLE WRITE to table 5 (R76). -/
def execTubeTableWrite (src : Byte) (payload : List Byte) (s : State) : Result :=
  .next (deliver src kTableWrite (writeTube payload) s)

/-- TABLE WRITE to table 6 (R162). -/
def execRouteTableWrite (src : Byte) (payload : List Byte) (s : State) : Result :=
  .next (deliver src kTableWrite (writeRoute payload) s)

/-- TABLE WRITE to table 7 (R55). -/
def execVendSettingsWrite (src : Byte) (payload : List Byte) (s : State) : Result :=
  .next (deliver src kTableWrite (writeVendSettings payload) s)

/-- TABLE WRITE to table 8 (R118). -/
def execCoolingSettingsWrite (src : Byte) (payload : List Byte) (s : State) : Result :=
  .next (deliver src kTableWrite (writeCooling payload) s)

/-- TABLE WRITE to table 9 (R114). -/
def execCalibrationWrite (src : Byte) (payload : List Byte) (s : State) : Result :=
  .next (deliver src kTableWrite (writeCalibration payload) s)

/-- TABLE WRITE to table 10 (R152). -/
def execDriveAndLinkSettingsWrite (src : Byte) (payload : List Byte) (s : State) : Result :=
  .next (deliver src kTableWrite (writeDriveLink payload) s)

/-- REPORT POLL (R197). -/
def execReportPoll (src : Byte) (payload : List Byte) (s : State) : Result :=
  .next (deliver src kReportPoll (noParams reportPollAnswer payload) s)

/-- GO ONLINE (R184). -/
def execGoOnline (src : Byte) (params : List Byte) (s : State) : Result :=
  .next (deliver src kCommand (noParams goOnlineCommand params) s)

/-- GO OFFLINE (R185). -/
def execGoOffline (src : Byte) (params : List Byte) (s : State) : Result :=
  .next (deliver src kCommand (noParams goOfflineCommand params) s)

/-- VEND (R10). -/
def execVend (src : Byte) (params : List Byte) (s : State) : Result :=
  .next (deliver src kCommand (vendFrame params) s)

/-- VEND CANCEL (R17). -/
def execVendCancel (src : Byte) (params : List Byte) (s : State) : Result :=
  .next (deliver src kCommand (noParams vendCancelCommand params) s)

/-- REFUND (R88). -/
def execRefund (src : Byte) (params : List Byte) (s : State) : Result :=
  .next (deliver src kCommand (noParams refundCommand params) s)

/-- PAYOUT (R89). -/
def execPayout (src : Byte) (params : List Byte) (s : State) : Result :=
  .next (deliver src kCommand (payoutCommand params) s)

/-- TUBE COUNT (R82). -/
def execTubeCount (src : Byte) (params : List Byte) (s : State) : Result :=
  .next (deliver src kCommand (tubeCountFrame params) s)

/-- HOST BILL MASK (R186). -/
def execHostBillMask (src : Byte) (params : List Byte) (s : State) : Result :=
  .next (deliver src kCommand (hostBillMaskFrame params) s)

/-- ECONOMY ON (R135). -/
def execEconomyOn (src : Byte) (params : List Byte) (s : State) : Result :=
  .next (deliver src kCommand (noParams (economyCommand true) params) s)

/-- ECONOMY OFF (R135). -/
def execEconomyOff (src : Byte) (params : List Byte) (s : State) : Result :=
  .next (deliver src kCommand (noParams (economyCommand false) params) s)

/-- HOLD RELEASE (R134). -/
def execHoldRelease (src : Byte) (params : List Byte) (s : State) : Result :=
  .next (deliver src kCommand (noParams holdReleaseCommand params) s)

/-- SWEEP (R43). -/
def execSweep (src : Byte) (params : List Byte) (s : State) : Result :=
  .next (deliver src kCommand (sweepCommand params) s)

/-- SWEEP STOP (R47). -/
def execSweepStop (src : Byte) (params : List Byte) (s : State) : Result :=
  .next (deliver src kCommand (noParams sweepStopCommand params) s)

/-- AUDIT CLEAR (R73). -/
def execAuditClear (src : Byte) (params : List Byte) (s : State) : Result :=
  .next (deliver src kCommand (noParams auditClearCommand params) s)

/-- A transit (R171). -/
def execTransit (src dest kind : Byte) (payload : List Byte) (s : State) : Result :=
  .next (deliver src kind (transitCommand dest.toNat kind payload) s)

end Sys2Proof.Machine
end

