-- ==== Sys2Proof/Machine/PayoutRows.lean ====
section
/-! DEFINITION. The meanings of the rows of the payout drives, the payout sensor and the tube sensors (chapter 4). -/

namespace Sys2Proof.Machine

/-- R91: the pulse ends. -/
def pulseOff (p : Payout) (s : State) : State :=
  { s with chg := { s.chg with drive := none, payout := some { p with pulse := none } } }

/-- PAYOUT_PULSE_END (R91). Where the coin has already been seen, what follows the coin follows here. -/
def execPayoutPulseEnd (s : State) : Result :=
  match s.chg.payout with
  | some p =>
    match p.pulse with
    | some t =>
      let s1 := pulseOff p (s.upTo (t + ms 80))
      if p.window = none then .next (evaluateClaims (nextCoin s1)) else .next s1
    | none => .next s
  | none => .next s

/-- R91, R93, R96: what follows a coin just seen. While its pulse is on, the pulse's end decides. -/
def afterCoin (p : Payout) (s : State) : State :=
  if p.pulse.isSome then s
  else if p.cut then endPayout s
  else if p.jammed then afterFailure s
  else nextCoin s

/-- PAYOUT_COIN_SEEN (R91). -/
def execPayoutCoinSeen (s : State) : Result :=
  if s.chg.sensorActive then .next s
  else
    let s1 := s.upTo (s.chg.sensorInactiveSince + ms 5)
    let s2 := { s1 with chg := { s1.chg with sensorActive := true } }
    match s2.chg.payout with
    | some p => if p.window.isSome then .next (evaluateClaims (afterCoin p (coinPaid p s2))) else .next s2
    | none => .next s2

/-- PAYOUT_SENSOR_INACTIVE (R91). -/
def execPayoutSensorInactive (s : State) : Result :=
  .next { s with chg := { s.chg with sensorActive := false, sensorInactiveSince := s.now } }

/-- R92: a tube found empty. -/
def tubeEmpty (t : Nat) (s : State) : State :=
  settleCash s (storeTube t { tubeOf s t with count := 0, state := .empty } s)

/-- R93: a tube found jammed. -/
def tubeJammed (t : Nat) (s : State) : State :=
  settleCash s (storeTube t { tubeOf s t with state := .jammed } s)

/-- SENSOR_WINDOW_EXPIRY (R92, R93, R96). -/
def execSensorWindowExpiry (s : State) : Result :=
  match s.chg.payout with
  | some p =>
    match p.window with
    | some t =>
      let s1 := s.upTo (t + ms 400)
      let s2 := { s1 with chg := { s1.chg with
        drive := none
        payout := some { p with pulse := none, window := none } } }
      .next (evaluateClaims (afterFailure (if p.cut ∨ p.jammed then s2 else tubeEmpty p.tube s2)))
    | none => .next s
  | none => .next s

/-- DRIVE_JAM (R93): twenty samples, one every millisecond from the start of the pulse, above the jam threshold. -/
def execDriveJam (least : Nat) (s : State) : Result :=
  match s.chg.payout with
  | some p =>
    match p.pulse with
    | some t =>
      if s.spd.jamThreshold < least then
        let s1 := tubeJammed p.tube (pulseOff { p with jammed := true } (s.upTo (t + ms 20)))
        if p.window.isSome then .next s1 else .next (evaluateClaims (afterFailure s1))
      else .next s
    | none => .next s
  | none => .next s

/-- LOW_SENSOR_CHANGE (R78). -/
def execLowSensorChange (tube : Fin 6) (covered : Bool) (s : State) : Result :=
  let t := tubeOf s tube
  if t.lowCovered = covered then .next s
  else
    let count :=
      if covered then (if t.count < t.lowLevel then t.lowLevel else t.count)
      else (if t.lowLevel ≤ t.count then t.lowLevel - 1 else t.count)
    .next (settleCash s (storeTube tube { t with lowCovered := covered, count := count } s))

/-- FULL_SENSOR_CHANGE (R79). -/
def execFullSensorChange (tube : Fin 6) (covered : Bool) (s : State) : Result :=
  let t := tubeOf s tube
  if t.fullCovered = covered then .next s
  else
    let count := if covered then t.capacity else if t.count = t.capacity then t.capacity - 1 else t.count
    .next (settleCash s (storeTube tube { t with fullCovered := covered, count := count } s))

end Sys2Proof.Machine
end

