-- ==== Sys2Proof/Machine/SpiralRows.lean ====
section
/-! DEFINITION. The meanings of the rows of the motor matrix, the drop curtain and the coil check (chapter 2). -/

namespace Sys2Proof.Machine

/-- R30: the open and short thresholds, in milliamperes. -/
def openThreshold : Nat := 40

def shortThreshold : Nat := 3000

/-- CAM_CHANGE (R30, R33). The level of the cam switch is kept for the next motor start (R32); a running motor's
opening is recorded, and its close after an opening stops it. -/
def execCamChange (tray : Fin 8) (col : Fin 10) (closed : Bool) (s : State) : Result :=
  let s1 := { s with spd := { s.spd with camOpen := tset s.spd.camOpen (posIndex tray col) (!closed) } }
  match runningMotor col s1 with
  | some (t, m) =>
    if t.tray ≠ tray then .next s1
    else if closed then
      if m.opened then .next (motorHome col t s1) else .next s1
    else
      .next { s1 with spd := { s1.spd with turn := some (t.setMotor col fun m => { m with opened := true }) } }
  | none => .next s1

/-- STUCK_AT_HOME (R33). -/
def execStuckAtHome (col : Fin 10) (s : State) : Result :=
  match runningMotor col s with
  | some (t, m) =>
    if m.opened then .next s else .next (motorFault col none .jam t (s.upTo (t.start + ms 800)))
  | none => .next s

/-- NO_HOME (R33). -/
def execNoHome (col : Fin 10) (s : State) : Result :=
  match runningMotor col s with
  | some (t, m) =>
    if m.opened then .next (motorFault col none .jam t (s.upTo (t.start + ms 6000))) else .next s
  | none => .next s

/-- The turn that is not complete, with its motor on a column whose open test is still to be decided: one that
runs, or one that has stopped normally (R34, log entry 18). A turn that is complete before the test stays so, and the test
is not decided (log entry 46). -/
def untestedMotor (col : Nat) (s : State) : Option Turn :=
  match s.spd.turn with
  | some t =>
    if t.completed = none ∧
        t.motors.any fun m => m.col == col && !m.openTested && (m.stop == .running || m.stop == .normal) then some t
    else none
  | none => none

/-- OPEN_TEST (R34). -/
def execOpenTest (col : Fin 10) (peak : Nat) (s : State) : Result :=
  match untestedMotor col s with
  | some t =>
    let s1 := s.upTo (t.start + ms 100)
    if peak < openThreshold then .next (motorFault col (some .opened) .motorOpen t s1)
    else .next { s1 with spd := { s1.spd with turn := some (t.setMotor col fun m => { m with openTested := true }) } }
  | none => .next s

/-- MOTOR_SHORT (R34). -/
def execMotorShort (col : Fin 10) (sample : Nat) (s : State) : Result :=
  match runningMotor col s with
  | some (t, _) =>
    if shortThreshold < sample then .next (motorFault col (some .shorted) .jam t s) else .next s
  | none => .next s

/-- MOTOR_JAM (R34). -/
def execMotorJam (col : Fin 10) (least : Nat) (s : State) : Result :=
  match runningMotor col s with
  | some (t, _) =>
    if s.spd.jamThreshold < least then .next (motorFault col none .jam t (s.upTo (t.start + ms 200))) else .next s
  | none => .next s

/-- R41: a drop outside any window. -/
def lateDrop (s : State) : State :=
  match s.spd.lateDrop with
  | some (i, t) =>
    if s.now ≤ t + seconds 10 then
      report (.lateDrop i)
        { s with spd := { s.spd with lateCounts := tset s.spd.lateCounts i (satAdd 255 (tget s.spd.lateCounts 0 i) 1) } }
    else s
  | none => s

/-- DROP_EVENT (R38, R39, R41). -/
def execDropEvent (s : State) : Result :=
  if s.spd.dropActive then .next s
  else
    let s1 := s.upTo (s.spd.dropInactiveSince + ms 20)
    let s2 := { s1 with spd := { s1.spd with dropActive := true } }
    match s2.spd.turn with
    | some t => .next { s2 with spd := { s2.spd with turn := some { t with dropSeen := true } } }
    | none => .next (lateDrop s2)

/-- DROP_CURTAIN_CLEAR (R38). -/
def execDropCurtainClear (s : State) : Result :=
  .next { s with spd := { s.spd with dropActive := false, dropInactiveSince := s.now } }

/-- DROP_WINDOW_CLOSE (R39, R40). -/
def execDropWindowClose (s : State) : Result :=
  match s.spd.turn with
  | some t =>
    match t.completed with
    | some (r, at1) =>
      let s1 := s.upTo (at1 + ms 1500)
      .next (turnReport r t.dropSeen
        { s1 with spd := { s1.spd with turn := none, lateDrop := some (t.selection, s1.now) } })
    | none => .next s
  | none => .next s

/-- R45: a coil check ends with a result, and the walk goes on. -/
def endCoilCheck (h : Health) (w : Sweep) (s : State) : State :=
  evaluateClaims (finishCheck h w (evaluateClaims (releaseCheck w s)))

/-- COIL_CHECK_END (R45). A check with a sample above the short threshold has ended short. -/
def execCoilCheckEnd (peak : Nat) (s : State) : Result :=
  match energizedCheck s with
  | some (w, since) =>
    if shortThreshold < peak then .next s
    else .next (endCoilCheck (if peak < openThreshold then .opened else .ok) w (s.upTo (since + ms 50)))
  | none => .next s

/-- COIL_CHECK_SHORT (R45). -/
def execCoilCheckShort (sample : Nat) (s : State) : Result :=
  match energizedCheck s with
  | some (w, _) => if shortThreshold < sample then .next (endCoilCheck .shorted w s) else .next s
  | none => .next s

end Sys2Proof.Machine
end

