-- ==== Sys2Proof/Machine/Dispatch.lean ====
section
/-! DEFINITION. The dispatch: one arm for each command, each one call of its meaning. -/

namespace Sys2Proof.Machine

def exec (i : Instr) (s : State) : Host.Outcome State Fault Refusal :=
  match i with
  | .powerOnReset levels => Sys2Proof.Machine.execPowerOnReset levels s
  | .reset src payload => Sys2Proof.Machine.execReset src payload s
  | .ping src payload => Sys2Proof.Machine.execPing src payload s
  | .tableRead src payload => Sys2Proof.Machine.execTableRead src payload s
  | .tableWrite src payload => Sys2Proof.Machine.execTableWrite src payload s
  | .selectionWrite src payload => Sys2Proof.Machine.execSelectionWrite src payload s
  | .trayWrite src payload => Sys2Proof.Machine.execTrayWrite src payload s
  | .coinTableWrite src payload => Sys2Proof.Machine.execCoinTableWrite src payload s
  | .billTableWrite src payload => Sys2Proof.Machine.execBillTableWrite src payload s
  | .tubeTableWrite src payload => Sys2Proof.Machine.execTubeTableWrite src payload s
  | .routeTableWrite src payload => Sys2Proof.Machine.execRouteTableWrite src payload s
  | .vendSettingsWrite src payload => Sys2Proof.Machine.execVendSettingsWrite src payload s
  | .coolingSettingsWrite src payload => Sys2Proof.Machine.execCoolingSettingsWrite src payload s
  | .calibrationWrite src payload => Sys2Proof.Machine.execCalibrationWrite src payload s
  | .driveAndLinkSettingsWrite src payload => Sys2Proof.Machine.execDriveAndLinkSettingsWrite src payload s
  | .reportPoll src payload => Sys2Proof.Machine.execReportPoll src payload s
  | .goOnline src params => Sys2Proof.Machine.execGoOnline src params s
  | .goOffline src params => Sys2Proof.Machine.execGoOffline src params s
  | .vend src params => Sys2Proof.Machine.execVend src params s
  | .vendCancel src params => Sys2Proof.Machine.execVendCancel src params s
  | .refund src params => Sys2Proof.Machine.execRefund src params s
  | .payout src params => Sys2Proof.Machine.execPayout src params s
  | .tubeCount src params => Sys2Proof.Machine.execTubeCount src params s
  | .hostBillMask src params => Sys2Proof.Machine.execHostBillMask src params s
  | .economyOn src params => Sys2Proof.Machine.execEconomyOn src params s
  | .economyOff src params => Sys2Proof.Machine.execEconomyOff src params s
  | .holdRelease src params => Sys2Proof.Machine.execHoldRelease src params s
  | .sweep src params => Sys2Proof.Machine.execSweep src params s
  | .sweepStop src params => Sys2Proof.Machine.execSweepStop src params s
  | .auditClear src params => Sys2Proof.Machine.execAuditClear src params s
  | .transit src dest kind payload => Sys2Proof.Machine.execTransit src dest kind payload s
  | .endOfFrame seg => Sys2Proof.Machine.execEndOfFrame seg s
  | .reply src kind payload => Sys2Proof.Machine.execReply src kind payload s
  | .responseTimeout => Sys2Proof.Machine.execResponseTimeout s
  | .lineBreak seg => Sys2Proof.Machine.execLineBreak seg s
  | .breakEnd seg => Sys2Proof.Machine.execBreakEnd seg s
  | .answerStart => Sys2Proof.Machine.execAnswerStart s
  | .answerSent => Sys2Proof.Machine.execAnswerSent s
  | .exchangeStart => Sys2Proof.Machine.execExchangeStart s
  | .downstreamFrameSent => Sys2Proof.Machine.execDownstreamFrameSent s
  | .pollDue entry => Sys2Proof.Machine.execPollDue entry s
  | .serviceRequestChange active => Sys2Proof.Machine.execServiceRequestChange active s
  | .doorChange isOpen => Sys2Proof.Machine.execDoorChange isOpen s
  | .supplyLow volts => Sys2Proof.Machine.execSupplyLow volts s
  | .supplyGood volts => Sys2Proof.Machine.execSupplyGood volts s
  | .classReport cls => Sys2Proof.Machine.execClassReport cls s
  | .clearReport => Sys2Proof.Machine.execClearReport s
  | .gateTimeout => Sys2Proof.Machine.execGateTimeout s
  | .leverPress => Sys2Proof.Machine.execLeverPress s
  | .escrowExpiry => Sys2Proof.Machine.execEscrowExpiry s
  | .approvalDeadlineExpiry => Sys2Proof.Machine.execApprovalDeadlineExpiry s
  | .camChange tray col closed => Sys2Proof.Machine.execCamChange tray col closed s
  | .stuckAtHome col => Sys2Proof.Machine.execStuckAtHome col s
  | .noHome col => Sys2Proof.Machine.execNoHome col s
  | .openTest col peak => Sys2Proof.Machine.execOpenTest col peak s
  | .motorShort col sample => Sys2Proof.Machine.execMotorShort col sample s
  | .motorJam col least => Sys2Proof.Machine.execMotorJam col least s
  | .dropEvent => Sys2Proof.Machine.execDropEvent s
  | .dropWindowClose => Sys2Proof.Machine.execDropWindowClose s
  | .coilCheckEnd peak => Sys2Proof.Machine.execCoilCheckEnd peak s
  | .coilCheckShort sample => Sys2Proof.Machine.execCoilCheckShort sample s
  | .payoutPulseEnd => Sys2Proof.Machine.execPayoutPulseEnd s
  | .payoutCoinSeen => Sys2Proof.Machine.execPayoutCoinSeen s
  | .sensorWindowExpiry => Sys2Proof.Machine.execSensorWindowExpiry s
  | .driveJam least => Sys2Proof.Machine.execDriveJam least s
  | .lowSensorChange tube covered => Sys2Proof.Machine.execLowSensorChange tube covered s
  | .fullSensorChange tube covered => Sys2Proof.Machine.execFullSensorChange tube covered s
  | .coolingSample airA airB coil condenser => Sys2Proof.Machine.execCoolingSample airA airB coil condenser s
  | .startEnd => Sys2Proof.Machine.execStartEnd s
  | .guardExpiry => Sys2Proof.Machine.execGuardExpiry s
  | .minimumRunEnd => Sys2Proof.Machine.execMinimumRunEnd s
  | .forcedDefrost => Sys2Proof.Machine.execForcedDefrost s
  | .defrostMaximum => Sys2Proof.Machine.execDefrostMaximum s
  | .dripEnd => Sys2Proof.Machine.execDripEnd s
  | .blindOnEnd => Sys2Proof.Machine.execBlindOnEnd s
  | .blindOffEnd => Sys2Proof.Machine.execBlindOffEnd s
  | .graceWindowEnd => Sys2Proof.Machine.execGraceWindowEnd s
  | .starvationGuard => Sys2Proof.Machine.execStarvationGuard s
  | .characterTaken seg data parityMark stopMark => Sys2Proof.Machine.execCharacterTaken seg data parityMark stopMark s
  | .supplySample volts => Sys2Proof.Machine.execSupplySample volts s
  | .leverRelease => Sys2Proof.Machine.execLeverRelease s
  | .dropCurtainClear => Sys2Proof.Machine.execDropCurtainClear s
  | .payoutSensorInactive => Sys2Proof.Machine.execPayoutSensorInactive s

end Sys2Proof.Machine
end

