-- ==== Sys2Proof/Safety.lean ====
section
/-! DEFINITION. What the claims speak of: the blocks that a step may change, the answer a management frame leaves, and the
states that count as safe. -/

namespace Sys2Proof.Machine

/-! ## Frames -/

/-- The parts of State: the blocks of scope section 2 and the model's own three fields. -/
inductive Block where
  | now | pending | freeIx | sel | vnd | spd | csh | chg | crd | clg | lds | cmn | ulk | dlk | mgt | rpq
  deriving DecidableEq, Repr

/-- `t` holds what `s` holds in every part but those listed. -/
structure ChangesOnly (bs : List Block) (s t : State) : Prop where
  now : t.now = s.now ∨ Block.now ∈ bs
  pending : t.pending = s.pending ∨ Block.pending ∈ bs
  freeIx : t.freeIx = s.freeIx ∨ Block.freeIx ∈ bs
  sel : t.sel = s.sel ∨ Block.sel ∈ bs
  vnd : t.vnd = s.vnd ∨ Block.vnd ∈ bs
  spd : t.spd = s.spd ∨ Block.spd ∈ bs
  csh : t.csh = s.csh ∨ Block.csh ∈ bs
  chg : t.chg = s.chg ∨ Block.chg ∈ bs
  crd : t.crd = s.crd ∨ Block.crd ∈ bs
  clg : t.clg = s.clg ∨ Block.clg ∈ bs
  lds : t.lds = s.lds ∨ Block.lds ∈ bs
  cmn : t.cmn = s.cmn ∨ Block.cmn ∈ bs
  ulk : t.ulk = s.ulk ∨ Block.ulk ∈ bs
  dlk : t.dlk = s.dlk ∨ Block.dlk ∈ bs
  mgt : t.mgt = s.mgt ∨ Block.mgt ∈ bs
  rpq : t.rpq = s.rpq ∨ Block.rpq ∈ bs

/-- The parts that an evaluation of the claim list may change: its grants start loads (R140). -/
def Block.grants : List Block := [.freeIx, .vnd, .spd, .csh, .chg, .clg, .lds, .dlk, .rpq]

/-- The parts that a change of the Cash Unit's inputs may change: its flags, a report and an ENABLE (R58, R68, R69, R71). -/
def Block.cash : List Block := [.csh, .dlk, .rpq]

/-- The parts that a change of vendability may change as well: SEL's own and economy (R3 to R5, R135). -/
def Block.sales : List Block := [.sel, .clg, .csh, .dlk, .rpq]

/-- The parts that the settlement of a vend may change (R18 to R21). -/
def Block.settlement : List Block := [.freeIx, .sel, .vnd, .spd, .csh, .chg, .crd, .clg, .lds, .dlk, .rpq]

/-- The Cash Unit's own flags apart (R58, R68, R71), CSH holds the same in both states. -/
def SameAccount (s t : State) : Prop :=
  t.csh = { s.csh with
    coinSafe := t.csh.coinSafe
    billSafe := t.csh.billSafe
    effMask := t.csh.effMask
    exactChange := t.csh.exactChange }

/-- The own-frame queue apart, DLK holds the same in both states. -/
def SameLink (s t : State) : Prop := t.dlk = { s.dlk with own := t.dlk.own }

/-- Economy's effective flag apart, CLG holds the same in both states. -/
def SameCooling (s t : State) : Prop := t.clg = { s.clg with ecoEffective := t.clg.ecoEffective }

/-! ## Answers -/

/-- A frame can be delivered: no answer is under way, and the frame began while none was (R156). -/
def Deliverable (s : State) : Prop := s.ulk.answerState = .free ∧ s.ulk.rx.overrun = false

/-- The Upstream Link after a delivery: the receiver READY whatever it held (log entry 9), and the ANSWER to a frame from `src` of
kind `kind` in the answer buffer (R156, R179). The ANSWER's SRC is the own node address of the state `s` before it. -/
def Answered (src kind : Byte) (a : Answer) (s t : State) : Prop :=
  t.ulk = { s.ulk with
    rx := .readyAt s.now
    answerState := .turnaround
    answer := some (answerFrame s src kind a)
    deliveredAt := s.now }

/-- A refusal with a status: the answer, and nothing else (R178, R179). That it carries the status and the KIND alone is the model's
reading for statuses other than BAD_FRAME (log entry 26). -/
def RefusedWith (src kind : Byte) (st : Status) (s t : State) : Prop :=
  Answered src kind (refuse st) s t ∧ ChangesOnly [.ulk] s t

/-- The OK answer to a table write, with the entry as it then stands (R182). -/
def StoredAnswer (src : Byte) (id ix : Nat) (s t : State) : Prop :=
  Answered src 0x12 (okAnswer (ch id :: ch ix :: entryFields t id ix)) s t

/-- `t` is `u` with the answer to a frame delivered in `s`. -/
def AnsweredAfter (src kind : Byte) (a : Answer) (s u t : State) : Prop :=
  Answered src kind a s t ∧ t = { u with ulk := t.ulk }

/-! ## The payloads of table writes (R178, R190, R192) -/

/-- The characters of a field's value. -/
def FieldForm.chars : FieldForm → Int → List Byte
  | .byte, v | .code _, v => [ch v.toNat]
  | .word, v | .sword, v => i2 v

/-- The values a field's form can carry; of an enumerated field, those of its list. -/
def FieldForm.holds : FieldForm → Int → Prop
  | .byte, v => 0 ≤ v ∧ v < 256
  | .code allowed, v => 0 ≤ v ∧ v < 256 ∧ v.toNat ∈ allowed
  | .word, v => 0 ≤ v ∧ v < 65536
  | .sword, v => -32768 ≤ v ∧ v < 32768

/-- The values that a field's characters can carry, whatever its list. -/
def FieldForm.carries : FieldForm → Int → Prop
  | .byte, v | .code _, v => 0 ≤ v ∧ v < 256
  | .word, v => 0 ≤ v ∧ v < 65536
  | .sword, v => -32768 ≤ v ∧ v < 32768

/-- R178, R192: the number of value characters that a field mask calls for. -/
def namedLength : List FieldForm → Nat → Nat
  | [], _ => 0
  | f :: fs, mask => (if mask % 2 = 1 then (f.chars 0).length else 0) + namedLength fs (mask / 2)

/-- R192: bit n of the field mask is set when field n is given. -/
def fieldMask (gs : List (Option Int)) : Nat := gs.foldr (fun g m => (if g.isSome then 1 else 0) + 2 * m) 0

/-- The values of the fields given, in the table's order. -/
def fieldChars (fs : List FieldForm) (gs : List (Option Int)) : List Byte :=
  (fs.zip gs).flatMap fun p => (p.2.map p.1.chars).getD []

/-- The payload of a table write after the table id: the index, the field mask and the values. -/
def writePayload (id : Nat) (ix : Byte) (gs : List (Option Int)) : List Byte :=
  ix :: w2 (fieldMask gs) ++ fieldChars (tableForms id) gs

/-! ## Supply units (R136, R140, R141) -/

/-- A claim asks for the units of its kind (R136). -/
def Claim.ofKind (c : Claim) : Prop :=
  match c.kind with
  | .vend => c.units = 1 ∨ c.units = 2
  | .payout => c.units = 1
  | .coilCheck => c.units = 1
  | .compressor => c.units = 4

/-- R136: at most four units are granted, and every claim asks for the units of its kind. -/
def UnitsSafe (s : State) : Prop := unitsGranted s ≤ 4 ∧ ∀ c ∈ s.lds.claims, c.ofKind

/-- R140: no payout drive is on without a payout and its unit. A coin in progress keeps the unit, unless the entry to SAFE cut
its pulse short (R96). -/
def PayoutDriveCovered (s : State) : Prop :=
  (s.chg.drive.isSome → s.chg.payout.isSome ∧ s.lds.payoutUnits = 1) ∧
    ∀ p, s.chg.payout = some p →
      (p.pulse.isSome → s.lds.payoutUnits = 1) ∧ (p.window.isSome → p.cut = true ∨ s.lds.payoutUnits = 1)

/-- R122, R140: the contactor is on only while the compressor holds a unit; in DISABLED it is off (R127). -/
def CompressorCovered (s : State) : Prop :=
  (s.clg.contactor = true → 1 ≤ s.lds.compUnits) ∧ (s.clg.comp = .disabled → s.clg.contactor = false)

/-- R127: in DISABLED the compressor has no claim filed. -/
def DisabledUnclaimed (s : State) : Prop := s.clg.comp = .disabled → ∀ c ∈ s.lds.claims, c.kind ≠ .compressor

/-- R45, R140: an energized coil check holds its unit. -/
def CheckCovered (s : State) : Prop :=
  ∀ w since, s.spd.sweep = some w → w.check = .energized since → s.lds.coilUnits = 1

/-- R29: a row driver is on exactly while a column driver is, and at most two column drivers are. -/
def MatrixSafe (s : State) : Prop := (s.spd.rowOn.isSome ↔ s.spd.colsOn ≠ []) ∧ s.spd.colsOn.length ≤ 2

/-- R141, R144: SAFE is the mode exactly while the supply is LOW. -/
def SafeIffLow (s : State) : Prop := s.mgt.mode = .safe ↔ s.cmn.supplyLow = true

/-- R141: nothing is driven. -/
def NothingDriven (s : State) : Prop :=
  s.spd.rowOn = none ∧ s.spd.colsOn = [] ∧ s.chg.drive = none ∧ s.clg.contactor = false

/-- What holds in SAFE (R141, R144, section 7.5): no unit is granted and no claim waits, nothing is driven, no turn and
no energized or claimed check exists, the compressor is DISABLED, in GUARD or in IDLE, and the only payout left is one that was
cut with its sensor window open (R96). -/
def SafeIsQuiet (s : State) : Prop :=
  s.mgt.mode = .safe →
    unitsGranted s = 0 ∧ s.lds.claims = [] ∧ NothingDriven s ∧ s.spd.turn = none ∧
      (∀ w, s.spd.sweep = some w → w.paused = true ∧ w.check = .none) ∧
      (s.clg.comp = .disabled ∨ s.clg.comp = .guard ∨ s.clg.comp = .idle) ∧
      ∀ p, s.chg.payout = some p → p.cut = true ∧ p.window.isSome ∧ p.pulse = none

/-- R29, R91: what is driven has its owner. A matrix driver is on only for a turn that is not complete or for an energized coil
check, and a payout drive only for a payout. -/
def DrivesOwned (s : State) : Prop :=
  (s.spd.rowOn.isSome ∨ s.spd.colsOn ≠ [] →
    (∃ t, s.spd.turn = some t ∧ t.completed = none) ∨
      ∃ w since, s.spd.sweep = some w ∧ w.check = .energized since) ∧
    (s.chg.drive.isSome → s.chg.payout.isSome)

/-- R45: a coil check's claim waits only for a sweep whose check is claimed. -/
def CoilClaimOwned (s : State) : Prop :=
  (∃ c ∈ s.lds.claims, c.kind = .coilCheck) → ∃ w, s.spd.sweep = some w ∧ w.check = .claimed

/-! ## Payouts (R90, R94, R95) -/

/-- R95: `t` is left by the end of the payout that stood as `p`: its unit is free, its PAYOUT_RESULT queued in its slot, and the
unpaid remainder of a CHANGE or REFUND back in the credit of `s`. -/
def PayoutEnded (p : Payout) (s t : State) : Prop :=
  t.chg.payout = none ∧ t.chg.drive = none ∧ t.lds.payoutUnits = 0 ∧
  (1 ≤ s.rpq.reserved →
    .event (.payoutResult p.source p.requested p.paid (decide (p.paid < p.requested)) p.coins) ∈ t.rpq.queue) ∧
  (p.source.isService = true → t.csh.credit = s.csh.credit) ∧
  (p.source.isService = false → s.csh.credit + (p.requested - p.paid) ≤ 65535 →
    t.csh.credit = s.csh.credit + (p.requested - p.paid))

/-- R91: in `t` the payout that stood as `p` drives a tube for its next coin. -/
def CoinDriven (p : Payout) (tube : Nat) (t : State) : Prop :=
  t.chg.drive = some tube ∧
    t.chg.payout = some { p with tube := tube, pulse := some t.now, window := some t.now, jammed := false }

/-- The first tube in planner order with coins planned, the tubes as they stand in `t` (R90). -/
def firstPlanned (p : Payout) (plan : Vector Nat 6) (t : State) : Option PlanTube :=
  (planTubes p.source.isService t.chg.tubes).find? fun u => decide (0 < tget plan 0 u.tube)

/-- R94: the payout that stood as `p` has been replanned from the tubes as they stand in `t`, or has ended. -/
def Replanned (p : Payout) (s t : State) : Prop :=
  let plan := makePlan p.source.isService t.chg.tubes (p.requested - p.paid) (100 - (p.coins.map (·.2)).sum)
  (p.replans < 2 →
    (∀ u, firstPlanned p plan t = some u → CoinDriven { p with replans := p.replans + 1, plan := some plan } u.tube t) ∧
    (firstPlanned p plan t = none → PayoutEnded p s t)) ∧
  (2 ≤ p.replans → PayoutEnded p s t)

/-- R90: what has followed a coin of the payout that stood as `p`: the next planned coin, a replan where form AMOUNT finds the tube
with nothing available, or the end. -/
def CoinFollowed (p : Payout) (s t : State) : Prop :=
  ∀ plan, p.plan = some plan →
    (∀ u, firstPlanned p plan t = some u → p.form ≠ .amount ∨ 0 < u.avail → CoinDriven p u.tube t) ∧
    (∀ u, firstPlanned p plan t = some u → p.form = .amount → u.avail = 0 → Replanned p s t) ∧
    (firstPlanned p plan t = none → PayoutEnded p s t)

/-! ## Vendability (R3, R4, R135) -/

/-- R3: what makes a selection vendable. -/
def OnSale (s : State) (e : Selection) : Prop :=
  e.state = .active ∧ e.stock ≠ some 0 ∧ (trayOf s e.tray).present = true ∧
    (∃ c q, positionOf s e = some (c, q) ∧
      ∀ k, k = c ∨ some k = q → healthAt s e.tray k = .unknown ∨ healthAt s e.tray k = .ok) ∧
    ¬(e.chilled = true ∧ e.perishable = true ∧ s.clg.hold = true)

/-- What SEL derives from its entries, and CLG's economy with it, is what R3, R4 and R135 give for the entries as they stand. -/
def SalesCurrent (s : State) : Prop :=
  (∀ i < 80, tget s.sel.vendable false i = true ↔ OnSale s (selOf s i)) ∧
  (∀ m, s.sel.pMin = some m →
    (∃ i < 80, tget s.sel.vendable false i = true ∧ (selOf s i).price = m) ∧
      ∀ i < 80, tget s.sel.vendable false i = true → m ≤ (selOf s i).price) ∧
  (s.sel.pMin = none ↔ ∀ i < 80, tget s.sel.vendable false i = false) ∧
  (s.sel.chilledOnSale = true ↔
    ∃ i < 80, tget s.sel.vendable false i = true ∧ (selOf s i).chilled = true ∧ (selOf s i).perishable = true) ∧
  (s.clg.ecoEffective = true ↔ s.clg.ecoRequested = true ∧ s.clg.hold = false ∧ s.sel.chilledOnSale = false)

/-! ## Change-safety (R58, R68, R71) -/

/-- The Cash Unit's flags hold what the rules give from the inputs as they stand. -/
def FlagsCurrent (s : State) : Prop :=
  (∀ i < 16, tget s.csh.coinSafe false i = coinSafeNow s i) ∧
  (∀ i < 8, tget s.csh.billSafe false i = billSafeNow s i ∧ tget s.csh.effMask false i = effectiveFlag s i) ∧
  s.csh.exactChange = exactChangeNow s

/-! ## Reports (R193, R195, R196) -/

/-- R195: a state report of a key is queued, or its dirty flag is set. -/
def Reported (k : StateKey) (s : State) : Prop := .state k ∈ s.rpq.queue ∨ k ∈ s.rpq.dirty

/-- R193: the entries and the reserved slots never exceed 32. R195: no key is queued twice, and none is both queued and
dirty. R196: while a key is dirty no unreserved slot is free; the dirty keys stand in key order. -/
structure ReportsSafe (s : State) : Prop where
  bound : s.rpq.queue.length + s.rpq.reserved ≤ 32
  drained : s.rpq.dirty ≠ [] → s.rpq.queue.length + s.rpq.reserved = 32
  once : ∀ k, s.rpq.queue.countP (· == .state k) ≤ 1
  apart : ∀ k ∈ s.rpq.dirty, Report.state k ∉ s.rpq.queue
  ordered : s.rpq.dirty.Pairwise fun a b => a.lt b = true

end Sys2Proof.Machine
end

