-- ==== Sys2Proof/Certificates/Slice0/Obligations.lean ====
section
/-! DEFINITION. The statements for the provers. Each names the rules it rests on; a clause that is the model's own choice names
its log entry. -/

open Sys2Proof Sys2Proof.Machine

/-! ## The step and the power-on reset -/

/-- One sender: the command at the front of the queue runs with the queue's rest. The queue is the model's own (log entry 8). -/
def Obligations.StepRunsTheFrontCommand : Prop :=
  ∀ (c : Instr) (rest : List Instr) (s : State),
    s.pending = c :: rest → step s = exec c { s with pending := rest }

/-- R2, R24, R27, R42, R50, R51, R53, R72, R75, R112, R113, R161: the tables and totals after a power-on reset, the calibration
table and the sensor records among them, and the sensor levels of the tubes, from every state and for every set of levels. The
queue of commands is kept: the model's choice (log entry 8). -/
def Obligations.PowerOnResetSetsEveryTable : Prop :=
  ∀ (l : PowerOnLevels) (s : State), ∃ t, exec (.powerOnReset l) s = .next t ∧
    (∀ i < 80,
      selOf t i =
        { state := .unused, tray := 0, column := 0, twin := false, chilled := false, perishable := false, price := 1,
          stock := none, secondTurn := false, noDropRun := 0, sales := 0 } ∧
      tget t.sel.vendable true i = false ∧ tget t.spd.health .ok i = .unknown ∧ tget t.spd.lateCounts 1 i = 0) ∧
    t.sel.pMin = none ∧
    (∀ i < 8,
      trayOf t i = { present := false, columns := 10, mirror := false } ∧
      billOf t i = { value := 1, enabled := false } ∧ tget t.csh.hostMask true i = false ∧
      routeOf t i =
        { inUse := false, base := 0x20, span := 1, role := .passive, pollInterval := 100, timeout := 50,
          presence := .absent, missed := 0, lastEnable := none, discarded := 0 }) ∧
    (∀ i < 16, coinOf t i = { value := 1, route := none, enabled := false }) ∧
    (∀ i < 6, tubeOf t i =
      { denom := 0, capacity := 100, count := 0, reserve := 0, lowLevel := 1, lowCovered := l.lowCovered.getLsbD i,
        fullCovered := l.fullCovered.getLsbD i, state := .ok }) ∧
    (∀ i < 64, (tget t.csh.anomalies ⟨1, 0, 0⟩ i).count = 0) ∧
    t.clg.points.toList =
      [(64, -400), (160, -250), (272, -100), (384, 0), (480, 100), (576, 200), (704, 350), (832, 550), (960, 800)] ∧
    (∀ i < 4, sensorOf t i = { value := none, fault := false, outRun := 0, inRun := 0 }) ∧
    t.csh.credit = 0 ∧ t.csh.creditLimit = 2000 ∧ t.csh.strict = false ∧ t.csh.multiVend = false ∧
    t.csh.exactChange = false ∧
    t.csh.audit =
      { coinsIn := 0, billsIn := 0, cashVended := 0, cashPaidOut := 0, cardVended := 0, freeVends := 0, serviceFill := 0,
        servicePaidOut := 0 } ∧
    t.pending = s.pending

/-- R9, R29, R31, R42, R49, R59, R65, R86, R97, R118, R120, R136, R152, R153, R169, R171, R177: after a power-on reset no work is
in flight, everything is switched off and every setting has its default.
R146, R147, R149, R173: the machine mode, the supply state, the door, the service request and the first reports of a power-on
reset follow the levels it reads. That SUPPLY stands before DOOR is the model's choice (log entry 29). -/
def Obligations.PowerOnResetEndsAllWork : Prop :=
  (∀ (l : PowerOnLevels) (s : State), ∃ t, exec (.powerOnReset l) s = .next t ∧
     t.now = 0 ∧ t.vnd.ctx = none ∧ t.spd.turn = none ∧ t.spd.sweep = none ∧ t.spd.lateDrop = none ∧ t.chg.payout = none ∧
     t.csh.escrow = none ∧ t.lds.claims = [] ∧ unitsGranted t = 0 ∧ NothingDriven t ∧
     t.csh.gateOpen = false ∧ t.csh.diverterTube = false ∧ t.csh.leverPressed = l.leverPressed ∧
     t.spd.dropActive = l.dropActive ∧ t.chg.sensorActive = l.psnsActive ∧ t.spd.jamThreshold = 1200 ∧
     t.crd = { state := .none, funds := none, deadline := none, lastRequest := none, owed := none, closePending := false } ∧
     t.clg.settings =
       { setpoint := 30, differential := 20, economyOffset := 30, safeLimit := 70, holdDelay := 30, defrostInterval := 6,
         defrostTermination := 50, defrostMaximum := 30, dripTime := 120, condenserTrip := 600, enabled := true } ∧
     t.clg.comp = .guard ∧ t.clg.lastStop = t.now ∧ t.clg.runTicks = 0 ∧ t.clg.demand = false ∧ t.clg.hot = false ∧
     t.clg.tripCount = 0 ∧ t.clg.hold = false ∧ t.clg.warmTime = 0 ∧ t.clg.filtered = none ∧ t.clg.evapFan = false ∧
     t.clg.condFan = false ∧ t.clg.ecoRequested = false ∧ t.clg.ecoEffective = false ∧
     t.ulk.answerState = .free ∧ t.ulk.rx.line = .waitIdle ∧ t.ulk.rx.buffer = [] ∧ t.dlk.rx.line = .waitIdle ∧
     ownNode t = 0x08 + l.straps.setWidth 8 ∧
     t.dlk.own = [] ∧ t.dlk.transits = [] ∧ t.dlk.exchange = none ∧ t.dlk.sending = none ∧ t.dlk.dde = false ∧
     t.dlk.pointer = 0 ∧ t.dlk.nextTag = 0 ∧ t.dlk.fastRate = false ∧ t.dlk.guardGap = 1 ∧ t.rpq.reserved = 0 ∧
     t.rpq.dirty = []) ∧
  (∀ (l : PowerOnLevels) (s : State), ∃ t, exec (.powerOnReset l) s = .next t ∧
     t.mgt.mode = (if l.volts < 190 then .safe else .setup) ∧ t.mgt.returnMode = .setup ∧
     t.cmn.supplyLow = decide (l.volts < 190) ∧ t.cmn.lowRun = (if l.volts < 190 then 1 else 0) ∧
     t.cmn.goodRun = (if 215 ≤ l.volts then 1 else 0) ∧ t.cmn.brownouts = 0 ∧ t.cmn.volts = l.volts ∧
     t.cmn.nextSupply = t.now + ms 10 ∧
     t.cmn.doorOpen = l.doorOpen ∧ t.cmn.openings = (if l.doorOpen then 1 else 0) ∧
     t.clg.grace = (if l.doorOpen then some ⟨t.now, t.now + minutes 45⟩ else none) ∧
     t.cmn.srqActive = l.srqActive ∧ t.dlk.seg = (if l.srqActive then .released else .owned) ∧ t.dlk.sgr = l.srqActive ∧
     t.dlk.requestWaiting = false ∧
     t.rpq.queue = (if l.volts < 190 then [.state .supply] else []) ++ (if l.doorOpen then [.state .door] else []))

/-! ## Management frames -/

/-- R178, R183, R192: each row of a frame addressed to the SV640 is the delivery of that frame: its KIND, and the payload with the
table id or the command code the row stands for. -/
def Obligations.EachRowIsItsFrameDelivered : Prop :=
  ∀ (src : Byte) (p : List Byte) (s : State),
    let row (k : Byte) (payload : List Byte) : Result := .next (deliver src k (managementAnswer k payload) s)
    exec (.ping src p) s = row 0x10 p ∧ exec (.tableRead src p) s = row 0x11 p ∧ exec (.tableWrite src p) s = row 0x12 p ∧
    exec (.selectionWrite src p) s = row 0x12 (1 :: p) ∧ exec (.trayWrite src p) s = row 0x12 (2 :: p) ∧
    exec (.coinTableWrite src p) s = row 0x12 (3 :: p) ∧ exec (.billTableWrite src p) s = row 0x12 (4 :: p) ∧
    exec (.tubeTableWrite src p) s = row 0x12 (5 :: p) ∧ exec (.routeTableWrite src p) s = row 0x12 (6 :: p) ∧
    exec (.vendSettingsWrite src p) s = row 0x12 (7 :: p) ∧ exec (.coolingSettingsWrite src p) s = row 0x12 (8 :: p) ∧
    exec (.calibrationWrite src p) s = row 0x12 (9 :: p) ∧
    exec (.driveAndLinkSettingsWrite src p) s = row 0x12 (10 :: p) ∧
    exec (.goOnline src p) s = row 0x13 (0x01 :: p) ∧ exec (.goOffline src p) s = row 0x13 (0x02 :: p) ∧
    exec (.vend src p) s = row 0x13 (0x03 :: p) ∧ exec (.vendCancel src p) s = row 0x13 (0x04 :: p) ∧
    exec (.refund src p) s = row 0x13 (0x05 :: p) ∧ exec (.payout src p) s = row 0x13 (0x06 :: p) ∧
    exec (.tubeCount src p) s = row 0x13 (0x07 :: p) ∧ exec (.hostBillMask src p) s = row 0x13 (0x08 :: p) ∧
    exec (.economyOn src p) s = row 0x13 (0x09 :: p) ∧ exec (.economyOff src p) s = row 0x13 (0x0A :: p) ∧
    exec (.holdRelease src p) s = row 0x13 (0x0B :: p) ∧ exec (.sweep src p) s = row 0x13 (0x0C :: p) ∧
    exec (.sweepStop src p) s = row 0x13 (0x0D :: p) ∧ exec (.auditClear src p) s = row 0x13 (0x0E :: p) ∧
    exec (.reportPoll src p) s = row 0x14 p ∧ exec (.reset src p) s = row 0x15 p

/-- R179: a refused management frame and a refused transit change no state of any block. -/
def Obligations.RefusedFramesChangeNothing : Prop :=
  ∀ (kind : Byte) (payload : List Byte) (dest : Nat) (s : State),
    ((managementAnswer kind payload s).1.status ≠ .ok → (managementAnswer kind payload s).2 = s) ∧
    ((transitCommand dest kind payload s).1.status ≠ .ok → (transitCommand dest kind payload s).2 = s)

/-- R180: the PING answer, in every state that can take the frame; nothing but the answer changes.
R181: TABLE READ is answered in every mode with the entry as it stands, NO_TABLE or BAD_INDEX, and changes nothing.
R178, R182: a TABLE WRITE that names no writable table: WRONG_MODE for the read-only tables 11 to 13, NO_TABLE for an id that no
table has, whatever follows the id; nothing but the answer changes.
R178, R182, R190: a management frame of another KIND, length, command code or field mask is refused BAD_FRAME, an index other than
0 of tables 7, 8 and 10 BAD_INDEX, and a value outside its list in a table write or in the form of PAYOUT BAD_VALUE.
R190, R192: the fields of an entry of each table in their order, a code being a name's place in its list. Absent funds and an absent
last sent enable are sent as log entries 34 and 35 say, and the four characters of an audit total low first as log entry 47 says. -/
def Obligations.PingAndReadsAnswerWhatStands : Prop :=
  (∀ (src : Byte) (s : State), Deliverable s → ∃ t, exec (.ping src []) s = .next t ∧
     Answered src 0x10 (okAnswer [0x40, 0x06, 0x01, ch s.mgt.mode.code, s.ulk.straps.setWidth 8]) s t ∧ ChangesOnly [.ulk] s t) ∧
  (∀ (src id ix : Byte) (s : State), Deliverable s → ∃ t, exec (.tableRead src [id, ix]) s = .next t ∧ ChangesOnly [.ulk] s t ∧
     Answered src 0x11
       (if id = 0 ∨ 13 < id.toNat then refuse .noTable
        else if [80, 8, 16, 8, 6, 8, 1, 1, 9, 1, 80, 1, 1].getD (id.toNat - 1) 0 ≤ ix.toNat then refuse .badIndex
        else okAnswer (id :: ix :: entryFields s id.toNat ix.toNat)) s t) ∧
  (∀ (src id : Byte) (rest : List Byte) (s : State), Deliverable s → id = 0 ∨ 10 < id.toNat →
     ∃ t, exec (.tableWrite src (id :: rest)) s = .next t ∧ ChangesOnly [.ulk] s t ∧
       Answered src 0x12 (refuse (if id = 11 ∨ id = 12 ∨ id = 13 then .wrongMode else .noTable)) s t) ∧
  (∀ (src kind : Byte) (payload : List Byte) (s : State), Deliverable s →
     let refused (st : Status) : Prop := RefusedWith src kind st s (deliver src kind (managementAnswer kind payload) s)
     (kind ∉ [0x10, 0x11, 0x12, 0x13, 0x14, 0x15] → refused .badFrame) ∧
     (kind ∈ [0x10, 0x14, 0x15] → payload ≠ [] → refused .badFrame) ∧
     (kind = 0x11 → payload.length ≠ 2 → refused .badFrame) ∧
     (kind = 0x12 ∨ kind = 0x13 → payload = [] → refused .badFrame) ∧
     (∀ code params, kind = 0x13 → payload = code :: params →
       code = 0 ∨ 14 < code.toNat ∨
         (code ≠ 6 ∧ params.length ≠ [0, 0, 0, 2, 0, 0, 0, 2, 1, 0, 0, 0, 7, 0, 0].getD code.toNat 0) ∨
         (code = 6 ∧ (params = [] ∨ (params.head? = some 0 ∨ params.head? = some 1) ∧ params.length ≠ 3)) →
       refused .badFrame) ∧
     (∀ form rest, kind = 0x13 → payload = 6 :: form :: rest → 1 < form.toNat → refused .badValue) ∧
     (∀ id rest, kind = 0x12 → payload = id :: rest → 1 ≤ id.toNat → id.toNat ≤ 10 →
       let forms := tableForms id.toNat
       (rest.length < 3 → refused .badFrame) ∧
       (∀ ix lo hi vals, rest = ix :: lo :: hi :: vals →
         let mask := lo.toNat + 256 * hi.toNat
         (mask = 0 ∨ 2 ^ forms.length ≤ mask ∨ vals.length ≠ namedLength forms mask → refused .badFrame) ∧
         (mask ≠ 0 → mask < 2 ^ forms.length → vals.length = namedLength forms mask → ix ≠ 0 → id ∈ [7, 8, 10] →
           refused .badIndex)) ∧
       (∀ ix gs, rest = writePayload id.toNat ix gs → gs.length = forms.length → ix = 0 ∨ id ∉ [7, 8, 10] →
         (∀ p ∈ forms.zip gs, ∀ v, p.2 = some v → p.1.carries v) →
         (∃ p ∈ forms.zip gs, ∃ allowed v, p = (.code allowed, some v) ∧ v.toNat ∉ allowed) → refused .badValue))) ∧
  (∀ (s : State) (i : Nat),
     let b (n : Nat) : List Byte := [BitVec.ofNat 8 n]
     let w (n : Nat) : List Byte := [BitVec.ofNat 8 n, BitVec.ofNat 8 (n / 256)]
     let g (v : Int) : List Byte := w (v % 65536).toNat
     let f (c : Bool) : List Byte := [if c then 1 else 0]
     let q (n : Nat) : List Byte := w n ++ w (n / 65536)
     let funds : List Byte := f s.crd.funds.isSome ++ w (s.crd.funds.getD 0xFFFF)
     let session := [SessionState.none, .opened, .approvalWait, .vending].idxOf s.crd.state
     let comp := [CompState.disabled, .guard, .idle, .waitSupply, .start, .run, .defrost, .drip, .blindOn, .blindOff].idxOf s.clg.comp
     let o := s.clg.settings
     let a := s.csh.audit
     let tube := tubeOf s i
     let route := routeOf s i
     (let e := selOf s i
      entryFields s 1 i = b ([SelState.unused, .active, .disabled, .jammed, .emptySuspect].idxOf e.state) ++ b e.tray ++ b e.column ++
        f e.twin ++ f e.chilled ++ f e.perishable ++ w e.price ++ w (e.stock.getD 0xFFFF) ++ f e.secondTurn ++ b e.noDropRun ++
        w e.sales) ∧
     entryFields s 2 i = f (trayOf s i).present ++ b (trayOf s i).columns ++ f (trayOf s i).mirror ∧
     entryFields s 3 i = w (coinOf s i).value ++ b ((coinOf s i).route.getD 0xFF) ++ f (coinOf s i).enabled ∧
     entryFields s 4 i = w (billOf s i).value ++ f (billOf s i).enabled ∧
     entryFields s 5 i = w tube.denom ++ b tube.capacity ++ b tube.count ++ b tube.reserve ++ b tube.lowLevel ++ f tube.lowCovered ++
       f tube.fullCovered ++ b ([TubeState.ok, .empty, .jammed].idxOf tube.state) ∧
     entryFields s 6 i = f route.inUse ++ b route.base ++ b route.span ++ b ([Role.bill, .card, .passive].idxOf route.role) ++
       w route.pollInterval ++ b route.timeout ++ b ([Presence.absent, .present, .lost].idxOf route.presence) ++ b route.missed ++
       f route.lastEnable.isSome ++ [(route.lastEnable.map maskByte).getD 0xFF] ++ b route.discarded ∧
     entryFields s 7 i = w s.csh.creditLimit ++ f s.csh.strict ++ f s.csh.multiVend ∧
     entryFields s 8 i = g o.setpoint ++ b o.differential.toNat ++ b o.economyOffset.toNat ++ g o.safeLimit ++ b o.holdDelay ++
       b o.defrostInterval ++ g o.defrostTermination ++ b o.defrostMaximum ++ w o.dripTime ++ g o.condenserTrip ++ f o.enabled ∧
     entryFields s 9 i = w (pointOf s i).1 ++ g (pointOf s i).2 ∧
     entryFields s 10 i = w s.spd.jamThreshold ++ w (if s.dlk.fastRate then 19200 else 9600) ++ b s.dlk.guardGap ∧
     entryFields s 11 i = b ([Health.unknown, .ok, .opened, .shorted].idxOf (tget s.spd.health .unknown i)) ∧
     entryFields s 12 i = q a.coinsIn ++ q a.billsIn ++ q a.cashVended ++ q a.cashPaidOut ++ q a.cardVended ++ q a.freeVends ++
       q a.serviceFill ++ q a.servicePaidOut ∧
     entryFields s 13 i = b ([Mode.setup, .online, .service, .safe].idxOf s.mgt.mode) ++
       b ([ReturnMode.setup, .online, .service].idxOf s.mgt.returnMode) ++ w s.csh.credit ++ b session ++ funds ++ b comp ++
       g (s.clg.filtered.getD 0x8000) ++ f s.clg.blind ++ f s.clg.hold ++ f s.clg.ecoEffective ++ f s.csh.exactChange ++
       b ([SegState.owned, .releasePending, .released].idxOf s.dlk.seg) ++ f s.dlk.requestWaiting ++ b s.rpq.queue.length ++
       [maskByte s.csh.hostMask] ++ [maskByte s.csh.effMask] ∧
     ∀ (m : Vector Bool 8) (k : Nat), k < 8 → (maskByte m).getLsbD k = tget m false k)

/-- R191, R196, R197: REPORT POLL answers the head of the queue, whole or in two parts, and removes it with the last part; the
slot it frees goes to the lowest dirty key, or makes the deferred polls eligible again.
R161, R192: the record of every state key and of every event report, with its kind, its subject and its fields in their order. The
run time of COOLING_STATE is counted in ticks and sent in whole seconds (log entry 23), and unknown funds are sent as log entry 35
says: the model's choices. -/
def Obligations.ReportPollAnswersTheHead : Prop :=
  (∀ (src : Byte) (s : State), Deliverable s → s.rpq.queue.length + s.rpq.reserved ≤ 32 →
    ∃ t, exec (.reportPoll src []) s = .next t ∧
      match s.rpq.queue with
      | [] => Answered src 0x14 (okAnswer [0, 0]) s t ∧ ChangesOnly [.ulk] s t
      | r :: rest =>
        let record := recordOf s r
        if s.rpq.partSent = false ∧ 45 < record.length then
          Answered src 0x14 (okAnswer (1 :: record.take 45)) s t ∧ t.rpq = { s.rpq with partSent := true } ∧
            ChangesOnly [.ulk, .rpq] s t
        else
          Answered src 0x14 (okAnswer (if s.rpq.partSent then 2 :: record.drop 45 else 0 :: record)) s t ∧
          t.rpq.queue = rest ++ (s.rpq.dirty.take 1).map .state ∧ t.rpq.dirty = s.rpq.dirty.drop 1 ∧
          t.rpq.reserved = s.rpq.reserved ∧ t.rpq.partSent = false ∧
          t.dlk = { s.dlk with polls := t.dlk.polls } ∧
          (∀ i, pollOf t i = { pollOf s i with deferred :=
            (pollOf s i).deferred && !(s.rpq.dirty.isEmpty && s.rpq.queue.length + s.rpq.reserved == 32) }) ∧
          ChangesOnly [.ulk, .rpq, .dlk] s t) ∧
  (∀ s : State,
     let b (n : Nat) : List Byte := [BitVec.ofNat 8 n]
     let w (n : Nat) : List Byte := [BitVec.ofNat 8 n, BitVec.ofNat 8 (n / 256)]
     let g (v : Option Int) : List Byte := w ((v.getD 0x8000) % 65536).toNat
     let f (c : Bool) : List Byte := [if c then 1 else 0]
     let st (k : StateKey) (kind subject : Nat) (fields : List Byte) : Prop :=
       recordOf s (.state k) = b kind ++ b subject ++ fields
     let ev (e : EventReport) (kind subject : Nat) (fields : List Byte) : Prop :=
       recordOf s (.event e) = b kind ++ b subject ++ fields
     let session := [SessionState.none, .opened, .approvalWait, .vending].idxOf s.crd.state
     let comp := [CompState.disabled, .guard, .idle, .waitSupply, .start, .run, .defrost, .drip, .blindOn, .blindOff].idxOf s.clg.comp
     let ran := min (seconds 86400) (s.clg.runTicks + if s.clg.contactor then s.now - s.clg.startedAt else 0) / seconds 1
     st .credit 0x10 0xFF (w s.csh.credit) ∧ st .exactChange 0x11 0xFF (f s.csh.exactChange) ∧
     (∀ i, st (.selection i) 0x12 i (b ([SelState.unused, .active, .disabled, .jammed, .emptySuspect].idxOf (selOf s i).state) ++
       w ((selOf s i).stock.getD 0xFFFF) ++ f (tget s.sel.vendable false i))) ∧
     (∀ i, st (.positionHealth i) 0x13 i
       (b ([Health.unknown, .ok, .opened, .shorted].idxOf (tget s.spd.health .unknown i)))) ∧
     (∀ i, st (.tube i) 0x14 i (w (tubeOf s i).denom ++ b (tubeOf s i).count ++ b (tubeOf s i).reserve ++
       b ([TubeState.ok, .empty, .jammed].idxOf (tubeOf s i).state) ++ f (tubeOf s i).lowCovered ++ f (tubeOf s i).fullCovered)) ∧
     (∀ a, ((∀ i < 8, ¬((routeOf s i).inUse = true ∧ (routeOf s i).base = a)) → st (.node a) 0x15 a (b 0 ++ b 0 ++ b 0)) ∧
       ∀ i < 8, (routeOf s i).inUse = true → (routeOf s i).base = a →
         (∀ j < i, ¬((routeOf s j).inUse = true ∧ (routeOf s j).base = a)) →
         st (.node a) 0x15 a (b ([Presence.absent, .present, .lost].idxOf (routeOf s i).presence) ++ b (routeOf s i).missed ++
           b (routeOf s i).discarded)) ∧
     st .cardSession 0x16 0xFF (b session ++ f s.crd.funds.isSome ++ w (s.crd.funds.getD 0xFFFF)) ∧
     st .cooling 0x17 0xFF (b comp ++ g s.clg.filtered ++ f s.clg.blind ++ f s.clg.demand ++ w ran ++ b (ran / 65536)) ∧
     (∀ i, st (.sensor i) 0x18 i (f (sensorOf s i).fault ++ g (sensorOf s i).value)) ∧
     st .safetyHold 0x19 0xFF (f s.clg.hold ++ w s.clg.warmTime) ∧
     st .economy 0x1A 0xFF (f s.clg.ecoRequested ++ f s.clg.ecoEffective) ∧
     st .door 0x1B 0xFF (f s.cmn.doorOpen ++ w s.cmn.openings) ∧
     st .supply 0x1C 0xFF (f s.cmn.supplyLow ++ b s.cmn.brownouts ++ w s.cmn.volts) ∧
     st .condenserHot 0x1D 0xFF (f s.clg.hot ++ b s.clg.tripCount ++
       g (if (sensorOf s 3).fault then none else (sensorOf s 3).value)) ∧
     (∀ i, st (.lateDrop i) 0x1E i (b (tget s.spd.lateCounts 0 i))) ∧
     (∀ a, st (.billAnomaly a) 0x1F a (b (anomalyOf s a).count ++ b (anomalyOf s a).cls ++ w (anomalyOf s a).uncredited)) ∧
     (∀ i p o price informed drop, ev (.vendResult i p o price informed drop) 0x01 0xFF (b i ++
       b ([Payment.cash, .card, .free].idxOf p) ++
       b ([VendOutcome.success, .noDrop, .jammed, .motorOpen, .denied, .cancelled, .interrupted].idxOf o) ++ w price ++
       (informed.elim (b 0xFF) f) ++ (drop.elim (b 0xFF) f))) ∧
     (∀ src requested paid short coins, ev (.payoutResult src requested paid short coins) 0x02 0xFF (
       b ([PayoutSource.change, .refund, .service].idxOf src) ++ w requested ++ w paid ++ f short ++ b coins.length ++
       coins.flatMap fun c => b c.1 ++ b c.2)) ∧
     (∀ tag node kind payload, ev (.transitReply tag node kind payload) 0x03 0xFF
       (b tag ++ b node ++ [kind] ++ b payload.length ++ payload)) ∧
     (∀ tag, ev (.transitLost tag) 0x04 0xFF (b tag)) ∧
     (∀ stopped last ok op short, ev (.sweepDone stopped last ok op short) 0x05 0xFF
       (f stopped ++ b (last.getD 0xFF) ++ b ok ++ b op ++ b short)) ∧
     ∀ node code params, ev (.peripheralEvent node code params) 0x06 node ([code] ++ b params.length ++ params))

/-- R171: a host frame to a downstream address is refused, or tagged and queued with a report slot reserved. That a row to an
uncovered address is answered NO_ROUTE is the model's choice (log entry 11). -/
def Obligations.TransitsAreTaggedAndQueued : Prop :=
  ∀ (src dest kind : Byte) (payload : List Byte) (s : State), Deliverable s →
    ∃ t, exec (.transit src dest kind payload) s = .next t ∧
      match coveringEntry s dest.toNat with
      | none => RefusedWith src kind .noRoute s t
      | some (i, _) =>
        if kind ∈ [0x30, 0x31, 0x32, 0x33, 0x34] ∨
            (kind = 0x20 ∧ ∃ r ∈ [Role.bill, Role.card], (entryOf r s).map (·.1) = some i) then
          RefusedWith src kind .kindOwned s t
        else if 4 ≤ s.dlk.transits.length then RefusedWith src kind .transitFull s t
        else if 32 ≤ s.rpq.queue.length + s.rpq.reserved then RefusedWith src kind .queueFull s t
        else
          Answered src kind (okAnswer [ch s.dlk.nextTag]) s t ∧
          t.dlk = { s.dlk with
            nextTag := (s.dlk.nextTag + 1) % 256
            transits := s.dlk.transits ++ [⟨s.dlk.nextTag, dest.toNat, kind, payload, false⟩] } ∧
          t.rpq = { s.rpq with reserved := s.rpq.reserved + 1 } ∧ ChangesOnly [.ulk, .dlk, .rpq] s t

/-! ## Table writes -/

/-- R178, R190, R192: the payload of a table write, its field mask and values laid out in the table's order, is read back as the
fields given, for every table the host can write. -/
def Obligations.TableWritePayloadsAreReadBack : Prop :=
  ∀ (id : Nat) (ix : Byte) (gs : List (Option Int)), 1 ≤ id → id ≤ 10 → gs.length = (tableForms id).length →
    (∀ p ∈ (tableForms id).zip gs, ∀ v, p.2 = some v → p.1.holds v) → (∃ g ∈ gs, g.isSome) →
    (ix = 0 ∨ (id ≠ 7 ∧ id ≠ 8 ∧ id ≠ 10)) →
    readWrite id (writePayload id ix gs) = .ok ⟨ix.toNat, gs⟩

/-- R6, R7: the checks of a write to table 1 in their order, and the entry it stores. A write of ACTIVE or DISABLED over JAMMED or
EMPTY_SUSPECT sets the no-drop run to 0 unless the write gives the run itself. -/
def Obligations.SelectionWriteChecksThenStores : Prop :=
  ∀ (src : Byte) (p : List Byte) (w : Write) (s : State), Deliverable s → readWrite 1 p = .ok w →
    ∃ t, exec (.selectionWrite src p) s = .next t ∧
      let e := selOf s w.index
      if 80 ≤ w.index then RefusedWith src 0x12 .badIndex s t
      else if s.mgt.mode = .safe ∨
          (s.mgt.mode ≠ .setup ∧ (w.get 0 = some 0 ∨ [1, 2, 3, 4, 9, 10].any w.has = true)) then
        RefusedWith src 0x12 .wrongMode s t
      else if s.vnd.ctx.any (fun v => v.selection = w.index) = true then RefusedWith src 0x12 .entryBusy s t
      else if 7 < w.nat 1 0 ∨ 9 < w.nat 2 0 ∨ w.nat 6 1 = 0 ∨ 9999 < w.nat 6 1 ∨ (255 < w.nat 7 0 ∧ w.nat 7 0 ≠ 65535) ∨
          2 < w.nat 9 0 ∨ w.get 0 = some 3 ∨ w.get 0 = some 4 then
        RefusedWith src 0x12 .badValue s t
      else
        StoredAnswer src 1 w.index s t ∧
        selOf t w.index =
          { state := if w.has 0 then selStateOf (w.int 0 0) else e.state
            tray := w.nat 1 e.tray
            column := w.nat 2 e.column
            twin := w.bool 3 e.twin
            chilled := w.bool 4 e.chilled
            perishable := w.bool 5 e.perishable
            price := w.nat 6 e.price
            stock := if w.has 7 then (if w.nat 7 0 = 65535 then none else some (w.nat 7 0)) else e.stock
            secondTurn := w.bool 8 e.secondTurn
            noDropRun := w.nat 9
              (if (e.state = .jammed ∨ e.state = .emptySuspect) ∧ (w.get 0 = some 1 ∨ w.get 0 = some 2) then 0
               else e.noDropRun)
            sales := w.nat 10 e.sales } ∧
        (∀ j, j ≠ w.index → selOf t j = selOf s j) ∧
        ((selOf t w.index).state ≠ e.state ∨ (selOf t w.index).stock ≠ e.stock → Reported (.selection w.index) t) ∧
        ChangesOnly (.ulk :: Block.sales) s t ∧ SameAccount s t ∧ SameLink s t ∧ SameCooling s t

/-- R3, R4, R135: after a write that table 1 or table 2 stores, from whatever state, SEL's flags, p_min and its chilled flag are
those of the entries as they then stand, and so is economy.
R28, R18, R133, R134: they are so after reset, and every step keeps them so: a change of health, a settlement, the safety hold set
and cleared, and every other row. -/
def Obligations.StoredEntriesSetVendability : Prop :=
  (∀ (src : Byte) (p : List Byte) (w : Write) (s t : State), Deliverable s →
     (readWrite 1 p = .ok w ∧ selectionRefusal s w = none ∧ exec (.selectionWrite src p) s = .next t) ∨
       (readWrite 2 p = .ok w ∧ trayRefusal s w = none ∧ exec (.trayWrite src p) s = .next t) →
     SalesCurrent t) ∧
  SalesCurrent State.reset ∧
  ∀ s t : State, SalesCurrent s → step s = .next t → SalesCurrent t

/-- R25: the checks of a write to table 2 in their order, and the entry it stores.
R52: the checks of a write to table 3 in their order, and the entry it stores. Outside SETUP only the enabled flag may be given,
and a class it enables must leave the machine consistent.
R52: the same for table 4. -/
def Obligations.TrayCoinAndBillWritesStore : Prop :=
  (∀ (src : Byte) (p : List Byte) (w : Write) (s : State), Deliverable s → readWrite 2 p = .ok w →
     ∃ t, exec (.trayWrite src p) s = .next t ∧
       if 8 ≤ w.index then RefusedWith src 0x12 .badIndex s t
       else if s.vnd.ctx.any (fun v => (selOf s v.selection).tray = w.index) = true then RefusedWith src 0x12 .entryBusy s t
       else if s.mgt.mode ≠ .setup then RefusedWith src 0x12 .wrongMode s t
       else if w.nat 1 1 = 0 ∨ 10 < w.nat 1 1 then RefusedWith src 0x12 .badValue s t
       else
         StoredAnswer src 2 w.index s t ∧
         trayOf t w.index =
           { present := w.bool 0 (trayOf s w.index).present
             columns := w.nat 1 (trayOf s w.index).columns
             mirror := w.bool 2 (trayOf s w.index).mirror } ∧
         (∀ j, j ≠ w.index → trayOf t j = trayOf s j) ∧
         t.spd = { s.spd with trays := t.spd.trays } ∧ t.sel.table = s.sel.table ∧
         ChangesOnly (.ulk :: .spd :: Block.sales) s t ∧ SameAccount s t ∧ SameLink s t ∧ SameCooling s t) ∧
  (∀ (src : Byte) (p : List Byte) (w : Write) (s : State), Deliverable s → readWrite 3 p = .ok w →
     ∃ t, exec (.coinTableWrite src p) s = .next t ∧
       let c := coinOf s w.index
       if 16 ≤ w.index then RefusedWith src 0x12 .badIndex s t
       else if s.mgt.mode = .safe ∨ (s.mgt.mode ≠ .setup ∧ (w.has 0 = true ∨ w.has 1 = true)) then
         RefusedWith src 0x12 .wrongMode s t
       else if w.nat 0 1 = 0 ∨ 9999 < w.nat 0 1 then RefusedWith src 0x12 .badValue s t
       else if s.mgt.mode ≠ .setup ∧ w.get 2 = some 1 ∧
           (s.csh.creditLimit < c.value ∨ c.route.any (fun tube => c.value ≠ (tubeOf s tube).denom) = true) then
         RefusedWith src 0x12 .badValue s t
       else
         StoredAnswer src 3 w.index s t ∧
         coinOf t w.index =
           { value := w.nat 0 c.value
             route := if w.has 1 then (if w.nat 1 0 = 255 then none else some (w.nat 1 0)) else c.route
             enabled := w.bool 2 c.enabled } ∧
         (∀ j, j ≠ w.index → coinOf t j = coinOf s j) ∧
         SameAccount { s with csh := { s.csh with coins := t.csh.coins } } t ∧
         ChangesOnly (.ulk :: Block.cash) s t ∧ SameLink s t) ∧
  (∀ (src : Byte) (p : List Byte) (w : Write) (s : State), Deliverable s → readWrite 4 p = .ok w →
     ∃ t, exec (.billTableWrite src p) s = .next t ∧
       let b := billOf s w.index
       if 8 ≤ w.index then RefusedWith src 0x12 .badIndex s t
       else if s.mgt.mode = .safe ∨ (s.mgt.mode ≠ .setup ∧ w.has 0 = true) then RefusedWith src 0x12 .wrongMode s t
       else if w.nat 0 1 = 0 ∨ 20000 < w.nat 0 1 then RefusedWith src 0x12 .badValue s t
       else if s.mgt.mode ≠ .setup ∧ w.get 1 = some 1 ∧ s.csh.creditLimit < b.value then RefusedWith src 0x12 .badValue s t
       else
         StoredAnswer src 4 w.index s t ∧
         billOf t w.index = { value := w.nat 0 b.value, enabled := w.bool 1 b.enabled } ∧
         (∀ j, j ≠ w.index → billOf t j = billOf s j) ∧
         SameAccount { s with csh := { s.csh with bills := t.csh.bills } } t ∧
         ChangesOnly (.ulk :: Block.cash) s t ∧ SameLink s t)

/-- R76: the checks of a write to table 5 in their order, and the entry it stores. A capacity below the count clamps the count.
That the whole resulting entry is checked is the model's choice (log entry 31). -/
def Obligations.TubeWriteChecksThenStores : Prop :=
  ∀ (src : Byte) (p : List Byte) (w : Write) (s : State), Deliverable s → readWrite 5 p = .ok w →
    ∃ t, exec (.tubeTableWrite src p) s = .next t ∧
      let u := tubeOf s w.index
      let n : Tube := { u with
        denom := w.nat 0 u.denom
        capacity := w.nat 1 u.capacity
        count := min u.count (w.nat 1 u.capacity)
        reserve := w.nat 3 u.reserve
        lowLevel := w.nat 4 u.lowLevel }
      if 6 ≤ w.index then RefusedWith src 0x12 .badIndex s t
      else if s.mgt.mode = .safe ∨ ([2, 5, 6, 7].any w.has = true) ∨
          (s.mgt.mode ≠ .setup ∧ [0, 1, 4].any w.has = true) then
        RefusedWith src 0x12 .wrongMode s t
      else if s.chg.payout.isSome then RefusedWith src 0x12 .entryBusy s t
      else if 9999 < n.denom ∨ n.capacity = 0 ∨ 200 < n.capacity ∨ n.capacity < n.reserve ∨ n.lowLevel = 0 ∨
          n.capacity < n.lowLevel then
        RefusedWith src 0x12 .badValue s t
      else
        StoredAnswer src 5 w.index s t ∧ tubeOf t w.index = n ∧ (∀ j, j ≠ w.index → tubeOf t j = tubeOf s j) ∧
        (n ≠ u → Reported (.tube w.index) t) ∧ t.chg = { s.chg with tubes := t.chg.tubes } ∧
        ChangesOnly (.ulk :: .chg :: Block.cash) s t ∧ SameAccount s t ∧ SameLink s t

/-- R162: the checks of a write to table 6 in their order; a write that changes only the timings stores them, clamped, and nothing
else. A write that re-homes the entry leaves it ABSENT, ends an exchange in flight to its old addresses and, where the entry was
in use (log entry 38), drops the own frames that wait for its old node: shown where their owners have nothing to act on. Its poll
is due at once, in use and while the segment is not RELEASED (R174, log entry 33). -/
def Obligations.RouteWriteChecksThenStores : Prop :=
  ∀ (src : Byte) (p : List Byte) (w : Write) (s : State), Deliverable s → readWrite 6 p = .ok w →
    ∃ t, exec (.routeTableWrite src p) s = .next t ∧
      let r := routeOf s w.index
      let inUse := w.bool 0 r.inUse
      let base := w.nat 1 r.base
      let span := w.nat 2 r.span
      let role := if w.has 3 then roleOf (w.int 3 0) else r.role
      if 8 ≤ w.index then RefusedWith src 0x12 .badIndex s t
      else if s.mgt.mode = .safe ∨ ([6, 7, 8, 9, 10].any w.has = true) ∨
          (s.mgt.mode ≠ .setup ∧ [0, 1, 2, 3].any w.has = true) then
        RefusedWith src 0x12 .wrongMode s t
      else if base < 0x20 ∨ 0x5F < base ∨ span ∉ [1, 2, 4, 8] ∨ base % span ≠ 0 ∨ 0x5F < base + span - 1 ∨
          (inUse = true ∧ ∃ j : Fin 8, j.val ≠ w.index ∧ (routeOf s j).inUse = true ∧
            base < (routeOf s j).base + (routeOf s j).span ∧ (routeOf s j).base < base + span) then
        RefusedWith src 0x12 .badValue s t
      else if inUse = r.inUse ∧ base = r.base ∧ span = r.span ∧ role = r.role then
        StoredAnswer src 6 w.index s t ∧ ChangesOnly [.ulk, .dlk] s t ∧
        routeOf t w.index = { r with
          pollInterval := max 20 (min 1000 (w.nat 4 r.pollInterval))
          timeout := max 10 (min 250 (w.nat 5 r.timeout)) } ∧
        (∀ j, j ≠ w.index → routeOf t j = routeOf s j) ∧ t.dlk = { s.dlk with routes := t.dlk.routes }
      else
        -- re-homed
        StoredAnswer src 6 w.index s t ∧
        routeOf t w.index =
          { inUse := inUse, base := base, span := span, role := role
            pollInterval := max 20 (min 1000 (w.nat 4 r.pollInterval))
            timeout := max 10 (min 250 (w.nat 5 r.timeout))
            presence := .absent, missed := 0, lastEnable := none, discarded := 0 } ∧
        (∀ j, j ≠ w.index → routeOf t j = routeOf s j) ∧
        (∀ x, s.dlk.exchange = some x → r.covers x.dest = true → t.dlk.exchange = none) ∧
        (r.inUse = false → t.dlk.own = s.dlk.own) ∧
        (r.inUse = true → s.crd.state = .none ∨ s.crd.state = .opened → s.crd.owed = none → s.csh.escrow = none →
          t.dlk.own = s.dlk.own.filter fun f => f.node != r.base) ∧
        (pollOf t w.index).nextDue = s.now ∧ (pollOf t w.index).deferred = false ∧
        ((pollOf t w.index).due = true ↔ inUse = true ∧ t.dlk.seg ≠ .released)

/-- R55, R118, R114, R31, R152: the settings tables. Each write is checked as its rule says and stores the fields given; the guard
gap and the data rate are clamped.
R114, R31, R152: a write to table 9 stores a calibration point only where the raw values still ascend strictly; a write to table
10 stores the jam threshold, and the data rate and the guard gap clamped. -/
def Obligations.SettingsWritesCheckThenStore : Prop :=
  (∀ (src : Byte) (p : List Byte) (w : Write) (s : State), Deliverable s → readWrite 7 p = .ok w →
     ∃ t, exec (.vendSettingsWrite src p) s = .next t ∧
       if s.mgt.mode = .safe ∨ (s.mgt.mode ≠ .setup ∧ w.has 1 = true) then RefusedWith src 0x12 .wrongMode s t
       else if w.has 0 = true ∧ (w.nat 0 0 < committed s + moneyOwed s ∨
           (s.mgt.mode ≠ .setup ∧
             ((∃ i : Fin 16, (coinOf s i).enabled = true ∧ w.nat 0 0 < (coinOf s i).value) ∨
               ∃ i : Fin 8, (billOf s i).enabled = true ∧ w.nat 0 0 < (billOf s i).value))) then
         RefusedWith src 0x12 .badValue s t
       else
         StoredAnswer src 7 0 s t ∧
         SameAccount { s with csh := { s.csh with
           creditLimit := w.nat 0 s.csh.creditLimit
           strict := w.bool 1 s.csh.strict
           multiVend := w.bool 2 s.csh.multiVend } } t ∧
         ChangesOnly (.ulk :: Block.cash) s t ∧ SameLink s t) ∧
  (∀ (src : Byte) (p : List Byte) (w : Write) (s : State), Deliverable s →
     (readWrite 9 p = .ok w → ∃ t, exec (.calibrationWrite src p) s = .next t ∧
       let n : Nat × Int := (w.nat 0 (pointOf s w.index).1, w.int 1 (pointOf s w.index).2)
       let raw (i : Nat) : Nat := if i = w.index then n.1 else (pointOf s i).1
       if 9 ≤ w.index then RefusedWith src 0x12 .badIndex s t
       else if s.mgt.mode = .safe then RefusedWith src 0x12 .wrongMode s t
       else if 1023 < n.1 ∨ n.2 < -400 ∨ 800 < n.2 ∨ (∃ i : Fin 8, raw (i.val + 1) ≤ raw i.val) then RefusedWith src 0x12 .badValue s t
       else StoredAnswer src 9 w.index s t ∧ pointOf t w.index = n ∧ (∀ j, j ≠ w.index → pointOf t j = pointOf s j) ∧
         t.clg = { s.clg with points := t.clg.points } ∧ ChangesOnly [.ulk, .clg] s t) ∧
     (readWrite 10 p = .ok w → ∃ t, exec (.driveAndLinkSettingsWrite src p) s = .next t ∧
       if s.mgt.mode ≠ .setup then RefusedWith src 0x12 .wrongMode s t
       else if w.has 0 = true ∧ (w.nat 0 0 < 500 ∨ 2500 < w.nat 0 0) then RefusedWith src 0x12 .badValue s t
       else StoredAnswer src 10 0 s t ∧
         t.spd = { s.spd with jamThreshold := w.nat 0 s.spd.jamThreshold } ∧
         t.dlk = { s.dlk with
           fastRate := if w.has 1 then decide (14400 ≤ w.nat 1 0) else s.dlk.fastRate
           guardGap := min 4 (w.nat 2 s.dlk.guardGap) } ∧
         ChangesOnly [.ulk, .spd, .dlk] s t))

/-- R118, R127: a write to table 8 changes the settings; disabling cooling stops the compressor and withdraws its claim; enabling
it puts a DISABLED compressor, which has no claim filed (an invariant of every step), in GUARD while the guard time runs, and past
it in what IDLE gives: IDLE, BLIND_ON, or a start (R120, R121, R126). -/
def Obligations.CoolingSettingsWriteChecksThenStores : Prop :=
  ∀ (src : Byte) (p : List Byte) (w : Write) (s : State), Deliverable s → readWrite 8 p = .ok w →
    ∃ t, exec (.coolingSettingsWrite src p) s = .next t ∧
      let o := s.clg.settings
      let n : CoolSettings :=
        { setpoint := w.int 0 o.setpoint, differential := w.int 1 o.differential, economyOffset := w.int 2 o.economyOffset,
          safeLimit := w.int 3 o.safeLimit, holdDelay := w.nat 4 o.holdDelay, defrostInterval := w.nat 5 o.defrostInterval,
          defrostTermination := w.int 6 o.defrostTermination, defrostMaximum := w.nat 7 o.defrostMaximum,
          dripTime := w.nat 8 o.dripTime, condenserTrip := w.int 9 o.condenserTrip, enabled := w.bool 10 o.enabled }
      if s.mgt.mode = .safe then RefusedWith src 0x12 .wrongMode s t
      else if n.setpoint < -50 ∨ 150 < n.setpoint ∨ n.differential < 5 ∨ 50 < n.differential ∨ n.economyOffset < 0 ∨
          60 < n.economyOffset ∨ n.safeLimit < 0 ∨ 150 < n.safeLimit ∨ n.holdDelay < 1 ∨ 120 < n.holdDelay ∨
          n.defrostInterval < 1 ∨ 24 < n.defrostInterval ∨ n.defrostTermination < 0 ∨ 150 < n.defrostTermination ∨
          n.defrostMaximum < 5 ∨ 60 < n.defrostMaximum ∨ 600 < n.dripTime ∨ n.condenserTrip < 400 ∨ 800 < n.condenserTrip then
        RefusedWith src 0x12 .badValue s t
      else
        StoredAnswer src 8 0 s t ∧ t.clg.settings = n ∧ ChangesOnly (.ulk :: Block.grants) s t ∧
        (n.enabled = false → o.enabled = true →
          t.clg.comp = .disabled ∧ t.clg.contactor = false ∧ t.lds.compUnits = 0 ∧
            ∀ c ∈ t.lds.claims, c.kind ≠ .compressor) ∧
        (n.enabled = o.enabled → s.lds.claims = [] → ChangesOnly [.ulk, .clg] s t ∧
          t.clg = { s.clg with settings := n }) ∧
        (n.enabled = true → o.enabled = false → s.clg.comp = .disabled → DisabledUnclaimed s →
          (s.now < s.clg.lastStop + seconds 180 → t.clg.comp = .guard) ∧
          (s.clg.lastStop + seconds 180 ≤ s.now →
            (s.clg.hot = true ∨ (s.clg.blind = false ∧ s.clg.demand = false) → t.clg.comp = .idle) ∧
            (s.clg.hot = false → s.clg.blind = true → t.clg.comp = .blindOn) ∧
            (s.clg.hot = false → s.clg.blind = false → s.clg.demand = true → s.lds.claims = [] →
              (0 < unitsGranted s → t.clg.comp = .waitSupply ∧ t.lds.claims = [⟨.compressor, 4, s.now, false⟩]) ∧
              (unitsGranted s = 0 → t.clg.comp = .start ∧ t.clg.contactor = true ∧ t.lds.compUnits = 4))))

/-! ## Modes and small commands -/

/-- R184: GO ONLINE. The first item that fails one of the six checks, in their order, is answered INCONSISTENT with its table and
index; where all pass the mode becomes ONLINE with the door closed and SERVICE with it open, and an entry to ONLINE ends a sweep.
R185: GO OFFLINE. -/
def Obligations.GoOnlineAndGoOfflineSetTheMode : Prop :=
  (∀ (src : Byte) (s : State), Deliverable s →
     (s.mgt.mode ≠ .setup → ∃ t, exec (.goOnline src []) s = .next t ∧ RefusedWith src 0x13 .wrongMode s t) ∧
     (s.mgt.mode = .setup →
       let active (i : Nat) : Prop := (selOf s i).state = .active
       let unplaced (i : Nat) : Prop := i < 80 ∧ active i ∧
         ¬((trayOf s (selOf s i).tray).present = true ∧ (positionOf s (selOf s i)).isSome)
       let shared (i : Nat) : Prop := i < 80 ∧ active i ∧ ∃ j < i, active j ∧ ∃ q ∈ positionsOf s i, q ∈ positionsOf s j
       let twice (i : Nat) : Prop := i < 6 ∧ (tubeOf s i).denom ≠ 0 ∧ ∃ j < i, (tubeOf s j).denom = (tubeOf s i).denom
       let misrouted (i : Nat) : Prop := i < 16 ∧ (coinOf s i).enabled = true ∧
         ∃ tube, (coinOf s i).route = some tube ∧ (coinOf s i).value ≠ (tubeOf s tube).denom
       let second (i : Nat) : Prop := i < 8 ∧ (routeOf s i).inUse = true ∧ (routeOf s i).role ≠ .passive ∧
         ∃ j < i, (routeOf s j).inUse = true ∧ (routeOf s j).role = (routeOf s i).role
       let beyond : Prop := (∃ i < 16, (coinOf s i).enabled = true ∧ s.csh.creditLimit < (coinOf s i).value) ∨
         ∃ i < 8, (billOf s i).enabled = true ∧ s.csh.creditLimit < (billOf s i).value
       let first (fails : Nat → Prop) (i : Nat) : Prop := fails i ∧ ∀ j < i, ¬fails j
       let passes (fails : Nat → Prop) : Prop := ∀ i < 80, ¬fails i
       let refused (table i : Nat) : Prop := ∃ t, exec (.goOnline src []) s = .next t ∧
         Answered src 0x13 ⟨.inconsistent, [ch table, ch i]⟩ s t ∧ ChangesOnly [.ulk] s t
       (∀ i, first unplaced i → refused 1 i) ∧
       (∀ i, passes unplaced → first shared i → refused 1 i) ∧
       (∀ i, passes unplaced → passes shared → first twice i → refused 5 i) ∧
       (∀ i, passes unplaced → passes shared → passes twice → first misrouted i → refused 3 i) ∧
       (∀ i, passes unplaced → passes shared → passes twice → passes misrouted → first second i → refused 6 i) ∧
       (passes unplaced → passes shared → passes twice → passes misrouted → passes second → beyond → refused 7 0) ∧
       (passes unplaced → passes shared → passes twice → passes misrouted → passes second → ¬beyond →
         ∃ t, exec (.goOnline src []) s = .next t ∧
           Answered src 0x13 (okAnswer [if s.cmn.doorOpen then 2 else 1]) s t ∧
           t.mgt = { mode := if s.cmn.doorOpen then .service else .online
                     returnMode := if s.cmn.doorOpen then .online else s.mgt.returnMode } ∧
           (s.cmn.doorOpen = false → t.spd.sweep = none) ∧
           ChangesOnly (.ulk :: .mgt :: Block.grants) s t))) ∧
  (∀ (src : Byte) (s : State), Deliverable s → ∃ t, exec (.goOffline src []) s = .next t ∧
     if s.mgt.mode = .setup ∨ s.mgt.mode = .safe then RefusedWith src 0x13 .wrongMode s t
     else if s.vnd.ctx.isSome ∨ s.chg.payout.isSome then RefusedWith src 0x13 .busy s t
     else
       Answered src 0x13 (okAnswer []) s t ∧ t.mgt = { mode := .setup, returnMode := .setup } ∧
       (s.mgt.mode = .online → s.crd.state = .opened → t.crd.state = .none ∧ t.crd.funds = none) ∧
       (s.mgt.mode = .online → s.dlk.seg = .owned → s.dlk.requestWaiting = true →
         t.dlk.requestWaiting = false ∧ t.dlk.seg ≠ .owned) ∧
       (∀ i, tget t.csh.effMask false i = false) ∧
       ChangesOnly (.ulk :: .mgt :: .crd :: Block.grants) s t)

/-- R186, R70, R68: HOST BILL MASK replaces the mask and answers both masks as they then stand.
R135: ECONOMY ON and ECONOMY OFF set the request; economy is effective while it is requested, the hold is clear and no chilled
perishable selection is on sale. A change of either flag is reported.
R134: HOLD RELEASE clears the hold and the warm time when the compartment is seen cool.
R73: AUDIT CLEAR sets the eight totals to 0 while no money is held. -/
def Obligations.SmallCommandsSetTheirState : Prop :=
  (∀ (src m : Byte) (s : State), Deliverable s → ∃ t, exec (.hostBillMask src [m]) s = .next t ∧
     if s.mgt.mode = .safe then RefusedWith src 0x13 .wrongMode s t
     else
       Answered src 0x13 (okAnswer [m, maskByte t.csh.effMask]) s t ∧
       (∀ i < 8, tget t.csh.hostMask false i = m.getLsbD i) ∧
       (t.csh.hostMask ≠ s.csh.hostMask → ∀ i < 8, tget t.csh.effMask false i = true ↔
         m.getLsbD i = true ∧ (billOf t i).enabled = true ∧ t.mgt.mode = .online ∧
           committed t + (billOf t i).value ≤ t.csh.creditLimit ∧ tget t.csh.billSafe false i = true) ∧
       SameAccount { s with csh := { s.csh with hostMask := t.csh.hostMask } } t ∧
       ChangesOnly (.ulk :: Block.cash) s t ∧ SameLink s t) ∧
  (∀ (src : Byte) (on : Bool) (s : State), Deliverable s →
     ∃ t, exec (if on then .economyOn src [] else .economyOff src []) s = .next t ∧
       if s.mgt.mode = .safe then RefusedWith src 0x13 .wrongMode s t
       else
         let effective := on && !s.clg.hold && !s.sel.chilledOnSale
         Answered src 0x13 (okAnswer [flag on, flag effective]) s t ∧
         t.clg = { s.clg with ecoRequested := on, ecoEffective := effective } ∧
         (t.clg ≠ s.clg → Reported .economy t) ∧ ChangesOnly [.ulk, .clg, .rpq] s t) ∧
  (∀ (src : Byte) (s : State), Deliverable s → ∃ t, exec (.holdRelease src []) s = .next t ∧
     if s.mgt.mode = .safe then RefusedWith src 0x13 .wrongMode s t
     else if s.clg.blind = true ∨ s.clg.filtered.all (fun f => s.clg.settings.safeLimit < f) = true then
       RefusedWith src 0x13 .warm s t
     else
       Answered src 0x13 (okAnswer []) s t ∧
       t.clg = { s.clg with hold := false, warmTime := 0, ecoEffective := t.clg.ecoEffective } ∧
       (s.clg.hold = true → Reported .safetyHold t) ∧
       ChangesOnly (.ulk :: Block.sales) s t ∧ SameAccount s t ∧ SameLink s t) ∧
  (∀ (src : Byte) (s : State), Deliverable s → ∃ t, exec (.auditClear src []) s = .next t ∧
     if s.mgt.mode = .safe then RefusedWith src 0x13 .wrongMode s t
     else if 0 < s.csh.credit ∨ s.vnd.ctx.isSome ∨ s.chg.payout.isSome then RefusedWith src 0x13 .busy s t
     else
       Answered src 0x13 (okAnswer []) s t ∧ ChangesOnly [.ulk, .csh] s t ∧
       t.csh = { s.csh with audit :=
         { coinsIn := 0, billsIn := 0, cashVended := 0, cashPaidOut := 0, cardVended := 0, freeVends := 0, serviceFill := 0,
           servicePaidOut := 0 } })

/-- R82: TUBE COUNT sets a used tube's count, clamped to its capacity, and its state to OK.
R78, R79, R81: the tube sensors correct the counts. -/
def Obligations.TubeCountsAreCorrected : Prop :=
  (∀ (src tube n : Byte) (s : State), Deliverable s → ∃ t, exec (.tubeCount src [tube, n]) s = .next t ∧
     let u := tubeOf s tube.toNat
     if s.mgt.mode ≠ .service ∧ s.mgt.mode ≠ .setup then RefusedWith src 0x13 .wrongMode s t
     else if 6 ≤ tube.toNat then RefusedWith src 0x13 .badIndex s t
     else if s.chg.payout.isSome then RefusedWith src 0x13 .payoutBusy s t
     else if u.denom = 0 then RefusedWith src 0x13 .badValue s t
     else
       Answered src 0x13 (okAnswer [ch (min n.toNat u.capacity)]) s t ∧
       tubeOf t tube.toNat = { u with count := min n.toNat u.capacity, state := .ok } ∧
       (∀ j, j ≠ tube.toNat → tubeOf t j = tubeOf s j) ∧
       (tubeOf t tube.toNat ≠ u → Reported (.tube tube.toNat) t) ∧
       ChangesOnly (.ulk :: .chg :: Block.cash) s t ∧ SameAccount s t ∧ SameLink s t) ∧
  (∀ (i : Fin 6) (covered : Bool) (s : State),
     let u := tubeOf s i
     (u.lowCovered ≠ covered → ∃ t, exec (.lowSensorChange i covered) s = .next t ∧
       tubeOf t i = { u with
         lowCovered := covered
         count := if covered then max u.count u.lowLevel else if u.count < u.lowLevel then u.count else u.lowLevel - 1 } ∧
       (∀ j, j ≠ i.val → tubeOf t j = tubeOf s j) ∧ Reported (.tube i) t ∧
       t.chg = { s.chg with tubes := t.chg.tubes } ∧ ChangesOnly (.chg :: Block.cash) s t ∧ SameAccount s t ∧ SameLink s t) ∧
     (u.fullCovered ≠ covered → ∃ t, exec (.fullSensorChange i covered) s = .next t ∧
       tubeOf t i = { u with
         fullCovered := covered
         count := if covered then u.capacity else if u.count = u.capacity then u.capacity - 1 else u.count } ∧
       (∀ j, j ≠ i.val → tubeOf t j = tubeOf s j) ∧ Reported (.tube i) t ∧
       t.chg = { s.chg with tubes := t.chg.tubes } ∧ ChangesOnly (.chg :: Block.cash) s t ∧ SameAccount s t ∧ SameLink s t))

/-! ## Vends -/

/-- R10, R190: the checks of VEND in their order. A VEND that passes them all is answered OK. -/
def Obligations.VendChecksInOrder : Prop :=
  ∀ (src i p : Byte) (s : State), Deliverable s → ∃ t, exec (.vend src [i, p]) s = .next t ∧
    let e := selOf s i.toNat
    let slots := if p = 0 ∧ s.csh.multiVend = false then 2 else 1
    if 2 < p.toNat then RefusedWith src 0x13 .badValue s t
    else if ¬((s.mgt.mode = .online ∧ p ≠ 2) ∨ (s.mgt.mode = .service ∧ p = 2)) then RefusedWith src 0x13 .wrongMode s t
    else if s.vnd.ctx.isSome then RefusedWith src 0x13 .vendBusy s t
    else if ¬(i.toNat < 80 ∧ e.state = .active) then RefusedWith src 0x13 .notVendable s t
    else if e.stock = some 0 then RefusedWith src 0x13 .soldOut s t
    else if e.chilled = true ∧ e.perishable = true ∧ s.clg.hold = true then RefusedWith src 0x13 .held s t
    else if (trayOf s e.tray).present = false ∨ positionFit s e = false then RefusedWith src 0x13 .notVendable s t
    else if p = 0 ∧ s.csh.credit < e.price then RefusedWith src 0x13 .creditShort s t
    else if p = 0 ∧ s.chg.payout.isSome then RefusedWith src 0x13 .payoutBusy s t
    else if p = 1 ∧ s.crd.state ≠ .opened then RefusedWith src 0x13 .noSession s t
    else if p = 1 ∧ s.csh.credit ≠ 0 then RefusedWith src 0x13 .cashPresent s t
    else if p = 1 ∧ s.crd.funds.any (fun f => f < e.price) = true then RefusedWith src 0x13 .creditShort s t
    else if 32 < s.rpq.queue.length + s.rpq.reserved + slots then RefusedWith src 0x13 .queueFull s t
    else Answered src 0x13 (okAnswer []) s t

/-- R11, R13, R46, R54: a CASH or FREE vend that passes its checks: the context in LOAD_WAIT with the position recorded, a CASH
price taken from the credit, the slots reserved, a sweep paused, and the claim filed, before LDS evaluates the claims. That one
evaluation follows both the sweep's pause and the vend's filing is the model's choice (log entry 6). -/
def Obligations.AcceptedVendsFileTheirClaim : Prop :=
  ∀ (src i p : Byte) (col : Nat) (partner : Option Nat) (s : State), Deliverable s → p = 0 ∨ p = 2 →
    vendRefusal s i.toNat (if p = 0 then .cash else .free) = none →
    positionOf s (selOf s i.toNat) = some (col, partner) →
    ∃ u t, exec (.vend src [i, p]) s = .next t ∧ AnsweredAfter src 0x13 (okAnswer []) s (evaluateClaims u) t ∧
      let price := (selOf s i.toNat).price
      let slots := if p = 0 ∧ s.csh.multiVend = false then 2 else 1
      u.vnd.ctx = some
        { selection := i.toNat, payment := if p = 0 then .cash else .free, price := price, stage := .loadWait, dropSeen := false,
          slots := slots, outcome := none, tray := (selOf s i.toNat).tray, col := col, partner := partner } ∧
      SameAccount { s with csh := { s.csh with credit := if p = 0 then s.csh.credit - price else s.csh.credit } } u ∧
      u.rpq.reserved = s.rpq.reserved + slots ∧
      u.lds.claims.getLast? = some ⟨.vend, if partner.isSome then 2 else 1, s.now, false⟩ ∧
      u.spd.sweep = s.spd.sweep.map (fun w => { w with paused := true, check := .none }) ∧
      u.spd = { s.spd with sweep := u.spd.sweep, rowOn := u.spd.rowOn, colsOn := u.spd.colsOn } ∧
      (p = 0 → 0 < price → Reported .credit u) ∧
      ChangesOnly [.ulk, .vnd, .spd, .csh, .lds, .dlk, .rpq] s u ∧ SameLink s u

/-- R11, R12, R100, R169: a CARD vend that passes its checks waits for approval: the session enters APPROVAL_WAIT with a deadline
30 s on, and the APPROVAL REQUEST stands last in the own-frame queue of a reader that is PRESENT. -/
def Obligations.AcceptedCardVendsAskForApproval : Prop :=
  ∀ (src i : Byte) (n : Nat) (r : Route) (s : State), Deliverable s → vendRefusal s i.toNat .card = none →
    entryOf .card s = some (n, r) → r.presence = .present → s.dlk.own.length < 4 → s.lds.claims = [] →
    ∃ t, exec (.vend src [i, 1]) s = .next t ∧ Answered src 0x13 (okAnswer []) s t ∧
      let price := (selOf s i.toNat).price
      (∃ v, t.vnd.ctx = some v ∧ v.selection = i.toNat ∧ v.payment = .card ∧ v.price = price ∧ v.stage = .approvalWait ∧
        v.slots = 1 ∧ v.outcome = none) ∧
      t.crd = { s.crd with
        state := .approvalWait, deadline := some (s.now + seconds 30), lastRequest := some (i.toNat, price) } ∧
      Reported .cardSession t ∧
      t.dlk = { s.dlk with own := s.dlk.own ++ [⟨r.base, .approvalRequest price i.toNat⟩] } ∧
      t.rpq.reserved = s.rpq.reserved + 1 ∧ ChangesOnly [.ulk, .vnd, .spd, .crd, .lds, .dlk, .rpq] s t

/-- R32, R138, R140: a vend whose units are free and that no guarding claim holds back is granted first: it enters TURN_1 and its
motors start, a cam that reads open counting as already opened.
R138, R139: a start claim that has waited 60 s becomes guarding, and while it waits no other claim is granted. The guard is taken
at the later of now and its due time (log entry 1).
R136, R138, R140: an evaluation grants the claim that fits and stands first in the order vend, payout, coil check, compressor start,
and goes on with what is left; a claim that does not fit is passed over, but a guarding claim is granted before all others or holds
them back. In SAFE nothing is granted. A claim granted leaves the list, and its owner's load goes on in the same step. -/
def Obligations.ClaimsAreGrantedInOrder : Prop :=
  (∀ (v : VendCtx) (units : Nat) (s : State), s.mgt.mode ≠ .safe → s.vnd.ctx = some v →
     (∀ c ∈ s.lds.claims, c.guarding = false ∧ c.kind ≠ .coilCheck ∧ (c.kind = .vend → c.units = units)) →
     (∃ c ∈ s.lds.claims, c.kind = .vend) → units + unitsGranted s ≤ 4 →
     let t := evaluateClaims s
     t.vnd.ctx = some { v with stage := .turn1 } ∧ t.lds.vendUnits = units ∧ (∀ c ∈ t.lds.claims, c.kind ≠ .vend) ∧
     t.spd = { s.spd with
       rowOn := some v.tray
       colsOn := v.col :: v.partner.toList
       turn := some
         { selection := v.selection, tray := v.tray, start := s.now, completed := none, dropSeen := false
           motors := (v.col :: v.partner.toList).map fun c =>
             { col := c, opened := tget s.spd.camOpen false (v.tray * 10 + c), stop := .running, openTested := false } } }) ∧
  (∀ (c : Claim) (s : State), c ∈ s.lds.claims → c.kind = .compressor → c.guarding = false → c.units = 4 →
     (∀ k ∈ s.lds.claims, (k.kind = .compressor → k = c) ∧ (k.kind ≠ .compressor → k.guarding = false)) →
     0 < unitsGranted s →
     ∃ t, exec .starvationGuard s = .next t ∧ t.now = max s.now (c.filed + seconds 60) ∧ ChangesOnly [.now, .lds] s t ∧
       t.lds = { s.lds with claims := t.lds.claims } ∧
       t.lds.claims = s.lds.claims.map (fun k => if k.kind = .compressor then { k with guarding := true } else k) ∧
       evaluateClaims t = t) ∧
  (∀ s : State,
     let fits (c : Claim) : Prop := c.units ≤ 4 - unitsGranted s
     let place (c : Claim) : Nat := [ClaimKind.vend, .payout, .coilCheck, .compressor].idxOf c.kind
     (s.mgt.mode = .safe → evaluateClaims s = s) ∧
     ((∀ k ∈ s.lds.claims, ¬fits k) → evaluateClaims s = s) ∧
     (∀ c ∈ s.lds.claims, s.mgt.mode ≠ .safe → (∀ k ∈ s.lds.claims, k.kind = c.kind → k = c) →
       ((∀ k ∈ s.lds.claims, k.guarding = false) → fits c → (∀ k ∈ s.lds.claims, place k < place c → ¬fits k) →
         evaluateClaims s = evaluateClaims (grantClaim c s)) ∧
       (c.guarding = true → (∀ k ∈ s.lds.claims, k.guarding = true → k = c) →
         (fits c → evaluateClaims s = evaluateClaims (grantClaim c s)) ∧ (¬fits c → evaluateClaims s = s)))) ∧
  (∀ (c : Claim) (s : State),
     let t := grantClaim c s
     t.lds.claims = s.lds.claims.filter (fun k => k.kind != c.kind) ∧
     (∀ w, c.kind = .coilCheck → s.spd.sweep = some w → t.lds.coilUnits = 1 ∧ ChangesOnly [.lds, .spd] s t ∧
       t.spd = { s.spd with
         sweep := some { w with check := .energized s.now }, rowOn := some w.cursorTray, colsOn := [w.cursorCol] }) ∧
     (c.kind = .compressor → t.lds.compUnits = 4 ∧ t.clg.contactor = true ∧ t.clg.startedAt = s.now ∧
       t.clg.comp = (if s.clg.comp = .blindOn then .blindOn else .start) ∧ ChangesOnly [.lds, .clg, .rpq] s t))

/-- R17, R18, R19, R21, R54: VEND CANCEL is taken while the vend waits. A vend that no reader is told of ends at once: its grant
and claim go back, its VEND_RESULT is queued, and no money is lost: what was held returns to the credit or goes into a CHANGE
payout.
R105, R106: a CARD vend stands in SETTLING with outcome CANCELLED, its session VENDING, and the VEND RESULT FAIL owed and handed to
a reader that is PRESENT; with no session it ends at once, the reader not informed. -/
def Obligations.VendCancelEndsAWaitingVend : Prop :=
  ∀ (src : Byte) (s : State), Deliverable s → ∃ t, exec (.vendCancel src []) s = .next t ∧
    match s.vnd.ctx with
    | none => RefusedWith src 0x13 .noVend s t
    | some v =>
      if v.stage ≠ .approvalWait ∧ v.stage ≠ .loadWait then RefusedWith src 0x13 .tooLate s t
      else
        Answered src 0x13 (okAnswer []) s t ∧
        (v.outcome = none → v.payment ≠ .card →
          (if s.chg.payout.isSome then 2 else 1) ≤ s.rpq.reserved →
          t.vnd.ctx = none ∧ t.lds.vendUnits = 0 ∧ (∀ c ∈ t.lds.claims, c.kind ≠ .vend) ∧ t.sel.table = s.sel.table ∧
          .event (.vendResult v.selection v.payment .cancelled v.price none none) ∈ t.rpq.queue ∧
          (s.csh.credit + heldPrice s + moneyOwed s ≤ 65535 →
            t.csh.credit + heldPrice t + moneyOwed t = s.csh.credit + heldPrice s + moneyOwed s)) ∧
        (v.outcome = none → v.payment = .card →
          (s.crd.state = .approvalWait ∨ s.crd.state = .vending →
            ∀ n r, entryOf .card s = some (n, r) → r.presence = .present → s.dlk.own.length < 3 →
            t.vnd.ctx = some { v with stage := .settling, outcome := some .cancelled } ∧
            t.crd = { s.crd with
              state := .vending
              deadline := none
              owed := some { success := false, price := v.price, selection := v.selection, vendLink := true } } ∧
            (s.crd.state = .approvalWait → Reported .cardSession t) ∧
            ⟨r.base, .vendResult false v.price v.selection⟩ ∈ t.dlk.own) ∧
          (s.crd.state = .none → v.slots = 1 → s.chg.payout = none → 1 ≤ s.rpq.reserved →
            t.vnd.ctx = none ∧ t.crd = s.crd ∧
            .event (.vendResult v.selection .card .cancelled v.price (some false) none) ∈ t.rpq.queue) ∧
          t.lds.vendUnits = 0 ∧ (∀ c ∈ t.lds.claims, c.kind ≠ .vend) ∧ t.sel.table = s.sel.table ∧
          t.csh.audit = s.csh.audit ∧ (s.chg.payout = none → v.slots = 1 → t.csh.credit = s.csh.credit)) ∧
        ChangesOnly (.ulk :: Block.settlement) s t

/-- R15, R16: what a turn report leads to. Only a first turn that completes without a drop, of a selection that allows a second
turn and is not held, leads to TURN_2.
R18: the outcome of a vend on its selection entry, and nothing of the entry but its state, stock, no-drop run and sales. -/
def Obligations.OutcomesMarkTheSelection : Prop :=
  (∀ (s : State) (v : VendCtx) (r : TurnResult) (drop : Bool),
     turnOutcome s v r drop =
       if drop then some .success
       else if r = .jam then some .jammed
       else if r = .motorOpen then some .motorOpen
       else if v.stage ≠ .turn2 ∧ (selOf s v.selection).secondTurn = true ∧
           ¬((selOf s v.selection).chilled = true ∧ (selOf s v.selection).perishable = true ∧ s.clg.hold = true) then none
       else some .noDrop) ∧
  (∀ (o : VendOutcome) (jam : Bool) (v : VendCtx) (e : Selection),
     let n := outcomeEntry o jam v e
     let delivered := o = .success ∨ (o = .interrupted ∧ v.dropSeen = true)
     n = { e with state := n.state, stock := n.stock, noDropRun := n.noDropRun, sales := n.sales } ∧
     (delivered → n.stock = e.stock.map (· - 1) ∧ n.noDropRun = 0 ∧ n.sales = min 65535 (e.sales + 1) ∧
       n.state = if o = .success ∧ jam = true then .jammed else e.state) ∧
     (¬delivered → n.stock = e.stock ∧ n.sales = e.sales) ∧
     (o = .noDrop → n.noDropRun = min 2 (e.noDropRun + 1) ∧ n.state = if 1 ≤ e.noDropRun then .emptySuspect else e.state) ∧
     (o = .jammed → n.noDropRun = e.noDropRun ∧ n.state = .jammed) ∧
     (¬delivered → o ≠ .noDrop → o ≠ .jammed → n = e))

/-! ## Turns and drops -/

/-- R29, R30, R33, R35, R36: a cam change at a running motor. An opening is recorded; a close after an opening stops the motor,
and the last motor's close completes the turn, stores OK for each motor and switches the drivers off. That it does so for a motor
whose open test is not decided is the model's reading (log entry 46). -/
def Obligations.CamChangesStopTheMotors : Prop :=
  ∀ (tray : Fin 8) (col : Fin 10) (t0 : Turn) (m : Motor) (s : State),
    s.spd.turn = some t0 → t0.completed = none → t0.tray = tray → t0.motorAt col = some m → m.stop = .running →
    (∃ t, exec (.camChange tray col false) s = .next t ∧ ChangesOnly [.spd] s t ∧
      t.spd = { s.spd with
        camOpen := tset s.spd.camOpen (tray * 10 + col) true
        turn := some { t0 with motors := t0.motors.map fun n => if n.col = col.val then { n with opened := true } else n } }) ∧
    (m.opened = false → exec (.camChange tray col true) s =
      .next { s with spd := { s.spd with camOpen := tset s.spd.camOpen (tray * 10 + col) false } }) ∧
    (m.opened = true → (∃ n ∈ t0.motors, n.col ≠ col.val ∧ n.stop = .running) →
      ∃ t, exec (.camChange tray col true) s = .next t ∧ ChangesOnly [.spd] s t ∧
        t.spd.turn = some { t0 with motors := t0.motors.map fun n => if n.col = col.val then { n with stop := .normal } else n } ∧
        t.spd.colsOn = s.spd.colsOn.filter (· != col.val)) ∧
    (m.opened = true → (∀ n ∈ t0.motors, n.col ≠ col.val → n.stop = .normal) →
      ∃ t, exec (.camChange tray col true) s = .next t ∧ t.spd.rowOn = none ∧ t.spd.colsOn = [] ∧
        (∃ u, t.spd.turn = some u ∧ u.completed = some (.complete, s.now) ∧ u.dropSeen = t0.dropSeen) ∧
        (∀ n ∈ t0.motors, n.col < 10 → healthAt t tray n.col = .ok) ∧ t.now = s.now ∧ t.vnd = s.vnd ∧
        t.sel.table = s.sel.table ∧ ChangesOnly (.spd :: Block.sales) s t)

/-- R33 to R36: the faults of a running motor complete the turn with their result and store their finding: stuck at home and no
home after a cam opening JAM without a finding, open MOTOR_OPEN with OPEN, short JAM with SHORTED, jam current JAM without a
finding. Each is taken at the later of now and its due time (log entry 1); those of stuck at home, no home and the open test are
the rules', and that of MOTOR_JAM, the earliest end of a run of samples, is the model's choice (log entry 13). -/
def Obligations.MotorFaultsEndTheTurn : Prop :=
  ∀ (col : Fin 10) (sample : Nat) (t0 : Turn) (m : Motor) (s : State),
    s.spd.turn = some t0 → t0.completed = none → t0.tray < 8 → t0.motorAt col = some m → m.stop = .running →
    (∀ n ∈ t0.motors, n.col = col.val → n = m) →
    let ends (i : Instr) (due : Time) (r : TurnResult) (finding : Option Health) : Prop :=
      ∃ t, exec i s = .next t ∧ t.now = max s.now due ∧ t.spd.rowOn = none ∧ t.spd.colsOn = [] ∧
        (∃ u, t.spd.turn = some u ∧ u.completed = some (r, t.now) ∧ u.dropSeen = t0.dropSeen ∧
          ∀ n ∈ u.motors, n.stop ≠ .running) ∧
        healthAt t t0.tray col = finding.getD (healthAt s t0.tray col) ∧ t.vnd = s.vnd ∧ t.sel.table = s.sel.table ∧
        ChangesOnly (.now :: .spd :: Block.sales) s t
    (m.opened = false → ends (.stuckAtHome col) (t0.start + ms 800) .jam none) ∧
    (m.opened = true → ends (.noHome col) (t0.start + ms 6000) .jam none) ∧
    (m.openTested = false → sample < 40 →
      ends (.openTest col sample) (t0.start + ms 100) .motorOpen (some .opened)) ∧
    (m.openTested = false → 40 ≤ sample → ∃ t, exec (.openTest col sample) s = .next t ∧ ChangesOnly [.now, .spd] s t ∧
      t.now = max s.now (t0.start + ms 100) ∧ t.spd = { s.spd with turn := t.spd.turn } ∧
      ∃ u, t.spd.turn = some u ∧ u.motorAt col = some { m with openTested := true }) ∧
    (3000 < sample → ends (.motorShort col sample) 0 .jam (some .shorted)) ∧
    (s.spd.jamThreshold < sample → ends (.motorJam col sample) (t0.start + ms 200) .jam none)

/-- R15, R16, R18, R19, R39, R40: the close of the drop window of a first or a second turn. A drop is a SUCCESS whatever the turn
reported: the price is counted, stock falls and sales rise; a complete first turn without a drop that may turn again enters
TURN_2; otherwise a CASH price returns. The close is taken at the later of now and its due time (log entry 1).
That an ENABLE which the settlement causes stands before its VEND RESULT is the model's choice (log entry 6).
R106, R107: a CARD vend waits in SETTLING for the VEND RESULT that its session then owes the reader, and the end of that frame's
exchange ends the vend, its VEND_RESULT saying whether the reader was informed. -/
def Obligations.ClosedWindowsDecideTheVend : Prop :=
  (∀ (w : Turn) (r : TurnResult) (at1 : Time) (v : VendCtx) (s : State),
     s.spd.turn = some w → w.completed = some (r, at1) → s.vnd.ctx = some v → v.selection < 80 →
     v.stage = .turn1 ∨ v.stage = .turn2 → v.outcome = none →
     ∃ t, exec .dropWindowClose s = .next t ∧ t.now = max s.now (at1 + ms 1500) ∧
       t.spd.lateDrop = some (w.selection, t.now) ∧
       (v.payment ≠ .card → (if s.chg.payout.isSome then 2 else 1) ≤ s.rpq.reserved → w.dropSeen = true →
         t.spd.turn = none ∧ t.vnd.ctx = none ∧ t.lds.vendUnits = 0 ∧
         selOf t v.selection = outcomeEntry .success (decide (r = .jam)) v (selOf s v.selection) ∧
         (v.payment = .cash → t.csh.audit.cashVended = min 4294967295 (s.csh.audit.cashVended + v.price)) ∧
         (v.payment = .free → t.csh.audit.freeVends = min 4294967295 (s.csh.audit.freeVends + 1)) ∧
         .event (.vendResult v.selection v.payment .success v.price none none) ∈ t.rpq.queue) ∧
       (v.payment ≠ .card → (if s.chg.payout.isSome then 2 else 1) ≤ s.rpq.reserved →
         ∀ o, turnOutcome s v r w.dropSeen = some o → w.dropSeen = false →
         t.spd.turn = none ∧ t.vnd.ctx = none ∧ selOf t v.selection = outcomeEntry o false v (selOf s v.selection) ∧
         .event (.vendResult v.selection v.payment o v.price none none) ∈ t.rpq.queue ∧
         (s.csh.credit + heldPrice s + moneyOwed s ≤ 65535 →
           t.csh.credit + heldPrice t + moneyOwed t = s.csh.credit + heldPrice s + moneyOwed s)) ∧
       (∀ n rt o, v.payment = .card → s.crd.state = .vending → entryOf .card s = some (n, rt) → rt.presence = .present →
         s.dlk.own.length < 3 → turnOutcome s v r w.dropSeen = some o →
         t.spd.turn = none ∧ t.lds.vendUnits = 0 ∧
         t.vnd.ctx = some { v with dropSeen := v.dropSeen || w.dropSeen, stage := .settling, outcome := some o } ∧
         t.crd = { s.crd with
           deadline := none
           owed := some { success := decide (o = .success), price := v.price, selection := v.selection, vendLink := true } } ∧
         t.dlk.own.getLast? = some ⟨rt.base, .vendResult (decide (o = .success)) v.price v.selection⟩ ∧
         selOf t v.selection = outcomeEntry o (decide (r = .jam)) v (selOf s v.selection) ∧
         t.csh.audit = (if o = .success then
             { s.csh.audit with cardVended := min 4294967295 (s.csh.audit.cardVended + v.price) } else s.csh.audit) ∧
         (s.chg.payout = none → t.csh.credit = s.csh.credit)) ∧
       (turnOutcome s v r w.dropSeen = none → t.vnd.ctx = some { v with stage := .turn2 } ∧
         (∃ u, t.spd.turn = some u ∧ u.completed = none ∧ u.start = t.now ∧ u.selection = v.selection ∧ u.dropSeen = false) ∧
         t.spd.rowOn = some v.tray ∧ t.spd.colsOn = v.col :: v.partner.toList ∧ t.csh = s.csh ∧ t.rpq = s.rpq ∧
         t.sel = s.sel)) ∧
  (∀ (acked : Bool) (node : Nat) (q : ResultOwed) (o : VendOutcome) (v : VendCtx) (s : State),
     s.crd.owed = some q → q.vendLink = true → s.vnd.ctx = some v → v.outcome = some o → v.payment = .card → v.slots = 1 →
     1 ≤ s.rpq.reserved →
     let t := ownFrameEnds acked ⟨node, .vendResult q.success q.price q.selection⟩ s
     let closed := { s.crd with state := .none, funds := none, deadline := none, owed := none, closePending := false }
     t.vnd.ctx = none ∧ t.sel.table = s.sel.table ∧ t.csh.audit = s.csh.audit ∧
     .event (.vendResult v.selection .card o v.price (some acked) (if o = .interrupted then some v.dropSeen else none)) ∈
       t.rpq.queue ∧
     (s.crd.closePending = true → t.crd = closed) ∧
     (s.crd.closePending = false → s.mgt.mode = .online →
       t.crd = { s.crd with state := .opened, deadline := none, owed := none }) ∧
     (s.crd.closePending = false → s.mgt.mode ≠ .online → t.crd = closed ∧
       ∀ n rt, entryOf .card s = some (n, rt) → rt.presence = .present → s.dlk.own.length < 3 →
         ⟨rt.base, .sessionEnd⟩ ∈ t.dlk.own))

/-- R38, R63, R65, R91, R131: the line events that only record a level, and the timed ends of the escrow record and of the grace
window.
R38, R39, R41: a drop goes to the open window; outside any window, within 10 s of the last close, it is counted as late and
reported. What has a due time is taken at the later of now and that time (log entry 1). -/
def Obligations.LevelsAndDropsAreRecorded : Prop :=
  (∀ s : State,
     exec .leverRelease s = .next { s with csh := { s.csh with leverPressed := false } } ∧
     exec .dropCurtainClear s = .next { s with spd := { s.spd with dropActive := false, dropInactiveSince := s.now } } ∧
     exec .payoutSensorInactive s =
       .next { s with chg := { s.chg with sensorActive := false, sensorInactiveSince := s.now } } ∧
     (∀ g, s.clg.grace = some g → exec .graceWindowEnd s =
       .next { s with now := max s.now g.closeAt, clg := { s.clg with grace := none } }) ∧
     (∀ e, s.csh.escrow = some e → ∃ t, exec .escrowExpiry s = .next t ∧ t.now = max s.now (e.decidedAt + seconds 10) ∧
       t.csh.escrow = none ∧ SameAccount { s with csh := { s.csh with escrow := none } } t ∧
       ChangesOnly (.now :: Block.cash) s t ∧ SameLink s t)) ∧
  (∀ s : State, s.spd.dropActive = false → ∃ t, exec .dropEvent s = .next t ∧
     t.now = max s.now (s.spd.dropInactiveSince + ms 20) ∧ t.spd.dropActive = true ∧ ChangesOnly [.now, .spd, .rpq] s t ∧
     (∀ w, s.spd.turn = some w → t.spd.turn = some { w with dropSeen := true } ∧ t.spd.lateCounts = s.spd.lateCounts) ∧
     (∀ i close, s.spd.turn = none → s.spd.lateDrop = some (i, close) → t.now ≤ close + seconds 10 → i < 80 →
       tget t.spd.lateCounts 0 i = min 255 (tget s.spd.lateCounts 0 i + 1) ∧ Reported (.lateDrop i) t ∧
         ∀ j, j ≠ i → tget t.spd.lateCounts 0 j = tget s.spd.lateCounts 0 j) ∧
     (∀ i close, s.spd.turn = none → s.spd.lateDrop = some (i, close) → close + seconds 10 < t.now →
       t.spd.lateCounts = s.spd.lateCounts ∧ t.rpq = s.rpq))

/-! ## The sweep -/

/-- R43, R44: SWEEP's checks in their order; a SWEEP that passes is answered with its first position, and its context begins
there, PAUSED while a vend context exists, before its walk.
R47: SWEEP STOP is answered OK in every mode; an existing sweep ends STOPPED with its counts so far, and its check in progress
ends without a result. Without a sweep nothing changes but the answer, and what an evaluation of the waiting claims still grants.
That the evaluation follows SWEEP_DONE is the model's choice (log entry 6). -/
def Obligations.SweepsBeginAndStop : Prop :=
  (∀ (src t0 t1 c0 c1 order rt rc : Byte) (s : State), Deliverable s →
     ∃ u t, exec (.sweep src [t0, t1, c0, c1, order, rt, rc]) s = .next t ∧
       if 1 < order.toNat ∨ 1 < rt.toNat ∨ 1 < rc.toNat then RefusedWith src 0x13 .badValue s t
       else if s.mgt.mode ≠ .setup ∧ s.mgt.mode ≠ .service then RefusedWith src 0x13 .wrongMode s t
       else if s.spd.sweep.isSome then RefusedWith src 0x13 .busy s t
       else if 7 < t1.toNat ∨ 9 < c1.toNat ∨ t1.toNat < t0.toNat ∨ c1.toNat < c0.toNat then RefusedWith src 0x13 .badValue s t
       else if 32 ≤ s.rpq.queue.length + s.rpq.reserved then RefusedWith src 0x13 .queueFull s t
       else
         let tray := if rt = 1 then t1 else t0
         let col := if rc = 1 then c1 else c0
         AnsweredAfter src 0x13 (okAnswer [tray, col]) s (evaluateClaims (sweepWalk u)) t ∧
         u.spd = { s.spd with sweep := u.spd.sweep } ∧ u.spd.sweep = some
           { trayFirst := t0.toNat, trayLast := t1.toNat, colFirst := c0.toNat, colLast := c1.toNat, columnsFirst := order == 1,
             revTrays := rt == 1, revCols := rc == 1, cursorTray := tray.toNat, cursorCol := col.toNat,
             paused := s.vnd.ctx.isSome, check := .none, okCount := 0, openCount := 0, shortCount := 0, lastChecked := none } ∧
         u.rpq = { s.rpq with reserved := s.rpq.reserved + 1 } ∧ ChangesOnly [.ulk, .spd, .rpq] s u) ∧
  (∀ (src : Byte) (s : State), Deliverable s → ∃ u t, exec (.sweepStop src []) s = .next t ∧
     AnsweredAfter src 0x13 (okAnswer []) s (evaluateClaims u) t ∧
     match s.spd.sweep with
     | none => ChangesOnly [.ulk] s u ∧ (s.lds.claims = [] → ChangesOnly [.ulk] s t)
     | some w =>
       u.spd.sweep = none ∧ (∀ c ∈ u.lds.claims, w.check = .claimed → c.kind ≠ .coilCheck) ∧
       (∀ since, w.check = .energized since → u.spd.rowOn = none ∧ u.spd.colsOn = [] ∧ u.lds.coilUnits = 0) ∧
       (1 ≤ s.rpq.reserved → u.rpq = { s.rpq with
         queue := s.rpq.queue ++ [.event (.sweepDone true w.lastChecked w.okCount w.openCount w.shortCount)]
         reserved := s.rpq.reserved - 1 }) ∧
       ChangesOnly [.ulk, .spd, .lds, .rpq] s u)

/-- R45, R36: a coil check ends with a health by its largest sample (OPEN below 40 mA, SHORTED above 3,000 mA at once, OK
otherwise): the drivers go off and the unit is released, so that afterwards they are on and granted for the sweep's next check
alone; the position's health is stored, and the sweep has counted and passed it. After the last position SWEEP_DONE tells the
counts. The check ends at the later of now and its 50 ms (log entry 1). -/
def Obligations.CoilChecksFindTheHealth : Prop :=
  ∀ (w : Sweep) (since sample : Nat) (s : State), s.spd.sweep = some w → w.check = .energized since → s.lds.claims = [] →
    w.paused = false → w.cursorTray ≤ 7 → w.cursorCol ≤ 9 →
    let atEnd : Prop := w.cursorTray = (if w.revTrays then w.trayFirst else w.trayLast) ∧
      w.cursorCol = (if w.revCols then w.colFirst else w.colLast)
    let driven (t : State) : Prop :=
      (∀ w' at1, t.spd.sweep = some w' → w'.check = .energized at1 → at1 = t.now ∧ t.spd.rowOn = some w'.cursorTray ∧
        t.spd.colsOn = [w'.cursorCol] ∧ t.lds.coilUnits = 1) ∧
      ((∀ w' at1, t.spd.sweep = some w' → w'.check ≠ .energized at1) →
        t.spd.rowOn = none ∧ t.spd.colsOn = [] ∧ t.lds.coilUnits = 0)
    let done (t : State) (ok op short : Nat) : Prop := atEnd → t.spd.sweep = none ∧ (1 ≤ s.rpq.reserved →
      .event (.sweepDone false (some (w.cursorTray * 10 + w.cursorCol)) ok op short) ∈ t.rpq.queue)
    (sample ≤ 3000 → ∃ t, exec (.coilCheckEnd sample) s = .next t ∧ t.now = max s.now (since + ms 50) ∧
      healthAt t w.cursorTray w.cursorCol = (if sample < 40 then .opened else .ok) ∧
      (∀ w', t.spd.sweep = some w' → w'.lastChecked = some (w.cursorTray * 10 + w.cursorCol) ∧
        w'.okCount = w.okCount + (if sample < 40 then 0 else 1) ∧ w'.openCount = w.openCount + (if sample < 40 then 1 else 0) ∧
        w'.shortCount = w.shortCount) ∧
      driven t ∧ done t (w.okCount + (if sample < 40 then 0 else 1)) (w.openCount + (if sample < 40 then 1 else 0)) w.shortCount ∧
      (∀ j, j ≠ w.cursorTray * 10 + w.cursorCol → tget t.spd.health .unknown j = tget s.spd.health .unknown j) ∧
      t.sel.table = s.sel.table ∧ t.csh.credit = s.csh.credit ∧ t.chg = s.chg ∧ t.mgt = s.mgt) ∧
    (3000 < sample → ∃ t, exec (.coilCheckShort sample) s = .next t ∧ t.now = s.now ∧
      healthAt t w.cursorTray w.cursorCol = .shorted ∧
      (∀ w', t.spd.sweep = some w' → w'.shortCount = w.shortCount + 1 ∧ w'.okCount = w.okCount ∧
        w'.openCount = w.openCount) ∧
      driven t ∧ done t w.okCount w.openCount (w.shortCount + 1) ∧
      (∀ j, j ≠ w.cursorTray * 10 + w.cursorCol → tget t.spd.health .unknown j = tget s.spd.health .unknown j) ∧
      t.sel.table = s.sel.table ∧ t.csh.credit = s.csh.credit ∧ t.chg = s.chg ∧ t.mgt = s.mgt)

/-! ## Money in -/

/-- R59 to R62, R54, R77: a coin reported by class. ONLINE accepts it for credit when it is enabled, no payout is in progress, the
limit allows it and it is change-safe; SERVICE takes it into its tube; every other coin is returned with the gate closed. A coin
goes to the tube its class routes to, where that tube is in use (log entry 24) and not full, and else to the cashbox. The gate's
500 ms is taken at the later of now and its due time (log entry 1). -/
def Obligations.CoinsAreAcceptedOrReturned : Prop :=
  ∀ (i : Fin 16) (s : State),
    let c := coinOf s i
    let routed : Option Nat := c.route.filter fun k =>
      decide ((tubeOf s k).denom ≠ 0 ∧ (tubeOf s k).count < (tubeOf s k).capacity) && !(tubeOf s k).fullCovered
    let filled (k : Nat) : Tube := { tubeOf s k with
      count := (tubeOf s k).count + 1
      state := if (tubeOf s k).state = .empty then .ok else (tubeOf s k).state }
    (s.mgt.mode = .online → c.enabled = true → s.chg.payout = none → committed s + c.value ≤ s.csh.creditLimit →
      tget s.csh.coinSafe false i = true → s.csh.creditLimit ≤ 65535 →
      ∃ t, exec (.classReport (some i)) s = .next t ∧ t.csh.credit = s.csh.credit + c.value ∧
        t.csh.audit = { s.csh.audit with coinsIn := min 4294967295 (s.csh.audit.coinsIn + c.value) } ∧
        t.csh.gateOpen = true ∧ t.csh.gateSince = s.now ∧
        (t.csh.diverterTube = true ↔ ∃ k, routed = some k) ∧
        (∀ k, routed = some k → tubeOf t k = filled k) ∧
        (∀ j, routed ≠ some j → tubeOf t j = tubeOf s j) ∧
        (0 < c.value → Reported .credit t) ∧ ChangesOnly [.csh, .chg, .dlk, .rpq] s t) ∧
    (s.mgt.mode = .service → ∀ k, routed = some k → c.value = (tubeOf s k).denom → s.chg.payout = none →
      ∃ t, exec (.classReport (some i)) s = .next t ∧ t.csh.credit = s.csh.credit ∧
        t.csh.audit = { s.csh.audit with serviceFill := min 4294967295 (s.csh.audit.serviceFill + c.value) } ∧
        t.csh.gateOpen = true ∧ t.csh.diverterTube = true ∧ tubeOf t k = filled k ∧
        ChangesOnly [.csh, .chg, .dlk, .rpq] s t) ∧
    ((s.mgt.mode = .setup ∨ s.mgt.mode = .safe ∨ s.chg.payout.isSome ∨ (s.mgt.mode = .online ∧
        (c.enabled = false ∨ s.csh.creditLimit < committed s + c.value ∨ tget s.csh.coinSafe false i = false)) ∨
        (s.mgt.mode = .service ∧ ∀ k, routed = some k → c.value ≠ (tubeOf s k).denom)) →
      exec (.classReport (some i)) s = .next { s with csh := { s.csh with gateOpen := false } }) ∧
    exec (.classReport none) s = .next { s with csh := { s.csh with gateOpen := false } } ∧
    exec .clearReport s = .next { s with csh := { s.csh with gateOpen := false } } ∧
    (s.csh.gateOpen = true → exec .gateTimeout s =
      .next { s with now := max s.now (s.csh.gateSince + ms 500), csh := { s.csh with gateOpen := false } })

/-- R64 to R67: a bill in escrow is decided and recorded, its ESCROW ACTION handed to a BILL node that is PRESENT; a stacked bill
is credited within the end of the credit's range, reported and counted, an unexpected one as an anomaly; a returned bill ends the record. -/
def Obligations.BillsAreDecidedAndCredited : Prop :=
  ∀ (node c : Nat) (s : State),
    (∀ n r, entryOf .bill s = some (n, r) → r.presence = .present → s.dlk.own.length < 4 →
      let stack := decide (s.mgt.mode = .online ∧ (billOf s c).enabled = true ∧ tget s.csh.hostMask false c = true ∧
        s.chg.payout = none ∧ committed s + (billOf s c).value ≤ s.csh.creditLimit ∧ tget s.csh.billSafe false c = true)
      let t := takeEvent node (.billEscrow c) s
      t.csh.escrow = some { cls := c, stack := stack, decidedAt := s.now, number := s.csh.escrowNumber + 1 } ∧
      ⟨r.base, .escrowAction c stack (s.csh.escrowNumber + 1)⟩ ∈ t.dlk.own ∧
      SameAccount { s with csh := { s.csh with
        escrow := t.csh.escrow, escrowNumber := s.csh.escrowNumber + 1 } } t ∧ ChangesOnly Block.cash s t) ∧
    (c < 8 → s.csh.credit ≤ 65535 →
      let t := takeEvent node (.billStacked c) s
      let paid := min (billOf s c).value (65535 - s.csh.credit)
      t.csh.credit = s.csh.credit + paid ∧ t.csh.audit.billsIn = min 4294967295 (s.csh.audit.billsIn + paid) ∧
      Reported .credit t ∧ t.csh.escrow = none ∧
      (s.csh.escrow.any (fun e => e.stack && e.cls == c) = true → t.csh.anomalies = s.csh.anomalies) ∧
      (s.csh.escrow.any (fun e => e.stack && e.cls == c) = false → node < 0x60 → 0x20 ≤ node →
        anomalyOf t node =
          { count := min 255 ((anomalyOf s node).count + 1), cls := c, uncredited := (billOf s c).value - paid } ∧
        Reported (.billAnomaly node) t) ∧
      ChangesOnly Block.cash s t) ∧
    ((takeEvent node .billReturned s).csh.escrow = none ∧ (takeEvent node .billReturned s).csh.credit = s.csh.credit ∧
      ChangesOnly Block.cash s (takeEvent node .billReturned s))

/-- R99, R102, R104, R108: SESSION OPEN, APPROVED, DENIED and SESSION CLOSE, taken by CRD in every state of the session.
R103, R12: the approval deadline ends the vend DENIED without informing the reader, and a VEND RESULT FAIL is owed to the reader.
It is taken at the later of now and its due time (log entry 1).
R101: an approval request that ends without acknowledgement denies the vend, also where an earlier vend made it: the model's
reading (log entry 36). R109: the loss of the reader.
R110: a session that would be OPEN outside ONLINE is ended with a SESSION END. -/
def Obligations.CardEventsMoveTheSession : Prop :=
  (∀ (node : Nat) (s : State),
     let closed := { s.crd with state := .none, funds := none, deadline := none, owed := none, closePending := false }
     let ended (t : State) : Prop := ∀ n r, entryOf .card s = some (n, r) → r.presence = .present → s.dlk.own.length < 3 →
       ⟨r.base, .sessionEnd⟩ ∈ t.dlk.own
     let waits (v : VendCtx) : Prop := s.crd.state = .approvalWait ∧ s.vnd.ctx = some v ∧ v.payment = .card ∧ v.slots = 1 ∧
       s.chg.payout = none ∧ 1 ≤ s.rpq.reserved
     let denied (v : VendCtx) (informed : Bool) (t : State) : Prop :=
       t.vnd.ctx = none ∧ t.csh.credit = s.csh.credit ∧ t.csh.audit = s.csh.audit ∧ t.sel.table = s.sel.table ∧
         .event (.vendResult v.selection .card .denied v.price (some informed) none) ∈ t.rpq.queue
     let reopens (t : State) : Prop :=
       (s.mgt.mode = .online → t.crd = { s.crd with state := .opened, deadline := none, owed := none }) ∧
       (s.mgt.mode ≠ .online → t.crd = closed ∧ ended t)
     (∀ funds,
       let t := takeEvent node (.sessionOpen funds) s
       (s.crd.state = .none → s.mgt.mode = .online →
         t.crd = { s.crd with state := .opened, funds := funds } ∧ Reported .cardSession t ∧ ChangesOnly [.crd, .rpq] s t) ∧
       (s.crd.state = .none → s.mgt.mode ≠ .online → t.crd = s.crd ∧ SameLink s t ∧ ChangesOnly [.dlk] s t ∧
         ∀ n r, entryOf .card s = some (n, r) → r.presence = .present → s.dlk.own.length < 4 →
           t.dlk.own = s.dlk.own ++ [⟨r.base, .sessionEnd⟩]) ∧
       (s.crd.state = .opened ∨ s.crd.state = .approvalWait →
         t.crd = { s.crd with funds := funds } ∧ (funds ≠ s.crd.funds → Reported .cardSession t) ∧
         ChangesOnly [.crd, .rpq] s t) ∧
       (s.crd.state = .vending →
         t.crd = { s.crd with funds := funds, closePending := false } ∧ (funds ≠ s.crd.funds → Reported .cardSession t) ∧
         ChangesOnly [.crd, .rpq] s t)) ∧
     (∀ v i price amount, s.crd.state = .approvalWait → s.vnd.ctx = some v → s.crd.lastRequest = some (i, price) →
       price ≤ amount →
       let t := takeEvent node (.approved amount) s
       t.crd = { s.crd with state := .vending, deadline := none } ∧ Reported .cardSession t ∧
       (s.mgt.mode = .safe → t.vnd.ctx = some { v with stage := .loadWait } ∧ t.lds = s.lds) ∧
       (s.mgt.mode ≠ .safe →
         ∃ v', t.vnd.ctx = some v' ∧ v' = { v with stage := v'.stage } ∧ (v'.stage = .loadWait ∨ v'.stage = .turn1))) ∧
     (∀ v i price amount, waits v → s.crd.lastRequest = some (i, price) → amount < price →
       denied v true (takeEvent node (.approved amount) s) ∧ reopens (takeEvent node (.approved amount) s)) ∧
     (∀ v, waits v → denied v true (takeEvent node .denied s) ∧ reopens (takeEvent node .denied s)) ∧
     (∀ i price amount, s.crd.state = .opened → s.crd.lastRequest = some (i, price) →
       ∀ n r, entryOf .card s = some (n, r) → r.presence = .present → s.dlk.own.length < 4 →
       let t := takeEvent node (.approved amount) s
       t.crd = { s.crd with
         state := .vending
         deadline := none
         owed := some { success := false, price := price, selection := i, vendLink := false } } ∧
       t.dlk = { s.dlk with own := s.dlk.own ++ [⟨r.base, .vendResult false price i⟩] } ∧
       Reported .cardSession t ∧ ChangesOnly [.crd, .dlk, .rpq] s t) ∧
     (∀ amount, s.crd.state = .none ∨ s.crd.state = .vending ∨ (s.crd.state = .opened ∧ s.crd.lastRequest = none) →
       takeEvent node (.approved amount) s = s) ∧
     (s.crd.state ≠ .approvalWait → takeEvent node .denied s = s) ∧
     (s.crd.state = .none → takeEvent node .sessionClose s = s) ∧
     (s.crd.state = .opened → (takeEvent node .sessionClose s).crd = closed ∧
       Reported .cardSession (takeEvent node .sessionClose s) ∧
       ChangesOnly [.crd, .rpq] s (takeEvent node .sessionClose s)) ∧
     (∀ v, waits v → denied v false (takeEvent node .sessionClose s) ∧ (takeEvent node .sessionClose s).crd = closed) ∧
     (s.crd.state = .vending →
       takeEvent node .sessionClose s = { s with crd := { s.crd with closePending := true } }) ∧
     (∀ acked price i, acked = true ∨ s.crd.state ≠ .approvalWait →
       ownFrameEnds acked ⟨node, .approvalRequest price i⟩ s = s) ∧
     (∀ v price i, waits v → denied v false (ownFrameEnds false ⟨node, .approvalRequest price i⟩ s) ∧
       reopens (ownFrameEnds false ⟨node, .approvalRequest price i⟩ s)) ∧
     (s.crd.state = .none → readerLost s = s) ∧
     (s.crd.state = .opened ∨ (s.crd.state = .vending ∧ ∀ q, s.crd.owed = some q → q.vendLink = false) →
       (readerLost s).crd = closed ∧ Reported .cardSession (readerLost s) ∧ ChangesOnly [.crd, .rpq] s (readerLost s)) ∧
     (∀ v, waits v → denied v false (readerLost s) ∧ (readerLost s).crd = closed) ∧
     (∀ v o q, s.crd.state = .vending → s.crd.owed = some q → q.vendLink = true → s.vnd.ctx = some v → v.outcome = some o →
       v.payment = .card → v.slots = 1 → 1 ≤ s.rpq.reserved →
       (readerLost s).crd = closed ∧ (readerLost s).vnd.ctx = none ∧
       .event (.vendResult v.selection .card o v.price (some false) (if o = .interrupted then some v.dropSeen else none)) ∈
         (readerLost s).rpq.queue)) ∧
  (∀ (due : Time) (v : VendCtx) (i price n : Nat) (r : Route) (s : State),
     s.crd.state = .approvalWait → s.crd.deadline = some due → s.crd.lastRequest = some (i, price) → s.vnd.ctx = some v →
     v.payment = .card → v.slots = 1 → 1 ≤ s.rpq.reserved → s.chg.payout = none → s.dlk.own = [] →
     entryOf .card s = some (n, r) → r.presence = .present →
     ∃ t, exec .approvalDeadlineExpiry s = .next t ∧ t.now = max s.now due ∧ t.vnd.ctx = none ∧
       t.crd = { s.crd with
         state := .vending
         deadline := none
         owed := some { success := false, price := price, selection := i, vendLink := false } } ∧
       t.dlk.own.getLast? = some ⟨r.base, .vendResult false price i⟩ ∧
       .event (.vendResult v.selection .card .denied v.price (some false) none) ∈ t.rpq.queue ∧
       t.sel.table = s.sel.table ∧ t.csh.credit = s.csh.credit ∧ ChangesOnly (.now :: Block.settlement) s t)

/-! ## Money out -/

/-- R87, R88, R54: REFUND's checks in their order; a REFUND that passes moves the whole credit into a new payout context, reserves
a slot and files its claim, before LDS evaluates the claims.
R63, R88: a press of the coin return lever begins the same payout on the same conditions, and is recorded in every case. -/
def Obligations.RefundsMoveTheWholeCredit : Prop :=
  (∀ (src : Byte) (s : State), Deliverable s → ∃ u t, exec (.refund src []) s = .next t ∧
     if s.mgt.mode ≠ .online ∧ s.mgt.mode ≠ .service then RefusedWith src 0x13 .wrongMode s t
     else if s.csh.credit = 0 then RefusedWith src 0x13 .noCredit s t
     else if s.chg.payout.isSome then RefusedWith src 0x13 .payoutBusy s t
     else if s.vnd.ctx.any (fun v => v.payment = .cash) = true then RefusedWith src 0x13 .vendBusy s t
     else if 32 ≤ s.rpq.queue.length + s.rpq.reserved then RefusedWith src 0x13 .queueFull s t
     else
       AnsweredAfter src 0x13 (okAnswer (w2 s.csh.credit)) s (evaluateClaims u) t ∧
       u.chg = { s.chg with payout := u.chg.payout } ∧ u.chg.payout = some
         { source := .refund, form := .amount, requested := s.csh.credit, paying := false, plan := none, paid := 0, coins := [],
           replans := 0, tube := 0, pulse := none, window := none, jammed := false, cut := false } ∧
       SameAccount { s with csh := { s.csh with credit := 0 } } u ∧ u.rpq.reserved = s.rpq.reserved + 1 ∧
       Reported .credit u ∧ u.lds = { s.lds with claims := u.lds.claims } ∧
       u.lds.claims = s.lds.claims.filter (fun c => c.kind != .payout) ++ [⟨.payout, 1, s.now, false⟩] ∧
       ChangesOnly [.ulk, .csh, .chg, .lds, .dlk, .rpq] s u ∧ SameLink s u) ∧
  (∀ s : State, s.csh.leverPressed = false → ∃ u t, exec .leverPress s = .next t ∧ t.csh.leverPressed = true ∧
     if (s.mgt.mode = .online ∨ s.mgt.mode = .service) ∧ 0 < s.csh.credit ∧ s.chg.payout = none ∧
         s.vnd.ctx.any (fun v => v.payment = .cash) = false ∧ s.rpq.queue.length + s.rpq.reserved < 32 then
       t = evaluateClaims u ∧ (∃ p, u.chg = { s.chg with payout := some p } ∧ p.source = .refund ∧ p.form = .amount ∧
         p.requested = s.csh.credit ∧ p.paid = 0 ∧ p.paying = false) ∧
       u.csh.credit = 0 ∧ u.rpq.reserved = s.rpq.reserved + 1 ∧
       u.lds.claims.getLast? = some ⟨.payout, 1, s.now, false⟩ ∧
       ChangesOnly [.csh, .chg, .lds, .dlk, .rpq] s u
     else t = { s with csh := { s.csh with leverPressed := true } })

/-- R89: PAYOUT's checks in their order; a PAYOUT that passes opens a SERVICE payout, reserves a slot and files its claim. -/
def Obligations.ServicePayoutsBegin : Prop :=
  ∀ (src form a b : Byte) (s : State), Deliverable s → ∃ u t, exec (.payout src [form, a, b]) s = .next t ∧
    let amount := if form = 1 then b.toNat * (tubeOf s a.toNat).denom else a.toNat + 256 * b.toNat
    if form ≠ 0 ∧ form ≠ 1 then RefusedWith src 0x13 .badValue s t
    else if s.mgt.mode ≠ .service ∧ s.mgt.mode ≠ .setup then RefusedWith src 0x13 .wrongMode s t
    else if s.chg.payout.isSome then RefusedWith src 0x13 .payoutBusy s t
    else if form = 1 ∧ 6 ≤ a.toNat then RefusedWith src 0x13 .badIndex s t
    else if form = 1 ∧ ((tubeOf s a.toNat).denom = 0 ∨ (tubeOf s a.toNat).state = .jammed ∨ b.toNat = 0 ∨ 100 < b.toNat) then
      RefusedWith src 0x13 .badValue s t
    else if amount = 0 ∨ 65535 < amount then RefusedWith src 0x13 .badValue s t
    else if 32 ≤ s.rpq.queue.length + s.rpq.reserved then RefusedWith src 0x13 .queueFull s t
    else
      AnsweredAfter src 0x13 (okAnswer (w2 amount)) s (evaluateClaims u) t ∧
      (∃ p, u.chg = { s.chg with payout := some p } ∧ p.source = .service ∧
        p.form = (if form = 1 then .tube a.toNat else .amount) ∧ p.requested = amount ∧ p.paid = 0 ∧ p.paying = false ∧
        p.plan = none ∧ p.coins = [] ∧ p.replans = 0) ∧
      u.rpq = { s.rpq with reserved := s.rpq.reserved + 1 } ∧
      u.lds = { s.lds with claims := u.lds.claims } ∧
      u.lds.claims = s.lds.claims.filter (fun c => c.kind != .payout) ++ [⟨.payout, 1, s.now, false⟩] ∧
      ChangesOnly [.ulk, .chg, .lds, .rpq] s u

/-- R83, R84: an exact plan exists exactly when CSH and CHG say that it does: counts within each tube's availability and the coin
cap that sum to the amount. The used tubes stand in planner order, each with its availability.
R57, R58, R68, R71: the change-safe masks, the effective bill enable mask and the exact-change state, as their inputs give them: a
coin is tried with its own routing (an unused tube takes none, log entry 24), PURCHASE counts on the cheapest price, and a
requirement beyond 65,535 is never safe. A pending escrow counts with the value that the bill table holds now: the model's reading
(log entry 15). After reset the flags are what these rules give, and the rows and events that change
their inputs leave them so. -/
def Obligations.CanPayMeansAnExactPlan : Prop :=
  (∀ (ts : List PlanTube) (amount cap : Nat), (∀ u ∈ ts, 0 < u.denom) →
     (canPay ts amount cap = true ↔ ∃ ks : List Nat, ks.length = ts.length ∧ (∀ p ∈ ts.zip ks, p.2 ≤ p.1.avail) ∧
       ks.sum ≤ cap ∧ planSum ts ks = amount)) ∧
  (∀ (service : Bool) (tubes : Vector Tube 6),
     (planTubes service tubes).Pairwise (fun a b => b.denom < a.denom ∨ (a.denom = b.denom ∧ a.tube < b.tube)) ∧
     ∀ u, u ∈ planTubes service tubes ↔ ∃ i : Fin 6, 0 < tubes[i].denom ∧ u =
       { tube := i, denom := tubes[i].denom
         avail := if tubes[i].state ≠ .ok then 0 else if service then tubes[i].count else tubes[i].count - tubes[i].reserve }) ∧
  (∀ s : State,
     let c := s.csh.credit + heldPrice s + (match s.csh.escrow with
       | some e => if e.stack then (billOf s e.cls).value else 0
       | none => 0)
     let after (i : Nat) : Vector Tube 6 :=
       match (coinOf s i).route with
       | none => s.chg.tubes
       | some k =>
         if (tubeOf s k).denom = 0 ∨ (tubeOf s k).capacity ≤ (tubeOf s k).count ∨ (tubeOf s k).fullCovered = true then s.chg.tubes
         else tset s.chg.tubes k { tubeOf s k with
           count := (tubeOf s k).count + 1
           state := if (tubeOf s k).state = .empty then .ok else (tubeOf s k).state }
     let need (strict : Bool) (credit v : Nat) : Int := if strict then credit + v else credit + v - (s.sel.pMin.getD 0 : Nat)
     let safe (tubes : Vector Tube 6) (r : Int) : Prop := r ≤ 0 ∨ (r ≤ 65535 ∧ canPay (planTubes false tubes) r.toNat 100 = true)
     let largest (v : Nat) : Prop := (∀ j < 16, (coinOf s j).enabled = true → (coinOf s j).value ≤ v) ∧
       ∀ j < 8, (billOf s j).enabled = true → (billOf s j).value ≤ v
     (∀ i, coinSafeNow s i = true ↔ safe (after i) (need s.csh.strict c (coinOf s i).value)) ∧
     (∀ i, billSafeNow s i = true ↔ safe s.chg.tubes (need s.csh.strict c (billOf s i).value)) ∧
     (∀ i, effectiveFlag s i = true ↔ tget s.csh.hostMask false i = true ∧ (billOf s i).enabled = true ∧ s.mgt.mode = .online ∧
       c + (billOf s i).value ≤ s.csh.creditLimit ∧ billSafeNow s i = true) ∧
     (exactChangeNow s = true ↔
       (∃ i < 16, (coinOf s i).enabled = true ∧ largest (coinOf s i).value ∧
         ¬safe (after i) (need false 0 (coinOf s i).value)) ∨
       ∃ i < 8, (billOf s i).enabled = true ∧ largest (billOf s i).value ∧
         ¬safe s.chg.tubes (need false 0 (billOf s i).value))) ∧
  FlagsCurrent State.reset ∧
  (∀ (s t : State), FlagsCurrent s →
     (∀ src body, exec (.coinTableWrite src body) s = .next t ∨ exec (.billTableWrite src body) s = .next t ∨
       exec (.tubeTableWrite src body) s = .next t ∨ exec (.vendSettingsWrite src body) s = .next t ∨
       exec (.hostBillMask src body) s = .next t ∨ exec (.tubeCount src body) s = .next t → FlagsCurrent t) ∧
     (∀ cls, exec (.classReport cls) s = .next t → FlagsCurrent t) ∧
     (∀ i covered, exec (.lowSensorChange i covered) s = .next t ∨ exec (.fullSensorChange i covered) s = .next t →
       FlagsCurrent t) ∧
     (exec .escrowExpiry s = .next t → FlagsCurrent t) ∧
     (∀ node cls, FlagsCurrent (takeEvent node (.billEscrow cls) s) ∧ FlagsCurrent (takeEvent node (.billStacked cls) s) ∧
       FlagsCurrent (takeEvent node .billReturned s)))

/-- R83 to R85: the planner's plan is within availability and cap, does not exceed the amount, and of all such plans it has the
greatest sum, then the fewest coins, then the greatest counts in planner order. -/
def Obligations.ThePlanIsTheBest : Prop :=
  ∀ (ts : List PlanTube) (amount cap : Nat), (∀ u ∈ ts, 0 < u.denom) →
    let fits (ks : List Nat) : Prop := ks.length = ts.length ∧ (∀ p ∈ ts.zip ks, p.2 ≤ p.1.avail) ∧ ks.sum ≤ cap ∧
      planSum ts ks ≤ amount
    let best := bestPlan ts amount cap
    fits best ∧ ∀ ks, fits ks → planSum ts ks ≤ planSum ts best ∧
      (planSum ts ks = planSum ts best → best.sum ≤ ks.sum ∧ (ks.sum = best.sum → ks ≤ best))

/-- R90, R91, R140: a payout that is granted enters PAYING with its plan and its unit, and drives the first planned tube in
planner order for its first coin; with nothing planned it ends, and its remainder goes back to the credit of a CHANGE or REFUND.
The plan holds for each used tube the count that the best plan (R84, R85) gives it, at most 100 coins in all. In form TUBE it is
the named tube with the number of coins named, whatever the tube's state and count, and that tube is driven. -/
def Obligations.GrantedPayoutsMakeTheirPlan : Prop :=
  (∀ (c : Claim) (p : Payout) (k n : Nat) (s : State), s.chg.payout = some p → c.kind = .payout → p.form = .tube k → k < 6 →
     0 < (tubeOf s k).denom → p.requested = n * (tubeOf s k).denom → 0 < n →
     let t := grantClaim c s
     let plan := tset (Vector.replicate 6 0) k n
     t.lds.payoutUnits = 1 ∧ t.chg = { s.chg with
       drive := some k
       payout := some { p with
         paying := true, plan := some plan, tube := k, pulse := some s.now, window := some s.now, jammed := false } } ∧
     ChangesOnly [.lds, .chg] s t ∧ ∀ j, tget plan 0 j = if j = k then n else 0) ∧
  ∀ (c : Claim) (p : Payout) (s : State), s.chg.payout = some p → c.kind = .payout → p.form = .amount → p.paid = 0 →
    let plan := makePlan p.source.isService s.chg.tubes p.requested 100
    let t := grantClaim c s
    let tubes := planTubes p.source.isService s.chg.tubes
    (∀ n u, tubes[n]? = some u → tget plan 0 u.tube = (bestPlan tubes p.requested 100).getD n 0) ∧
    (∀ u, (planTubes p.source.isService s.chg.tubes).find? (fun u => decide (0 < tget plan 0 u.tube)) = some u →
      t.lds.payoutUnits = 1 ∧ t.chg.drive = some u.tube ∧ t.chg.payout = some { p with
        paying := true, plan := some plan, tube := u.tube, pulse := some s.now, window := some s.now, jammed := false } ∧
      t.chg.tubes = s.chg.tubes ∧ ChangesOnly [.lds, .chg] s t) ∧
    ((∀ u ∈ planTubes p.source.isService s.chg.tubes, tget plan 0 u.tube = 0) → t.chg.payout = none ∧ t.chg.drive = none ∧
      t.lds.payoutUnits = 0 ∧
      (p.source.isService = true → t.csh.credit = s.csh.credit) ∧
      (p.source.isService = false → s.csh.credit + p.requested ≤ 65535 → t.csh.credit = s.csh.credit + p.requested) ∧
      (1 ≤ s.rpq.reserved → .event (.payoutResult p.source p.requested 0 (decide (0 < p.requested)) p.coins) ∈ t.rpq.queue))

/-- R77, R81, R91: a coin seen in its window is paid: the tube's count falls, the paid amount, the audit and the coin list take
it, and what follows it waits for the end of a pulse that is still on. After the pulse it follows at once: the next planned coin
in planner order, a replan where form AMOUNT finds the tube with nothing available, or the end (R90, R94).
R90, R91: the end of the pulse switches the drive off after 80 ms. While the window is open nothing else follows; with the coin
already seen and no coin left in the plan, the payout ends and its result is reported: that it waits for the pulse's end is the
model's choice (log entry 12). Each is taken at the later of now and its due time (log entry 1). -/
def Obligations.CoinsSeenArePaid : Prop :=
  (∀ (p : Payout) (w : Time) (s : State), s.chg.payout = some p → p.window = some w → p.tube < 6 → s.chg.sensorActive = false →
     (∀ b, p.pulse = some b → s.lds.claims = [] →
       ∃ t, exec .payoutCoinSeen s = .next t ∧ t.now = max s.now (s.chg.sensorInactiveSince + ms 5) ∧
         t.chg.sensorActive = true ∧ t.chg.drive = s.chg.drive ∧
         tubeOf t p.tube = { tubeOf s p.tube with count := (tubeOf s p.tube).count - 1 } ∧
         (∀ j, j ≠ p.tube → tubeOf t j = tubeOf s j) ∧
         (0 < (tubeOf s p.tube).count → Reported (.tube p.tube) t) ∧
         (∃ q, t.chg.payout = some q ∧ q.paid = p.paid + (tubeOf s p.tube).denom ∧ q.window = none ∧ q.pulse = p.pulse ∧
           q.coins = addToCoins p.tube p.coins ∧
           ∀ k, p.plan = some k → ∃ k', q.plan = some k' ∧ tget k' 0 p.tube = tget k 0 p.tube - 1) ∧
         t.csh.audit = (if p.source.isService then
             { s.csh.audit with servicePaidOut := min 4294967295 (s.csh.audit.servicePaidOut + (tubeOf s p.tube).denom) }
           else { s.csh.audit with cashPaidOut := min 4294967295 (s.csh.audit.cashPaidOut + (tubeOf s p.tube).denom) }) ∧
         t.csh.credit = s.csh.credit ∧ ChangesOnly [.now, .csh, .chg, .dlk, .rpq] s t) ∧
     (∀ k, p.pulse = none → p.cut = false → p.jammed = false → p.plan = some k → s.lds.claims = [] →
       ∃ t, exec .payoutCoinSeen s = .next t ∧ t.now = max s.now (s.chg.sensorInactiveSince + ms 5) ∧
         t.chg.sensorActive = true ∧
         tubeOf t p.tube = { tubeOf s p.tube with count := (tubeOf s p.tube).count - 1 } ∧
         (∀ j, j ≠ p.tube → tubeOf t j = tubeOf s j) ∧
         CoinFollowed { p with
           paid := p.paid + (tubeOf s p.tube).denom
           plan := some (tset k p.tube (tget k 0 p.tube - 1))
           coins := addToCoins p.tube p.coins
           window := none } s t) ∧
     (∀ n, (addToCoins p.tube p.coins).map (·.2) = n → n.sum = (p.coins.map (·.2)).sum + 1)) ∧
  (∀ (p : Payout) (b : Time) (s : State), s.chg.payout = some p → p.pulse = some b →
     (∀ w, p.window = some w → ∃ t, exec .payoutPulseEnd s = .next t ∧ ChangesOnly [.now, .chg] s t ∧
       t.now = max s.now (b + ms 80) ∧ t.chg = { s.chg with drive := none, payout := t.chg.payout } ∧
       t.chg.payout = some { p with pulse := none }) ∧
     (p.window = none → (∀ k, p.plan = some k → ∀ u ∈ planTubes p.source.isService s.chg.tubes, tget k 0 u.tube = 0) →
       1 ≤ s.rpq.reserved → s.lds.claims = [] →
       ∃ t, exec .payoutPulseEnd s = .next t ∧ t.now = max s.now (b + ms 80) ∧ t.chg.payout = none ∧ t.chg.drive = none ∧
         t.lds.payoutUnits = 0 ∧ t.chg.tubes = s.chg.tubes ∧ t.csh.audit = s.csh.audit ∧
         .event (.payoutResult p.source p.requested p.paid (decide (p.paid < p.requested)) p.coins) ∈ t.rpq.queue ∧
         (p.source.isService = true → t.csh.credit = s.csh.credit) ∧
         (p.source.isService = false → s.csh.credit + (p.requested - p.paid) ≤ 65535 →
           t.csh.credit = s.csh.credit + (p.requested - p.paid))) ∧
     (p.window = none → s.lds.claims = [] → ∃ t, exec .payoutPulseEnd s = .next t ∧ t.now = max s.now (b + ms 80) ∧
       t.chg.tubes = s.chg.tubes ∧ t.csh.audit = s.csh.audit ∧ CoinFollowed { p with pulse := none } s t))

/-- R92 to R94, R96: a window that closes without a coin leaves its tube EMPTY with count 0, but for a jammed tube and for a pulse
cut short by SAFE; a jam current during the pulse leaves the tube JAMMED and the drive off, while an open window stays open. What
follows is a replan in form AMOUNT, at most two in a payout, and the end in form TUBE or after SAFE; a coin seen in a jammed
or a cut window is paid first. Each is taken at the later of now and its due time (log entry 1); that of DRIVE_JAM, the earliest end of
its run of samples, is the model's choice (log entry 13). -/
def Obligations.EmptyAndJammedTubesAreFound : Prop :=
  ∀ (p : Payout) (s : State), s.chg.payout = some p → p.tube < 6 →
    (p.cut = false → p.jammed = false →
      (∀ w k, p.window = some w → p.form = .tube k → s.lds.claims = [] → 1 ≤ s.rpq.reserved →
        ∃ t, exec .sensorWindowExpiry s = .next t ∧ t.now = max s.now (w + ms 400) ∧
          tubeOf t p.tube = { tubeOf s p.tube with count := 0, state := .empty } ∧
          (∀ j, j ≠ p.tube → tubeOf t j = tubeOf s j) ∧ (tubeOf t p.tube ≠ tubeOf s p.tube → Reported (.tube p.tube) t) ∧
          t.chg.payout = none ∧ t.chg.drive = none ∧ t.lds.payoutUnits = 0 ∧
          .event (.payoutResult p.source p.requested p.paid (decide (p.paid < p.requested)) p.coins) ∈ t.rpq.queue) ∧
      (∀ w, p.window = some w → p.form = .amount → s.lds.claims = [] →
        ∃ t, exec .sensorWindowExpiry s = .next t ∧ t.now = max s.now (w + ms 400) ∧
          tubeOf t p.tube = { tubeOf s p.tube with count := 0, state := .empty } ∧
          (∀ j, j ≠ p.tube → tubeOf t j = tubeOf s j) ∧ (tubeOf t p.tube ≠ tubeOf s p.tube → Reported (.tube p.tube) t) ∧
          Replanned p s t) ∧
      (∀ w b sample, p.window = some w → p.pulse = some b → s.spd.jamThreshold < sample →
        ∃ t, exec (.driveJam sample) s = .next t ∧ t.now = max s.now (b + ms 20) ∧ t.chg.drive = none ∧
          tubeOf t p.tube = { tubeOf s p.tube with state := .jammed } ∧ (∀ j, j ≠ p.tube → tubeOf t j = tubeOf s j) ∧
          t.chg.payout = some { p with pulse := none, jammed := true } ∧
          ChangesOnly [.now, .csh, .chg, .dlk, .rpq] s t ∧ SameAccount s t ∧ SameLink s t) ∧
      (∀ b sample, p.window = none → p.pulse = some b → s.spd.jamThreshold < sample → s.lds.claims = [] →
        ∃ t, exec (.driveJam sample) s = .next t ∧ t.now = max s.now (b + ms 20) ∧
          tubeOf t p.tube = { tubeOf s p.tube with state := .jammed } ∧ (∀ j, j ≠ p.tube → tubeOf t j = tubeOf s j) ∧
          (tubeOf t p.tube ≠ tubeOf s p.tube → Reported (.tube p.tube) t) ∧
          (p.form = .amount → Replanned p s t) ∧ (p.form ≠ .amount → PayoutEnded p s t))) ∧
    (p.cut = false → p.jammed = true → s.lds.claims = [] →
      (∀ w, p.window = some w → ∃ t, exec .sensorWindowExpiry s = .next t ∧ t.now = max s.now (w + ms 400) ∧
        t.chg.tubes = s.chg.tubes ∧ (p.form = .amount → Replanned p s t) ∧ (p.form ≠ .amount → PayoutEnded p s t)) ∧
      (∀ w k, p.window = some w → p.pulse = none → p.plan = some k → s.chg.sensorActive = false →
        let q := { p with
          paid := p.paid + (tubeOf s p.tube).denom
          plan := some (tset k p.tube (tget k 0 p.tube - 1))
          coins := addToCoins p.tube p.coins }
        ∃ t, exec .payoutCoinSeen s = .next t ∧
          tubeOf t p.tube = { tubeOf s p.tube with count := (tubeOf s p.tube).count - 1 } ∧
          (∀ j, j ≠ p.tube → tubeOf t j = tubeOf s j) ∧
          (p.form = .amount → Replanned q s t) ∧ (p.form ≠ .amount → PayoutEnded q s t))) ∧
    (∀ w, p.cut = true → p.window = some w → s.lds.claims = [] →
      (∃ t, exec .sensorWindowExpiry s = .next t ∧ t.now = max s.now (w + ms 400) ∧ t.chg.tubes = s.chg.tubes ∧
        PayoutEnded p s t) ∧
      (p.pulse = none → s.chg.sensorActive = false → ∃ t, exec .payoutCoinSeen s = .next t ∧
        tubeOf t p.tube = { tubeOf s p.tube with count := (tubeOf s p.tube).count - 1 } ∧
        (∀ j, j ≠ p.tube → tubeOf t j = tubeOf s j) ∧
        PayoutEnded { p with paid := p.paid + (tubeOf s p.tube).denom, coins := addToCoins p.tube p.coins } s t))

/-! ## The cabinet -/

/-- R147, R148, R188, R131: a door change is taken with its count and its report; ONLINE becomes SERVICE when the door opens and
SERVICE becomes ONLINE when it closes; the grace window follows. At the tick of its end time the window is still open (log entry
25). -/
def Obligations.DoorChangesMoveTheMode : Prop :=
  ∀ (isOpen : Bool) (s : State), s.cmn.doorOpen ≠ isOpen → ∃ t, exec (.doorChange isOpen) s = .next t ∧
    t.cmn = { s.cmn with
      doorOpen := isOpen, openings := if isOpen then min 65535 (s.cmn.openings + 1) else s.cmn.openings } ∧
    Reported .door t ∧ t.now = s.now ∧ t.ulk = s.ulk ∧
    (s.mgt.mode = .online → isOpen = true → t.mgt = { mode := .service, returnMode := .online }) ∧
    (s.mgt.mode = .service → isOpen = false → t.mgt = { s.mgt with mode := .online } ∧ t.spd.sweep = none) ∧
    (s.mgt.mode ≠ .online ∨ isOpen = false → s.mgt.mode ≠ .service ∨ isOpen = true → t.mgt = s.mgt ∧
      ChangesOnly [.cmn, .clg, .rpq] s t ∧
        t.clg = { s.clg with grace := t.clg.grace, evapFan := t.clg.evapFan, condFan := t.clg.condFan }) ∧
    (isOpen = true → t.clg.grace = some (match s.clg.grace with
      | some g => if s.now ≤ g.closeAt then ⟨g.first, g.first + minutes 45⟩ else ⟨s.now, s.now + minutes 45⟩
      | none => ⟨s.now, s.now + minutes 45⟩)) ∧
    (isOpen = false → ∀ g, s.clg.grace = some g → s.now ≤ g.closeAt →
      t.clg.grace = some ⟨g.first, min g.closeAt (s.now + minutes 15)⟩) ∧
    (isOpen = true → t.clg.evapFan = false)

/-- R143: a supply sample that completes no run sets the voltage and the two runs, and the next sample falls 10 ms on.
R145, R141, R188: the 200th successive good sample ends SAFE: SETUP stays SETUP, and otherwise the door decides between ONLINE and
SERVICE; a vend that waits for its load files its claim again. A sample is taken at the later of now and its due time (log entry
1). -/
def Obligations.SupplySamplesAndTheEndOfSafe : Prop :=
  (∀ (volts : Nat) (s : State),
     (s.cmn.supplyLow = true ∨ 190 ≤ volts ∨ s.cmn.lowRun < 3) → (s.cmn.supplyLow = false ∨ volts < 215 ∨ s.cmn.goodRun < 199) →
     ∃ t, exec (.supplySample volts) s = .next t ∧ t.now = max s.now s.cmn.nextSupply ∧ ChangesOnly [.now, .cmn] s t ∧
       t.cmn = { s.cmn with
         volts := volts
         lowRun := if volts < 190 then min 4 (s.cmn.lowRun + 1) else 0
         goodRun := if 215 ≤ volts then min 200 (s.cmn.goodRun + 1) else 0
         nextSupply := s.cmn.nextSupply + ms 10 }) ∧
  (∀ (volts : Nat) (s : State), s.cmn.supplyLow = true → 215 ≤ volts → 199 ≤ s.cmn.goodRun → s.mgt.mode = .safe →
     ∃ t, exec (.supplyGood volts) s = .next t ∧ t.now = max s.now s.cmn.nextSupply ∧
       t.cmn = { s.cmn with
         supplyLow := false, volts := volts, lowRun := 0, goodRun := min 200 (s.cmn.goodRun + 1)
         nextSupply := s.cmn.nextSupply + ms 10 } ∧
       t.mgt.mode = (if s.mgt.returnMode = .setup then .setup else if s.cmn.doorOpen then .service else .online) ∧
       Reported .supply t ∧ (t.mgt.mode = .online → t.spd.sweep = none) ∧
       (∀ v, s.vnd.ctx = some v → v.stage = .loadWait → (∃ v', t.vnd.ctx = some v' ∧ v' = { v with stage := v'.stage } ∧
         ((v'.stage = .loadWait ∧ ∃ c ∈ t.lds.claims, c.kind = .vend) ∨ v'.stage = .turn1))) ∧
       t.ulk = s.ulk ∧ t.sel.table = s.sel.table ∧ t.crd = s.crd)

/-- R22, R37, R96, R128, R141, R144: the fourth successive low sample makes the supply LOW and the mode SAFE: the brown-out is
counted and reported, every grant is taken back, every claim dropped, everything driven is off, a vend in a turn is settled
INTERRUPTED, and a payout keeps only an open sensor window. The sample is taken at the later of now and its due time (log entry
1).
R18 to R20, R106: with a drop the interrupted vend counts as delivered, its selection's state untouched; without one a held price
returns; a CARD vend waits for the VEND RESULT that its drop decides. -/
def Obligations.ALowSupplyMakesTheMachineSafe : Prop :=
  ∀ (volts : Nat) (s : State), s.cmn.supplyLow = false → volts < 190 → 3 ≤ s.cmn.lowRun → s.mgt.mode ≠ .safe →
    DrivesOwned s → CompressorCovered s → ∃ t, exec (.supplyLow volts) s = .next t ∧ t.now = max s.now s.cmn.nextSupply ∧
      t.cmn = { s.cmn with
        supplyLow := true, brownouts := min 255 (s.cmn.brownouts + 1), volts := volts, lowRun := min 4 (s.cmn.lowRun + 1)
        goodRun := 0, nextSupply := s.cmn.nextSupply + ms 10 } ∧
      t.mgt.mode = .safe ∧ Reported .supply t ∧
      t.mgt.returnMode = (match s.mgt.mode with | .online => .online | .service => .service | _ => .setup) ∧
      unitsGranted t = 0 ∧ t.lds.claims = [] ∧ NothingDriven t ∧ t.spd.turn = none ∧
      (∀ w, t.spd.sweep = some w → w.paused = true ∧ w.check = .none) ∧
      (t.clg.comp = if s.clg.comp = .disabled then .disabled else .guard) ∧ t.ulk = s.ulk ∧
      (∀ v, s.vnd.ctx = some v → v.stage = .approvalWait ∨ v.stage = .loadWait → t.vnd.ctx = some v) ∧
      (∀ v, s.vnd.ctx = some v → v.stage = .turn1 ∨ v.stage = .turn2 → v.payment ≠ .card → t.vnd.ctx = none) ∧
      (∀ v, s.vnd.ctx = some v → v.stage = .turn1 ∨ v.stage = .turn2 → v.outcome = none → v.selection < 80 →
        let drop := v.dropSeen || s.spd.turn.any (·.dropSeen)
        let counted : Audit := match v.payment with
          | .cash => { s.csh.audit with cashVended := min 4294967295 (s.csh.audit.cashVended + v.price) }
          | .card => { s.csh.audit with cardVended := min 4294967295 (s.csh.audit.cardVended + v.price) }
          | .free => { s.csh.audit with freeVends := min 4294967295 (s.csh.audit.freeVends + 1) }
        let paid : Nat := if drop = true ∧ v.payment = .cash then v.price else 0
        selOf t v.selection = outcomeEntry .interrupted false { v with dropSeen := drop } (selOf s v.selection) ∧
        t.csh.audit = (if drop then counted else s.csh.audit) ∧
        (s.csh.credit + heldPrice s + moneyOwed s ≤ 65535 →
          t.csh.credit + heldPrice t + moneyOwed t + paid = s.csh.credit + heldPrice s + moneyOwed s) ∧
        (v.payment ≠ .card → 1 ≤ s.rpq.reserved →
          .event (.vendResult v.selection v.payment .interrupted v.price none (some drop)) ∈ t.rpq.queue) ∧
        (v.payment = .card → s.crd.state = .vending →
          ∀ n r, entryOf .card s = some (n, r) → r.presence = .present → s.dlk.own.length < 3 →
          t.vnd.ctx = some { v with dropSeen := drop, stage := .settling, outcome := some .interrupted } ∧
          t.crd = { s.crd with
            deadline := none
            owed := some { success := drop, price := v.price, selection := v.selection, vendLink := true } } ∧
          ⟨r.base, .vendResult drop v.price v.selection⟩ ∈ t.dlk.own) ∧
        (v.payment = .card → s.crd.state = .none → v.slots = 1 → 1 ≤ s.rpq.reserved → t.vnd.ctx = none ∧
          .event (.vendResult v.selection .card .interrupted v.price (some false) (some drop)) ∈ t.rpq.queue)) ∧
      (∀ p, s.chg.payout = some p → p.paying = true → p.window.isSome →
        t.chg.payout = some { p with pulse := none, cut := true }) ∧
      (∀ p, s.chg.payout = some p → p.paying = false ∨ p.window = none → t.chg.payout = none) ∧
      (∀ i, tget t.csh.effMask false i = false)

/-! ## Cooling -/

/-- R113, R115 to R117: conversion, rounded to nearest with halves away from zero, the sensor record and the filter. -/
def Obligations.SamplesAreConvertedAndFiltered : Prop :=
  (∀ (pts : Vector (Nat × Int) 9) (raw : Nat), (∀ i < 8, (tget pts (0, 0) i).1 < (tget pts (0, 0) (i + 1)).1) →
    (convert pts raw = none ↔ raw < (tget pts (0, 0) 0).1 ∨ (tget pts (0, 0) 8).1 < raw) ∧
    (raw = (tget pts (0, 0) 8).1 → convert pts raw = some (tget pts (0, 0) 8).2) ∧
    ∀ i < 8, (tget pts (0, 0) i).1 ≤ raw → raw < (tget pts (0, 0) (i + 1)).1 →
      convert pts raw = some (divNearest
        ((tget pts (0, 0) i).2 * ((tget pts (0, 0) (i + 1)).1 - (tget pts (0, 0) i).1) +
          (raw - (tget pts (0, 0) i).1) * ((tget pts (0, 0) (i + 1)).2 - (tget pts (0, 0) i).2))
        ((tget pts (0, 0) (i + 1)).1 - (tget pts (0, 0) i).1))) ∧
  (∀ a d : Int, 0 < d → divNearest (-a) d = -divNearest a d ∧
    (0 ≤ a → 2 * d * divNearest a d ≤ 2 * a + d ∧ 2 * a + d < 2 * d * (divNearest a d + 1))) ∧
  (∀ x : Sensor,
    (∀ v, x.sampled (some v) = { value := some v, outRun := 0, inRun := min 4 (x.inRun + 1),
                                 fault := x.fault && !decide (4 ≤ x.inRun + 1) }) ∧
    x.sampled none = { x with inRun := 0, outRun := min 4 (x.outRun + 1), fault := x.fault || decide (4 ≤ x.outRun + 1) }) ∧
  ∀ tf t : Int,
    (tf + 8 ≤ t → filterStep tf t = tf + (t - tf) / 8) ∧ (tf < t → t < tf + 8 → filterStep tf t = tf + 1) ∧
    (t = tf → filterStep tf t = tf) ∧ (t < tf → tf < t + 8 → filterStep tf t = tf - 1) ∧
    (t + 8 ≤ tf → filterStep tf t = tf - (tf - t) / 8)

/-- R112, R115 to R117, R119, R132, R133: from every state the 1 s sample updates the four records, T, BLIND, T_f, demand, the
warm time and the hold; at the tick of its end the grace window is still open (log entry 25). A hold that becomes set takes the
chilled perishable selections off sale, ends economy, and cancels a vend of one that still waits (R14, R133, R135).
R125: the condenser's trip and its hot flag. R121, R122, R124, R126: what the sample does to the compressor: the beginning and the
end of BLIND, a warm coil, demand off and demand on, in the order of log entry 6. The run time that makes defrost due is counted
in ticks (log entry 23). The sample is taken at the later of now and its due time (log entry 1). -/
def Obligations.TheSampleUpdatesTheCompartment : Prop :=
  ∀ (a b c d : BitVec 10) (s : State), ∃ t, exec (.coolingSample a b c d) s = .next t ∧
    let o := s.clg.settings
    let reading (i : Nat) : Option Int := if (sensorOf t i).fault then none else (sensorOf t i).value
    let cool (i : Nat) (limit : Int) : Prop := ∀ r, reading i = some r → r < limit
    t.now = max s.now s.clg.nextSample ∧ t.clg.nextSample = s.clg.nextSample + seconds 1 ∧
    sensorOf t 0 = (sensorOf s 0).sampled (convert s.clg.points a.toNat) ∧
    sensorOf t 1 = (sensorOf s 1).sampled (convert s.clg.points b.toNat) ∧
    sensorOf t 2 = (sensorOf s 2).sampled (convert s.clg.points c.toNat) ∧
    sensorOf t 3 = (sensorOf s 3).sampled (convert s.clg.points d.toNat) ∧
    (∀ i < 4, (sensorOf t i).fault ≠ (sensorOf s i).fault → Reported (.sensor i) t) ∧
    t.clg.blind = ((sensorOf t 0).fault && (sensorOf t 1).fault) ∧
    (t.clg.blind ≠ s.clg.blind → Reported .cooling t) ∧
    t.clg.blindSince = (if t.clg.blind && !s.clg.blind then t.now else s.clg.blindSince) ∧
    t.clg.temp = (match reading 0, reading 1 with
      | some x, some y => some ((x + y).tdiv 2)
      | some x, none => some x
      | none, y => y) ∧
    t.clg.filtered = (match t.clg.temp, s.clg.filtered with
      | none, f => f
      | some x, none => some x
      | some x, some f => some (if s.clg.blind then x else filterStep f x)) ∧
    t.clg.demand = (match t.clg.filtered with
      | none => s.clg.demand
      | some f => if t.clg.blind then s.clg.demand
        else if effectiveSetpoint s + o.differential ≤ f then true
        else if f ≤ effectiveSetpoint s then false else s.clg.demand) ∧
    (let warm := t.clg.blind || t.clg.filtered.any (fun f => decide (o.safeLimit < f))
     let open1 := s.clg.grace.any (fun g => decide (t.now ≤ g.closeAt))
     t.clg.warmTime = if warm then (if open1 then s.clg.warmTime else min 65535 (s.clg.warmTime + 1))
       else if t.clg.filtered.isSome then 0 else s.clg.warmTime) ∧
    t.clg.hold = (s.clg.hold || decide (60 * o.holdDelay ≤ t.clg.warmTime)) ∧
    t.ulk = s.ulk ∧ t.mgt = s.mgt ∧ t.cmn = s.cmn ∧
    -- a hold that becomes set
    (s.clg.hold = false → t.clg.hold = true → Reported .safetyHold t ∧ t.clg.ecoEffective = false ∧
      (∀ i < 80, (selOf t i).chilled = true → (selOf t i).perishable = true → tget t.sel.vendable false i = false) ∧
      (∀ v, s.vnd.ctx = some v → v.stage = .approvalWait ∨ v.stage = .loadWait → v.outcome = none → v.payment ≠ .card →
        (selOf s v.selection).chilled = true → (selOf s v.selection).perishable = true → s.clg.comp = .guard →
        (∀ k ∈ s.lds.claims, k.kind = .vend ∧ 4 < k.units + unitsGranted s) →
        (if s.chg.payout.isSome then 2 else 1) ≤ s.rpq.reserved →
        t.vnd.ctx = none ∧ (∀ k ∈ t.lds.claims, k.kind ≠ .vend) ∧ t.sel.table = s.sel.table ∧
        .event (.vendResult v.selection v.payment .cancelled v.price none none) ∈ t.rpq.queue)) ∧
    -- the condenser
    (s.clg.hot = true → ∀ r, reading 3 = some r → r ≤ o.condenserTrip - 100 → t.clg.hot = false ∧ Reported .condenserHot t) ∧
    (s.clg.hot = true → (∀ r, reading 3 = some r → o.condenserTrip - 100 < r) → t.clg.hot = true) ∧
    (s.clg.hot = false → s.clg.contactor = false ∨ cool 3 o.condenserTrip →
      t.clg.hot = false ∧ t.clg.tripCount = s.clg.tripCount) ∧
    ((∀ k ∈ s.lds.claims, k.kind ≠ .compressor) →
      (s.clg.comp = .guard → t.clg.comp = .guard ∧ t.clg.contactor = s.clg.contactor ∧ t.lds.compUnits = s.lds.compUnits) ∧
      (let stopped := t.clg.contactor = false ∧ t.clg.condFan = false ∧ t.clg.lastStop = t.now ∧ t.lds.compUnits = 0 ∧
         Reported .cooling t
       (∀ r, s.clg.comp = .start ∨ s.clg.comp = .run ∨ s.clg.comp = .blindOn → s.clg.contactor = true →
         t.clg.blind = s.clg.blind → reading 3 = some r → o.condenserTrip ≤ r →
         t.clg.comp = .guard ∧ t.clg.hot = true ∧ t.clg.tripCount = min 255 (s.clg.tripCount + 1) ∧ Reported .condenserHot t ∧
           stopped) ∧
       -- BLIND begins
       (s.clg.blind = false → t.clg.blind = true → cool 3 o.condenserTrip → s.clg.comp = .start ∨ s.clg.comp = .run →
         t.clg.comp = .blindOn ∧ t.clg.contactor = s.clg.contactor ∧ t.lds.compUnits = s.lds.compUnits) ∧
       (s.clg.blind = false → t.clg.blind = true → s.clg.comp = .idle → t.clg.hot = false → s.mgt.mode ≠ .safe →
         t.clg.comp = .blindOn) ∧
       -- BLIND ends
       (s.clg.blind = true → t.clg.blind = false → s.clg.comp = .blindOn → s.clg.contactor = true →
         t.clg.comp = .guard ∧ stopped) ∧
       (s.clg.blind = true → t.clg.blind = false → s.clg.comp = .blindOff → t.now < s.clg.lastStop + seconds 180 →
         t.clg.comp = .guard) ∧
       -- a warm coil
       (s.clg.comp = .defrost → (∀ r, reading 2 = some r → s.clg.termInForce ≤ r → 0 < o.dripTime →
           t.clg.comp = .drip ∧ t.clg.stateSince = t.now ∧ t.clg.dripInForce = o.dripTime ∧ t.clg.evapFan = false ∧
           Reported .cooling t) ∧
         (cool 2 s.clg.termInForce → t.clg.comp = .defrost)) ∧
       -- demand
       (s.clg.comp = .run → t.clg.blind = s.clg.blind → cool 3 o.condenserTrip →
         t.clg.demand = true ∨ t.now < s.clg.startedAt + seconds 60 → t.clg.comp = .run ∧ t.clg.contactor = s.clg.contactor) ∧
       (s.clg.comp = .run → s.clg.contactor = true → t.clg.blind = s.clg.blind → cool 3 o.condenserTrip → t.clg.demand = false →
         s.clg.startedAt + seconds 60 ≤ t.now → stopped ∧
         t.clg.comp = if seconds (3600 * o.defrostInterval) ≤ min (seconds 86400) (s.clg.runTicks + (t.now - s.clg.startedAt))
           then .defrost else .guard) ∧
       (s.clg.comp = .idle → t.clg.blind = false → t.clg.demand = false ∨ t.clg.hot = true ∨ s.mgt.mode = .safe →
         t.clg.comp = .idle) ∧
       (s.clg.comp = .idle → t.clg.blind = false → t.clg.demand = true → t.clg.hot = false → s.mgt.mode ≠ .safe →
         s.lds.claims = [] → t.clg.hold = s.clg.hold →
         (0 < unitsGranted s → t.clg.comp = .waitSupply ∧ t.lds.claims = [⟨.compressor, 4, t.now, false⟩]) ∧
         (unitsGranted s = 0 → t.clg.comp = .start ∧ t.clg.contactor = true ∧ t.clg.startedAt = t.now ∧
           t.lds.compUnits = 4 ∧ t.lds.claims = [])))) ∧
    (s.clg.comp = .waitSupply → s.clg.blind = false → t.clg.blind = false → t.clg.demand = false → t.clg.comp = .idle ∧
      ∀ k ∈ t.lds.claims, k.kind ≠ .compressor)

/-- R120 to R123, R125, R140: the compressor's own times. The guard time leads to IDLE, or to WAIT_SUPPLY with a claim of 4 units
where demand waits; 3 s after the grant a start gives 3 units back and runs; a run that has no demand stops after 60 s; a forced
defrost stops the run.
R120, R124, R126, R130: DEFROST ends at its maximum for DRIP, with the evaporator fan off, and DRIP at its time for GUARD; the
BLIND duty runs 10 min from the later of its start and the beginning of BLIND, rests 10 min and files its claim again. That
FORCED_DEFROST acts in every RUN state, at the moment of R123, is the model's choice (log entry 14), as are run times counted in
ticks (log entry 23) and each event at the later of now and its due time (log entry 1). -/
def Obligations.CompressorTimesMoveTheCompressor : Prop :=
  (∀ s : State, s.lds.claims = [] →
     (s.clg.comp = .guard → s.clg.blind = false → s.clg.demand = false ∨ s.clg.hot = true ∨ s.mgt.mode = .safe →
       ∃ t, exec .guardExpiry s = .next t ∧ t.now = max s.now (s.clg.lastStop + seconds 180) ∧ t.clg.comp = .idle ∧
         t.lds = s.lds ∧ Reported .cooling t ∧ ChangesOnly [.now, .clg, .rpq] s t) ∧
     (s.clg.comp = .guard → s.clg.blind = false → s.clg.demand = true → s.clg.hot = false → s.mgt.mode ≠ .safe →
       (0 < unitsGranted s → ∃ t, exec .guardExpiry s = .next t ∧ t.clg.comp = .waitSupply ∧
         t.lds.claims = [⟨.compressor, 4, t.now, false⟩]) ∧
       (unitsGranted s = 0 → ∃ t, exec .guardExpiry s = .next t ∧ t.clg.comp = .start ∧ t.clg.contactor = true ∧
         t.clg.startedAt = t.now ∧ t.lds.compUnits = 4 ∧ t.lds.claims = [] ∧ t.clg.condFan = true)) ∧
     (s.clg.comp = .start → s.clg.contactor = true → s.lds.compUnits = 4 →
       ∃ t, exec .startEnd s = .next t ∧ t.now = max s.now (s.clg.startedAt + seconds 3) ∧ t.clg.comp = .run ∧
         t.clg.contactor = true ∧ t.clg.runEntered = t.now ∧ t.lds = { s.lds with compUnits := 1 } ∧ Reported .cooling t ∧
         ChangesOnly [.now, .clg, .lds, .rpq] s t) ∧
     (s.clg.comp = .run → s.clg.demand = true → exec .minimumRunEnd s =
       .next { s with now := max s.now (s.clg.startedAt + seconds 60) }) ∧
     (s.clg.comp = .run → s.clg.demand = false → s.clg.contactor = true →
       let due := seconds (3600 * s.clg.settings.defrostInterval) ≤ min (seconds 86400)
         (s.clg.runTicks + (max s.now (s.clg.startedAt + seconds 60) - s.clg.startedAt))
       ∃ t, exec .minimumRunEnd s = .next t ∧ t.now = max s.now (s.clg.startedAt + seconds 60) ∧
         t.clg.comp = (if due then .defrost else .guard) ∧ t.clg.contactor = false ∧ t.clg.condFan = false ∧
         t.clg.lastStop = t.now ∧ t.lds = { s.lds with compUnits := 0 } ∧ Reported .cooling t ∧
         ChangesOnly [.now, .clg, .lds, .rpq] s t) ∧
     (s.clg.comp = .run → ∃ t, exec .forcedDefrost s = .next t ∧ t.clg.comp = .defrost ∧ t.clg.contactor = false ∧
       t.clg.runTicks = 0 ∧ t.clg.lastStop = t.now ∧ t.clg.stateSince = t.now ∧
       t.clg.termInForce = s.clg.settings.defrostTermination ∧ t.clg.maxInForce = s.clg.settings.defrostMaximum ∧
       t.lds = { s.lds with compUnits := 0 } ∧ Reported .cooling t ∧ ChangesOnly [.now, .clg, .lds, .rpq] s t)) ∧
  (∀ s : State, s.lds.claims = [] →
     (s.clg.comp = .defrost → 0 < s.clg.settings.dripTime → ∃ t, exec .defrostMaximum s = .next t ∧
       t.now = max s.now (s.clg.stateSince + minutes s.clg.maxInForce) ∧ t.clg.comp = .drip ∧ t.clg.evapFan = false ∧
       t.clg.stateSince = t.now ∧ t.clg.dripInForce = s.clg.settings.dripTime ∧ t.lds = s.lds ∧ Reported .cooling t ∧
       ChangesOnly [.now, .clg, .rpq] s t) ∧
     (s.clg.comp = .drip →
       max s.now (s.clg.stateSince + seconds s.clg.dripInForce) < s.clg.lastStop + seconds 180 →
       ∃ t, exec .dripEnd s = .next t ∧ t.now = max s.now (s.clg.stateSince + seconds s.clg.dripInForce) ∧
         t.clg.comp = .guard ∧ t.clg.evapFan = !s.cmn.doorOpen ∧ t.lds = s.lds ∧ Reported .cooling t ∧
         ChangesOnly [.now, .clg, .rpq] s t) ∧
     (s.clg.comp = .drip → s.clg.demand = false → s.clg.blind = false →
       s.clg.lastStop + seconds 180 ≤ max s.now (s.clg.stateSince + seconds s.clg.dripInForce) →
       ∃ t, exec .dripEnd s = .next t ∧ t.clg.comp = .idle ∧ t.lds = s.lds ∧ Reported .cooling t) ∧
     (s.clg.comp = .blindOn → s.clg.contactor = true →
       ∃ t, exec .blindOnEnd s = .next t ∧ t.now = max s.now (max s.clg.startedAt s.clg.blindSince + minutes 10) ∧
         (t.clg.comp = .blindOff ∨ t.clg.comp = .defrost) ∧ t.clg.contactor = false ∧ t.clg.lastStop = t.now ∧
         t.clg.stateSince = t.now ∧ t.lds = { s.lds with compUnits := 0 } ∧ Reported .cooling t ∧
         ChangesOnly [.now, .clg, .lds, .rpq] s t) ∧
     (s.clg.comp = .blindOff → s.mgt.mode ≠ .safe →
       ∃ t, exec .blindOffEnd s = .next t ∧ t.now = max s.now (s.clg.stateSince + minutes 10) ∧ t.clg.comp = .blindOn ∧
         Reported .cooling t ∧ ChangesOnly [.now, .clg, .lds, .rpq] s t ∧
         (0 < unitsGranted s → t.lds = { s.lds with claims := [⟨.compressor, 4, t.now, false⟩] } ∧
           t.clg.contactor = s.clg.contactor) ∧
         (unitsGranted s = 0 → t.lds = { s.lds with compUnits := 4 } ∧ t.clg.contactor = true ∧ t.clg.startedAt = t.now)))

/-! ## The Cabinet Bus -/

/-- R150, R151, R153, R156: a character taken, with its eleven bit-times paced from its start edge. A frame begins with a first
character taken at READY, overrun on U while the answer is not FREE, which is judged at that character (log entry 42); the buffer
keeps 53 characters and the count goes on; WAIT_IDLE takes nothing but its idle count, BREAK nothing at all.
R153, R158 to R160: a break, 22 bit-times after the line was last known at mark (log entry 44), discards the partial frame, an
answer that has not begun, and, on D, ends the exchange that awaits its reply; the line's return to mark leaves the receiver
waiting for idle. Each is taken at the later of now and its due time (log entry 1). -/
def Obligations.ReceiversTakeCharactersAndBreaks : Prop :=
  (∀ (seg : Segment) (data : Byte) (parityMark stopMark : Bool) (s : State), (seg = .downstream → s.dlk.dde = false) →
     let fast := seg = .upstream ∨ s.dlk.rxFast = true
     let c := charOfSamples (sampledBits data parityMark) stopMark
     let r := rxOf seg s
     ∃ t, exec (.characterTaken seg data parityMark stopMark) s = .next t ∧
       ChangesOnly [.now, if seg = .upstream then .ulk else .dlk] s t ∧
       match r.line with
       | .brk => t = s
       | l =>
         let u := rxOf seg t
         t.now = max s.now (r.idleFrom + if fast then 2 * 2083 + 208 else 2 * 4167 + 417) ∧
         u.idleFrom = t.now + (if fast then 208 else 417) ∧
         (stopMark = true → u.markAt = t.now) ∧
         u.overrun = (if l = .ready then decide (seg = .upstream ∧ s.ulk.answerState ≠ .free) else r.overrun) ∧
         u.line = (if l = .waitIdle then .waitIdle else .receiving) ∧
         u.count = (match l with | .ready => 1 | .receiving => r.count + 1 | _ => r.count) ∧
         u.buffer = (match l with
           | .ready => [c]
           | .receiving => if r.buffer.length < 53 then r.buffer ++ [c] else r.buffer
           | _ => r.buffer)) ∧
  (∀ (seg : Segment) (s : State), (seg = .downstream → s.dlk.dde = false) →
     let r := rxOf seg s
     (r.line ≠ .brk → ∃ t, exec (.lineBreak seg) s = .next t ∧ t.now = max s.now (r.markAt + bitTimes (rxFastRate seg s) 22) ∧
       (rxOf seg t).line = .brk ∧ (rxOf seg t).buffer = [] ∧
       (seg = .upstream → ChangesOnly [.now, .ulk] s t ∧
         (s.ulk.answerState = .turnaround → t.ulk.answerState = .free ∧ t.ulk.answer = none) ∧
         (s.ulk.answerState ≠ .turnaround → t.ulk.answerState = s.ulk.answerState ∧ t.ulk.answer = s.ulk.answer)) ∧
       (seg = .downstream → t.ulk = s.ulk ∧
         (∀ x since, awaitingExchange s = some (x, since) → s.dlk.seg ≠ .released → t.dlk.exchange = none) ∧
         (awaitingExchange s = none ∨ s.dlk.seg = .released →
           ChangesOnly [.now, .dlk] s t ∧ t.dlk = { s.dlk with rx := t.dlk.rx }))) ∧
     (r.line = .brk → ∃ t, exec (.breakEnd seg) s = .next t ∧ (rxOf seg t).line = .waitIdle ∧ (rxOf seg t).idleFrom = s.now ∧
       (rxOf seg t).markAt = s.now ∧ ChangesOnly [if seg = .upstream then .ulk else .dlk] s t))

/-- R153, R154, R156: END_OF_FRAME. Twelve bit-times after the last stop bit a waiting receiver is READY, and a received frame
ends: a good one on U acts as its DEST says, a bad one is discarded, and the receiver is READY. That a frame on D ends in the same
way while DLK's driver is on is the model's choice (log entry 49). It is taken at the later of now and its due time (log entry 1).
-/
def Obligations.TwelveBitTimesOfMarkEndAFrame : Prop :=
  ∀ s : State,
    (∀ seg, (rxOf seg s).line = .waitIdle → ∃ t, exec (.endOfFrame seg) s = .next t ∧
      t.now = max s.now ((rxOf seg s).idleFrom + bitTimes (rxFastRate seg s) 12) ∧ (rxOf seg t).line = .ready ∧
      (rxOf seg t).buffer = [] ∧ ChangesOnly [.now, if seg = .upstream then .ulk else .dlk] s t) ∧
    (s.ulk.rx.line = .receiving →
      let e := s.upTo (s.ulk.rx.idleFrom + bitTimes true 12)
      let u := setRx .upstream (.readyAt e.now) e
      exec (.endOfFrame .upstream) s = .next (
        match goodFrame s.ulk.rx with
        | none => u
        | some (dest, src, kind, payload) =>
          if dest = ownNode s then deliver src kind (managementAnswer kind payload) u
          else if (coveringEntry s dest.toNat).isSome then deliver src kind (transitCommand dest.toNat kind payload) u
          else u)) ∧
    (s.dlk.rx.line = .receiving →
      let u := s.upTo (s.dlk.rx.idleFrom + bitTimes s.dlk.rxFast 12)
      (∀ src kind payload, goodFrame s.dlk.rx = some (ownNode s, src, kind, payload) →
        exec (.endOfFrame .downstream) s = exec (.reply src kind payload) u) ∧
      ((∀ src kind payload, goodFrame s.dlk.rx ≠ some (ownNode s, src, kind, payload)) →
        (∀ x since, awaitingExchange s = some (x, since) → x.expired = false) →
        exec (.endOfFrame .downstream) s = .next (setRx .downstream (.readyAt u.now) u)))

/-- R150: a character sent has an even number of marks, so that it is received without a parity error, and with one where a single
bit is sampled wrong; a stop bit at space is a framing error.
R154: what is sent is received as it was. A frame that was counted and buffered whole is good exactly when none of its characters
has an error, it has not overrun, and it is DEST, SRC, KIND, LEN, LEN payload characters and a CHECK that makes the sum 0; a frame
of more than 53 characters is not. -/
def Obligations.GoodFramesAreTheFramesSent : Prop :=
  (∀ (dest src kind : Byte) (payload : List Byte), payload.length ≤ 48 →
    goodFrame { Receiver.powerOn with
      line := .receiving
      buffer := (frame dest src kind payload).map fun b => charOfSamples (lineBits b) true
      count := payload.length + 5 } = some (dest, src, kind, payload)) ∧
  (∀ (b : Byte) (stopMark : Bool),
    charOfSamples (lineBits b) stopMark = { byte := b, parityError := false, framingError := !stopMark } ∧
    ∀ i < 9, (charOfSamples (lineBits b ^^^ BitVec.twoPow 9 i) stopMark).parityError = true) ∧
  (∀ (r : Receiver) (dest src kind : Byte) (payload : List Byte), r.count = r.buffer.length →
    (goodFrame r = some (dest, src, kind, payload) ↔
      r.overrun = false ∧ (∀ c ∈ r.buffer, c.parityError = false ∧ c.framingError = false) ∧ payload.length ≤ 48 ∧
        ∃ check, r.buffer.map (·.byte) = dest :: src :: kind :: ch payload.length :: (payload ++ [check]) ∧
          (r.buffer.map (·.byte)).sum = 0)) ∧
  ∀ r : Receiver, 53 < r.count → goodFrame r = none

/-- R155 to R157: an answer begins no earlier than 1 ms after the frame it answers and holds the buffer until its last stop bit
ends. The latest start, 5 ms, is left to what commands the block (log entry 10). The answer is spaced by the guard gap in force
when it begins (log entry 28). Each is taken at the later of now and its due time (log entry 1). -/
def Obligations.AnswersAreSentOnceAndInFull : Prop :=
  ∀ s : State,
    (∀ chars, s.ulk.answerState = .turnaround → s.ulk.answer = some chars →
      ∃ t, exec .answerStart s = .next t ∧ t.now = max s.now (s.ulk.deliveredAt + (ms 1 - bitTimes true 12)) ∧
        t.ulk = { s.ulk with
          answerState := .sending
          sendEnd := t.now + bitTimes true (chars.length * 11 + (chars.length - 1) * s.dlk.guardGap) } ∧
        ChangesOnly [.now, .ulk] s t) ∧
    (s.ulk.answerState = .sending → ∃ t, exec .answerSent s = .next t ∧ t.now = max s.now s.ulk.sendEnd ∧
      t.ulk = { s.ulk with answerState := .free, answer := none } ∧ ChangesOnly [.now, .ulk] s t)

/-! ## The downstream segment -/

/-- R163, R166, R167, R172: EXCHANGE_START on an owned and idle segment. An own frame goes first, then a queued transit, then the
first poll from the pointer on that is due; a poll of a PASSIVE entry that finds no report slot is deferred, and with no other poll
due nothing begins. A deferred poll waits for a slot also where its entry has become the BILL or the CARD entry: the model's reading
(log entry 53). An own frame goes to the node it was queued for, also where that is by then a second entry of its role: the
model's reading (log entry 51). A release that waits for the end of a frame whose exchange has gone completes with it (log entry 17).
R155, R163, R166: the end of a downstream frame starts the response timeout of its exchange and leaves the receiver READY, without
what is left of a frame that was being received (log entry 49), and the due time of an entry makes its poll due unless the segment
is RELEASED. Each is taken at the later of now and its due time (log entry 1). -/
def Obligations.ExchangesStartInTheirOrder : Prop :=
  (∀ s : State, s.dlk.seg = .owned → s.dlk.exchange = none → s.dlk.sending = none →
     let started (k : ExchKind) (dest i : Nat) (kind : Byte) (payload : List Byte) (t : State) : Prop :=
       t.dlk.exchange = some ⟨k, dest, i, (routeOf s i).timeout, s.dlk.fastRate, none, false⟩ ∧
       t.dlk.sending = some ⟨frame (ch dest) (ownNode s) kind payload,
         s.now + frameTicks s.dlk.fastRate (payload.length + 5) s.dlk.guardGap⟩ ∧
       t.dlk.dde = true ∧ t.dlk.rxFast = s.dlk.fastRate ∧ ChangesOnly [.dlk, .rpq] s t ∧
       t.dlk = { t.dlk with
         routes := s.dlk.routes, nextTag := s.dlk.nextTag, seg := s.dlk.seg, sgr := s.dlk.sgr, rx := s.dlk.rx,
         requestWaiting := s.dlk.requestWaiting, fastRate := s.dlk.fastRate, guardGap := s.dlk.guardGap }
     let due (i : Nat) : Prop := (routeOf s i).inUse = true ∧ (pollOf s i).due = true ∧ (pollOf s i).deferred = false
     let nth (k : Nat) : Nat := (s.dlk.pointer + k) % 8
     let wait (i : Nat) : Nat := if (routeOf s i).presence = .present then ms (routeOf s i).pollInterval else ms 1000
     (∀ f rest i r, s.dlk.own = f :: rest → coveringEntry s f.node = some (i, r) →
       ∃ t, exec .exchangeStart s = .next t ∧ started (.own f) f.node i f.kind.kind f.kind.payload t ∧ t.dlk.own = rest ∧
         t.rpq = s.rpq ∧ t.dlk.transits = s.dlk.transits ∧ t.dlk.polls = s.dlk.polls) ∧
     (∀ q i r, s.dlk.own = [] → s.dlk.transits.find? (fun u => !u.sent) = some q → coveringEntry s q.dest = some (i, r) →
       ∃ t, exec .exchangeStart s = .next t ∧ started (.transit q.tag) q.dest i q.kind q.payload t ∧ t.rpq = s.rpq ∧
         t.dlk.transits = s.dlk.transits.map (fun u => if u.tag = q.tag then { u with sent := true } else u)) ∧
     (∀ q, s.dlk.own = [] → s.dlk.transits.find? (fun u => !u.sent) = some q → coveringEntry s q.dest = none →
       1 ≤ s.rpq.reserved → ∃ t, exec .exchangeStart s = .next t ∧ ChangesOnly [.dlk, .rpq] s t ∧
         t.dlk = { s.dlk with transits := s.dlk.transits.filter fun u => u.tag != q.tag } ∧
         t.rpq = { s.rpq with queue := s.rpq.queue ++ [.event (.transitLost q.tag)], reserved := s.rpq.reserved - 1 }) ∧
     (s.dlk.own = [] → s.dlk.transits.find? (fun u => !u.sent) = none →
       ((∀ i < 8, ¬due i) → exec .exchangeStart s = .next s) ∧
       (∀ k < 8, due (nth k) → (∀ j < k, ¬due (nth j)) → s.rpq.queue.length + s.rpq.reserved < 32 →
         ∃ t, exec .exchangeStart s = .next t ∧ started (.poll true) (routeOf s (nth k)).base (nth k) 0x20 [] t ∧
           t.rpq = { s.rpq with reserved := s.rpq.reserved + 1 } ∧ t.dlk.pointer = (nth k + 1) % 8 ∧
           pollOf t (nth k) = ⟨s.now + wait (nth k), false, false⟩ ∧ ∀ j, j ≠ nth k → pollOf t j = pollOf s j) ∧
       (∀ k < 8, due (nth k) → actsPassive s (nth k) = false → (∀ j < k, due (nth j) → actsPassive s (nth j) = true) →
         32 ≤ s.rpq.queue.length + s.rpq.reserved →
         ∃ t, exec .exchangeStart s = .next t ∧ started (.poll false) (routeOf s (nth k)).base (nth k) 0x20 [] t ∧
           t.rpq = s.rpq ∧ t.dlk.pointer = (nth k + 1) % 8 ∧ pollOf t (nth k) = ⟨s.now + wait (nth k), false, false⟩ ∧
           ∀ j < k, due (nth j) → (pollOf t (nth j)).deferred = true) ∧
       ((∀ i < 8, due i → actsPassive s i = true) → 32 ≤ s.rpq.queue.length + s.rpq.reserved →
         ∃ t, exec .exchangeStart s = .next t ∧ ChangesOnly [.dlk] s t ∧ t.dlk = { s.dlk with polls := t.dlk.polls } ∧
           ∀ i < 8, (due i → pollOf t i = { pollOf s i with deferred := true }) ∧ (¬due i → pollOf t i = pollOf s i)))) ∧
  (∀ s : State,
     (∀ f x, s.dlk.sending = some f → s.dlk.exchange = some x → x.awaiting = none →
       ∃ t, exec .downstreamFrameSent s = .next t ∧ t.now = max s.now f.finish ∧ ChangesOnly [.now, .dlk] s t ∧
         t.dlk = { s.dlk with
           sending := none
           dde := false
           exchange := some { x with awaiting := some t.now }
           rx := { line := .ready, buffer := [], count := 0, overrun := false, idleFrom := t.now, markAt := t.now } }) ∧
     (∀ f, s.dlk.sending = some f → s.dlk.exchange = none →
       ∃ t, exec .downstreamFrameSent s = .next t ∧ t.now = max s.now f.finish ∧ ChangesOnly [.now, .dlk] s t ∧
         t.dlk.sending = none ∧ t.dlk.dde = false ∧ t.dlk.rx.line = .ready ∧
         t.dlk.seg = (if s.dlk.seg = .releasePending then .released else s.dlk.seg)) ∧
     (∀ i : Fin 8, (routeOf s i).inUse = true → (pollOf s i).due = false → s.dlk.seg ≠ .released →
       ∃ t, exec (.pollDue i) s = .next t ∧ t.now = max s.now (pollOf s i).nextDue ∧ ChangesOnly [.now, .dlk] s t ∧
         t.dlk = { s.dlk with polls := t.dlk.polls } ∧ pollOf t i = { pollOf s i with due := true } ∧
         ∀ j, j ≠ i.val → pollOf t j = pollOf s j))

/-- R164, R165, R170, R172, R174: a good frame from the awaited destination ends the exchange as replied: its entry is PRESENT
with no miss, and each kind of exchange has its effect: an own frame's owner takes its end, acknowledged or not; an EVENT goes by
the entry's role to CSH or CRD, with its parameters, or else becomes a PERIPHERAL_EVENT in the poll's slot or is discarded and
counted (R168, R192). Another sender's frame leaves the exchange waiting.
The model's readings: an acknowledged ENABLE sets the last sent enable of the entry that is BILL by then (log entry 51), a SESSION
OPEN's known character and its funds (log entries 21 and 50), and no report for a discard at 255 (log entry 52). -/
def Obligations.RepliesEndTheExchange : Prop :=
  ∀ (x : Exchange) (since : Time) (src kind : Byte) (payload : List Byte) (s : State),
    awaitingExchange s = some (x, since) → s.dlk.seg ≠ .released →
    (src.toNat = x.dest → ∃ t, exec (.reply src kind payload) s = .next t ∧ t.now = s.now ∧ t.dlk.exchange = none ∧
      t.dlk.rx = .readyAt s.now ∧ t.ulk = s.ulk ∧ t.cmn = s.cmn ∧ t.mgt = s.mgt ∧
      (∀ i r, coveringEntry s x.dest = some (i, r) → (routeOf t i).presence = .present ∧ (routeOf t i).missed = 0 ∧
        (r.presence ≠ .present → Reported (.node r.base) t)) ∧
      (∀ tag, x.kind = .transit tag → 1 ≤ s.rpq.reserved →
        .event (.transitReply tag src.toNat kind payload) ∈ t.rpq.queue ∧ t.rpq.reserved = s.rpq.reserved - 1 ∧
          ∀ q ∈ t.dlk.transits, q.tag ≠ tag) ∧
      (∀ node m i r, x.kind = .own ⟨node, .enable m⟩ → kind = 0x23 → entryOf .bill s = some (i, r) →
        (routeOf t i).lastEnable = some m) ∧
      (∀ f, x.kind = .own f → s.dlk.seg = .owned →
        ∃ u, ChangesOnly [.dlk, .rpq] s u ∧ u.dlk.exchange = none ∧ t = ownFrameEnds (decide (kind = 0x23)) f u) ∧
      (∀ slot, x.kind = .poll slot → kind ≠ 0x22 → t.rpq.reserved = s.rpq.reserved - (if slot then 1 else 0)) ∧
      (let entry (r : Role) : Prop := (entryOf r s).map (·.1) = some x.entry
       let consumed (code : Byte) (params : List Byte) (ev : PeripheralEvent) : Prop :=
         (entry .bill ∧ ∃ c, params = [c] ∧ (code = 1 ∧ ev = .billEscrow c.toNat ∨ code = 2 ∧ ev = .billStacked c.toNat ∨
           code = 3 ∧ ev = .billReturned)) ∨
         (entry .card ∧ (params = [] ∧ (code = 9 ∧ ev = .sessionClose ∨ code = 0x0B ∧ ev = .denied) ∨
           ∃ lo hi, (params = [lo, hi] ∧ code = 0x0A ∧ ev = .approved (lo.toNat + 256 * hi.toNat)) ∨
             (params = [0, lo, hi] ∧ code = 8 ∧ ev = .sessionOpen none) ∨
             (params = [1, lo, hi] ∧ code = 8 ∧ ev = .sessionOpen (some (lo.toNat + 256 * hi.toNat)))))
       ∀ slot code params, x.kind = .poll slot → kind = 0x22 → payload = code :: params →
         (∀ ev, consumed code params ev → s.dlk.seg = .owned → ∃ u, ChangesOnly [.dlk, .rpq] s u ∧ u.dlk.exchange = none ∧
           u.rpq.reserved = s.rpq.reserved - (if slot then 1 else 0) ∧ t = takeEvent x.dest ev u) ∧
         ((∀ ev, ¬consumed code params ev) →
           (slot = true → 1 ≤ s.rpq.reserved →
             .event (.peripheralEvent x.dest code params) ∈ t.rpq.queue ∧ t.rpq.reserved = s.rpq.reserved - 1) ∧
           (slot = false → x.entry < 8 →
             (routeOf t x.entry).discarded = min 255 ((routeOf s x.entry).discarded + 1) ∧
             ((routeOf s x.entry).discarded < 255 → Reported (.node (routeOf s x.entry).base) t)))) ∧
      (s.dlk.seg = .releasePending → s.dlk.sending = none → t.dlk.seg = .released ∧ t.dlk.sgr = true)) ∧
    (src.toNat ≠ x.dest → x.expired = false →
      exec (.reply src kind payload) s = .next { s with dlk := { s.dlk with rx := .readyAt s.now } })

/-- R164, R165, R172: the response timeout ends the exchange as missed. A PRESENT entry's missed count rises, and the third miss
makes it LOST and drops the own frames that wait for its node: shown where their owners have nothing to act on. CRD takes the loss
of the CARD node (R109), and the owner of an own frame its end without acknowledgement. A timeout that passes while a frame is
being received waits for that frame's end. It is taken at the later of now and its due time (log entry 1). -/
def Obligations.TimeoutsEndTheExchangeMissed : Prop :=
  ∀ (x : Exchange) (since : Time) (s : State), awaitingExchange s = some (x, since) → x.expired = false →
    (s.dlk.rx.line = .receiving → ∃ t, exec .responseTimeout s = .next t ∧ t.now = max s.now (since + ms x.timeout) ∧
      t.dlk = { s.dlk with exchange := some { x with expired := true } } ∧ ChangesOnly [.now, .dlk] s t) ∧
    (s.dlk.rx.line ≠ .receiving → ∃ t, exec .responseTimeout s = .next t ∧ t.now = max s.now (since + ms x.timeout) ∧
      t.dlk.exchange = none ∧
      (∀ i r, coveringEntry s x.dest = some (i, r) →
        (r.presence ≠ .present → (routeOf t i).presence = r.presence ∧ (routeOf t i).missed = r.missed) ∧
        (r.presence = .present → r.missed < 2 →
          (routeOf t i).presence = .present ∧ (routeOf t i).missed = r.missed + 1) ∧
        (r.presence = .present → 2 ≤ r.missed → (routeOf t i).presence = .lost ∧ (routeOf t i).missed = 3 ∧
          Reported (.node r.base) t ∧
          (s.crd.state = .none ∨ s.crd.state = .opened → s.crd.owed = none → s.csh.escrow = none →
            t.dlk.own = s.dlk.own.filter fun f => f.node != r.base) ∧
          (entryOf .card s = some (i, r) → entryOf .bill s = none → s.dlk.own = [] → x.kind = .poll false → s.dlk.seg = .owned →
            ∃ u, ChangesOnly [.now, .dlk, .rpq] s u ∧ t = readerLost u))) ∧
      (∀ f, x.kind = .own f → s.dlk.seg = .owned →
        (∀ i r, coveringEntry s x.dest = some (i, r) → r.presence ≠ .present ∨ r.missed < 2) →
        ∃ u, ChangesOnly [.now, .dlk] s u ∧ t = ownFrameEnds false f u) ∧
      (∀ tag, x.kind = .transit tag → 1 ≤ s.rpq.reserved →
        (∀ i r, coveringEntry s x.dest = some (i, r) → r.presence ≠ .present ∨ r.missed < 2) →
        t.rpq = { s.rpq with queue := s.rpq.queue ++ [.event (.transitLost tag)], reserved := s.rpq.reserved - 1 } ∧
          t.dlk.transits = s.dlk.transits.filter fun q => q.tag != tag))

/-- R149, R173 to R175: the segment's states at a change of the service request. That a release pends while a frame is being sent
whose exchange has ended is the model's reading (log entry 17), and so are the due and deferred marks cleared on entry to RELEASED
(log entry 33). -/
def Obligations.TheServiceToolGetsTheSegment : Prop :=
  ∀ (active : Bool) (s : State), s.cmn.srqActive ≠ active →
    ∃ t, exec (.serviceRequestChange active) s = .next t ∧ t.cmn = { s.cmn with srqActive := active } ∧
      ChangesOnly [.cmn, .dlk] s t ∧
      (active = true → s.dlk.seg = .owned → s.mgt.mode = .online →
        t.dlk = { s.dlk with requestWaiting := true }) ∧
      (active = true → s.dlk.seg = .owned → s.mgt.mode ≠ .online → t.dlk.requestWaiting = false ∧
        (s.dlk.exchange = none → s.dlk.sending = none →
          t.dlk.seg = .released ∧ t.dlk.sgr = true ∧ t.dlk.dde = false ∧
            ∀ i, (pollOf t i).due = false ∧ (pollOf t i).deferred = false) ∧
        (s.dlk.exchange.isSome ∨ s.dlk.sending.isSome → t.dlk.seg = .releasePending ∧ t.dlk.sgr = s.dlk.sgr)) ∧
      (active = true → s.dlk.seg ≠ .owned → t.dlk = s.dlk) ∧
      (active = false → s.dlk.seg = .owned → t.dlk = { s.dlk with requestWaiting := false }) ∧
      (active = false → s.dlk.seg = .releasePending → t.dlk = { s.dlk with seg := .owned }) ∧
      (active = false → s.dlk.seg = .released → t.dlk.seg = .owned ∧ t.dlk.sgr = false ∧
        ∀ i < 8, routeOf t i = { routeOf s i with missed := 0 } ∧
          ((routeOf s i).inUse = true → (pollOf t i).due = true ∧ (pollOf t i).deferred = false))

/-! ## Management reset, and what every step keeps -/

/-- R23, R37, R49, R65, R96, R97, R111, R142, R176, R187, R193, R198: RESET ends all work in flight and sets the mode by the
supply; the answer is OK and survives the reset. It keeps the tables, the settings and the compressor, which files again a claim
that it waits with, to be evaluated in the reset's step (log entry 41). The credit takes back a held price that no drop has earned
and the remainder of a payout. -/
def Obligations.ManagementResetEndsTheWork : Prop :=
  ∀ (src : Byte) (s : State), Deliverable s → ∃ t, exec (.reset src []) s = .next t ∧
    Answered src 0x15 (okAnswer []) s t ∧ t.now = s.now ∧ t.pending = s.pending ∧ t.cmn = s.cmn ∧
    t.mgt = { mode := if s.cmn.supplyLow then .safe else .setup, returnMode := .setup } ∧
    t.vnd.ctx = none ∧ t.spd.turn = none ∧ t.spd.sweep = none ∧ t.spd.rowOn = none ∧ t.spd.colsOn = [] ∧ t.chg.payout = none ∧
    t.csh.escrow = none ∧ t.csh.gateOpen = false ∧
    t.crd = { state := .none, funds := none, deadline := none, lastRequest := none, owed := none, closePending := false } ∧
    t.dlk.transits = [] ∧ t.dlk.exchange = none ∧ t.rpq.reserved = 0 ∧ t.dlk.routes = s.dlk.routes ∧
    t.dlk.nextTag = s.dlk.nextTag ∧
    t.lds.vendUnits = 0 ∧ t.lds.payoutUnits = 0 ∧ t.lds.coilUnits = 0 ∧
    t.spd.trays = s.spd.trays ∧ t.csh.coins = s.csh.coins ∧ t.csh.bills = s.csh.bills ∧
    t.csh.creditLimit = s.csh.creditLimit ∧ t.csh.hostMask = s.csh.hostMask ∧ t.chg.tubes = s.chg.tubes ∧
    t.clg.settings = s.clg.settings ∧ t.clg.points = s.clg.points ∧ t.clg.hold = s.clg.hold ∧ t.spd.health = s.spd.health ∧
    t.csh.strict = s.csh.strict ∧ t.csh.multiVend = s.csh.multiVend ∧ t.spd.jamThreshold = s.spd.jamThreshold ∧
    t.dlk.fastRate = s.dlk.fastRate ∧ t.dlk.guardGap = s.dlk.guardGap ∧
    ((s.chg.drive.isSome → s.chg.payout.isSome) → t.chg.drive = none) ∧
    (s.clg.comp ≠ .waitSupply → s.clg.comp ≠ .blindOn ∨ s.clg.contactor = true →
      t.clg = { s.clg with ecoEffective := t.clg.ecoEffective } ∧ t.lds.compUnits = s.lds.compUnits ∧ t.lds.claims = []) ∧
    (s.clg.comp = .waitSupply → 0 < s.lds.compUnits →
      t.clg = { s.clg with ecoEffective := t.clg.ecoEffective } ∧ t.lds.claims = [⟨.compressor, 4, s.now, false⟩]) ∧
    (s.clg.comp = .waitSupply → s.lds.compUnits = 0 → s.cmn.supplyLow = false →
      t.clg.comp = .start ∧ t.clg.contactor = true ∧ t.clg.startedAt = s.now ∧ t.lds.compUnits = 4 ∧ t.lds.claims = []) ∧
    (s.vnd.ctx = none → t.sel.table = s.sel.table ∧ t.csh.audit = s.csh.audit) ∧
    (let dropped : Prop := ∃ v, s.vnd.ctx = some v ∧ (v.stage = .turn1 ∨ v.stage = .turn2) ∧
       (v.dropSeen = true ∨ s.spd.turn.any (fun w => w.dropSeen) = true)
     (∀ v, s.vnd.ctx = some v → (v.stage = .settling ↔ v.outcome.isSome)) →
     s.csh.credit + heldPrice s + moneyOwed s ≤ 65535 →
       (¬dropped → t.csh.credit = s.csh.credit + heldPrice s + moneyOwed s) ∧
       (dropped → t.csh.credit = s.csh.credit + moneyOwed s)) ∧
    (∀ v, s.vnd.ctx = some v → v.stage = .approvalWait ∨ v.stage = .loadWait → t.sel.table = s.sel.table ∧
      .event (.vendResult v.selection v.payment .cancelled v.price (if v.payment = .card then some false else none) none) ∈
        t.rpq.queue) ∧
    (∀ p, s.chg.payout = some p →
      .event (.payoutResult p.source p.requested p.paid (decide (p.paid < p.requested)) p.coins) ∈ t.rpq.queue)

/-- R136: no step grants more than four units in all, nor files a claim for other than the units of its kind.
R29, R45, R122, R127, R140: no step leaves a payout drive on without the payout's unit, the contactor on without a unit, an
energized coil check without its unit, or a row without its columns, nor files a claim for a DISABLED compressor. -/
def Obligations.EveryStepKeepsUnitsAndDrivesSafe : Prop :=
  (∀ s t : State, UnitsSafe s → step s = .next t → UnitsSafe t) ∧
  (∀ s t : State, step s = .next t →
     (PayoutDriveCovered s → PayoutDriveCovered t) ∧ (CompressorCovered s → CompressorCovered t) ∧
       (DisabledUnclaimed s → DisabledUnclaimed t) ∧ (CheckCovered s → CheckCovered t) ∧ (MatrixSafe s → MatrixSafe t))

/-- R193, R195, R196: every step keeps the report queue within its 32 slots, each key in it at most once, and a key dirty only
while no slot is free. -/
def Obligations.EveryStepKeepsTheReportsSafe : Prop :=
  ∀ s t : State, ReportsSafe s → step s = .next t → ReportsSafe t

/-- R141, R144, R145: the mode is SAFE exactly while the supply is LOW, and in SAFE no unit is granted, no claim waits and nothing
is driven. Every step keeps this, with the ownership of what is driven that it rests on. -/
def Obligations.EveryStepKeepsSafeQuiet : Prop :=
  ∀ s t : State, SafeIffLow s ∧ SafeIsQuiet s ∧ DrivesOwned s ∧ CoilClaimOwned s ∧ CompressorCovered s → step s = .next t →
    SafeIffLow t ∧ SafeIsQuiet t ∧ DrivesOwned t ∧ CoilClaimOwned t ∧ CompressorCovered t

/-- R29, R45, R127, R136, R140, R141, R193: the machine right after reset meets every invariant that a step keeps. The line levels that
`State.reset` was read with are the model's choice (log entry 5). -/
def Obligations.ResetMeetsEveryInvariant : Prop :=
  let s := State.reset
  UnitsSafe s ∧ ReportsSafe s ∧ PayoutDriveCovered s ∧ CompressorCovered s ∧ DisabledUnclaimed s ∧ CheckCovered s ∧ MatrixSafe s ∧
    SafeIffLow s ∧ SafeIsQuiet s ∧ DrivesOwned s ∧ CoilClaimOwned s
end

