-- ==== Sys2Proof/Laws/CoreFrames.lean ====
section
/-! SUPPORT. Frames: what the operations of the clock, the report queue, the Selection Store, the Cash Unit's flags,
the Spiral Drive and the payouts leave as it was. -/

namespace Sys2Proof.Machine

@[simp] theorem upTo_frame (s : State) (due : Time) :
    (State.upTo s due).pending = s.pending ∧ (State.upTo s due).freeIx = s.freeIx ∧
    (State.upTo s due).sel = s.sel ∧ (State.upTo s due).vnd = s.vnd ∧ (State.upTo s due).spd = s.spd ∧
    (State.upTo s due).csh = s.csh ∧ (State.upTo s due).chg = s.chg ∧ (State.upTo s due).crd = s.crd ∧
    (State.upTo s due).clg = s.clg ∧ (State.upTo s due).lds = s.lds ∧ (State.upTo s due).cmn = s.cmn ∧
    (State.upTo s due).ulk = s.ulk ∧ (State.upTo s due).dlk = s.dlk ∧ (State.upTo s due).mgt = s.mgt ∧
    (State.upTo s due).rpq = s.rpq := by
  and_intros <;> simp only [State.upTo]

@[simp] theorem report_frame (k : StateKey) (s : State) :
    (report k s).now = s.now ∧ (report k s).pending = s.pending ∧ (report k s).freeIx = s.freeIx ∧
    (report k s).sel = s.sel ∧ (report k s).vnd = s.vnd ∧ (report k s).spd = s.spd ∧ (report k s).csh = s.csh ∧
    (report k s).chg = s.chg ∧ (report k s).crd = s.crd ∧ (report k s).clg = s.clg ∧ (report k s).lds = s.lds ∧
    (report k s).cmn = s.cmn ∧ (report k s).ulk = s.ulk ∧ (report k s).dlk = s.dlk ∧ (report k s).mgt = s.mgt := by
  and_intros <;> simp only [report] <;> (repeat' split) <;> simp

@[simp] theorem reportIf_frame (c : Bool) (k : StateKey) (s : State) :
    (reportIf c k s).now = s.now ∧ (reportIf c k s).pending = s.pending ∧ (reportIf c k s).freeIx = s.freeIx ∧
    (reportIf c k s).sel = s.sel ∧ (reportIf c k s).vnd = s.vnd ∧ (reportIf c k s).spd = s.spd ∧
    (reportIf c k s).csh = s.csh ∧ (reportIf c k s).chg = s.chg ∧ (reportIf c k s).crd = s.crd ∧
    (reportIf c k s).clg = s.clg ∧ (reportIf c k s).lds = s.lds ∧ (reportIf c k s).cmn = s.cmn ∧
    (reportIf c k s).ulk = s.ulk ∧ (reportIf c k s).dlk = s.dlk ∧ (reportIf c k s).mgt = s.mgt := by
  and_intros <;> simp only [reportIf] <;> (repeat' split) <;> simp

@[simp] theorem clearDeferred_frame (s : State) :
    (clearDeferred s).now = s.now ∧ (clearDeferred s).pending = s.pending ∧ (clearDeferred s).freeIx = s.freeIx ∧
    (clearDeferred s).sel = s.sel ∧ (clearDeferred s).vnd = s.vnd ∧ (clearDeferred s).spd = s.spd ∧
    (clearDeferred s).csh = s.csh ∧ (clearDeferred s).chg = s.chg ∧ (clearDeferred s).crd = s.crd ∧
    (clearDeferred s).clg = s.clg ∧ (clearDeferred s).lds = s.lds ∧ (clearDeferred s).cmn = s.cmn ∧
    (clearDeferred s).ulk = s.ulk ∧ (clearDeferred s).mgt = s.mgt ∧ (clearDeferred s).rpq = s.rpq := by
  and_intros <;> simp only [clearDeferred]

@[simp] theorem slotFreed_frame (s : State) :
    (slotFreed s).now = s.now ∧ (slotFreed s).pending = s.pending ∧ (slotFreed s).freeIx = s.freeIx ∧
    (slotFreed s).sel = s.sel ∧ (slotFreed s).vnd = s.vnd ∧ (slotFreed s).spd = s.spd ∧ (slotFreed s).csh = s.csh ∧
    (slotFreed s).chg = s.chg ∧ (slotFreed s).crd = s.crd ∧ (slotFreed s).clg = s.clg ∧ (slotFreed s).lds = s.lds ∧
    (slotFreed s).cmn = s.cmn ∧ (slotFreed s).ulk = s.ulk ∧ (slotFreed s).mgt = s.mgt := by
  and_intros <;> simp only [slotFreed] <;> (repeat' split) <;> simp

@[simp] theorem reserve_frame (n : Nat) (s : State) :
    (reserve n s).now = s.now ∧ (reserve n s).pending = s.pending ∧ (reserve n s).freeIx = s.freeIx ∧
    (reserve n s).sel = s.sel ∧ (reserve n s).vnd = s.vnd ∧ (reserve n s).spd = s.spd ∧ (reserve n s).csh = s.csh ∧
    (reserve n s).chg = s.chg ∧ (reserve n s).crd = s.crd ∧ (reserve n s).clg = s.clg ∧ (reserve n s).lds = s.lds ∧
    (reserve n s).cmn = s.cmn ∧ (reserve n s).ulk = s.ulk ∧ (reserve n s).dlk = s.dlk ∧
    (reserve n s).mgt = s.mgt := by
  and_intros <;> simp only [reserve]

@[simp] theorem appendEvent_frame (ev : EventReport) (s : State) :
    (appendEvent ev s).now = s.now ∧ (appendEvent ev s).pending = s.pending ∧
    (appendEvent ev s).freeIx = s.freeIx ∧ (appendEvent ev s).sel = s.sel ∧ (appendEvent ev s).vnd = s.vnd ∧
    (appendEvent ev s).spd = s.spd ∧ (appendEvent ev s).csh = s.csh ∧ (appendEvent ev s).chg = s.chg ∧
    (appendEvent ev s).crd = s.crd ∧ (appendEvent ev s).clg = s.clg ∧ (appendEvent ev s).lds = s.lds ∧
    (appendEvent ev s).cmn = s.cmn ∧ (appendEvent ev s).ulk = s.ulk ∧ (appendEvent ev s).dlk = s.dlk ∧
    (appendEvent ev s).mgt = s.mgt := by
  and_intros <;> simp only [appendEvent] <;> (repeat' split) <;> simp

@[simp] theorem consumeSlot_frame (ev : EventReport) (s : State) :
    (consumeSlot ev s).now = s.now ∧ (consumeSlot ev s).pending = s.pending ∧
    (consumeSlot ev s).freeIx = s.freeIx ∧ (consumeSlot ev s).sel = s.sel ∧ (consumeSlot ev s).vnd = s.vnd ∧
    (consumeSlot ev s).spd = s.spd ∧ (consumeSlot ev s).csh = s.csh ∧ (consumeSlot ev s).chg = s.chg ∧
    (consumeSlot ev s).crd = s.crd ∧ (consumeSlot ev s).clg = s.clg ∧ (consumeSlot ev s).lds = s.lds ∧
    (consumeSlot ev s).cmn = s.cmn ∧ (consumeSlot ev s).ulk = s.ulk ∧ (consumeSlot ev s).dlk = s.dlk ∧
    (consumeSlot ev s).mgt = s.mgt := by
  and_intros <;> simp only [consumeSlot] <;> (repeat' split) <;> simp

@[simp] theorem releaseSlot_frame (s : State) :
    (releaseSlot s).now = s.now ∧ (releaseSlot s).pending = s.pending ∧ (releaseSlot s).freeIx = s.freeIx ∧
    (releaseSlot s).sel = s.sel ∧ (releaseSlot s).vnd = s.vnd ∧ (releaseSlot s).spd = s.spd ∧
    (releaseSlot s).csh = s.csh ∧ (releaseSlot s).chg = s.chg ∧ (releaseSlot s).crd = s.crd ∧
    (releaseSlot s).clg = s.clg ∧ (releaseSlot s).lds = s.lds ∧ (releaseSlot s).cmn = s.cmn ∧
    (releaseSlot s).ulk = s.ulk ∧ (releaseSlot s).mgt = s.mgt := by
  and_intros <;> simp only [releaseSlot] <;> (repeat' split) <;> simp

@[simp] theorem popReport_frame (s : State) :
    (popReport s).now = s.now ∧ (popReport s).pending = s.pending ∧ (popReport s).freeIx = s.freeIx ∧
    (popReport s).sel = s.sel ∧ (popReport s).vnd = s.vnd ∧ (popReport s).spd = s.spd ∧ (popReport s).csh = s.csh ∧
    (popReport s).chg = s.chg ∧ (popReport s).crd = s.crd ∧ (popReport s).clg = s.clg ∧ (popReport s).lds = s.lds ∧
    (popReport s).cmn = s.cmn ∧ (popReport s).ulk = s.ulk ∧ (popReport s).mgt = s.mgt := by
  and_intros <;> simp only [popReport] <;> simp

@[simp] theorem emptyReports_frame (s : State) :
    (emptyReports s).now = s.now ∧ (emptyReports s).pending = s.pending ∧ (emptyReports s).freeIx = s.freeIx ∧
    (emptyReports s).sel = s.sel ∧ (emptyReports s).vnd = s.vnd ∧ (emptyReports s).spd = s.spd ∧
    (emptyReports s).csh = s.csh ∧ (emptyReports s).chg = s.chg ∧ (emptyReports s).crd = s.crd ∧
    (emptyReports s).clg = s.clg ∧ (emptyReports s).lds = s.lds ∧ (emptyReports s).cmn = s.cmn ∧
    (emptyReports s).ulk = s.ulk ∧ (emptyReports s).mgt = s.mgt := by
  and_intros <;> simp only [emptyReports] <;> simp

@[simp] theorem addCredit_frame (n : Nat) (s : State) :
    (addCredit n s).now = s.now ∧ (addCredit n s).pending = s.pending ∧ (addCredit n s).sel = s.sel ∧
    (addCredit n s).vnd = s.vnd ∧ (addCredit n s).spd = s.spd ∧ (addCredit n s).chg = s.chg ∧
    (addCredit n s).crd = s.crd ∧ (addCredit n s).clg = s.clg ∧ (addCredit n s).lds = s.lds ∧
    (addCredit n s).cmn = s.cmn ∧ (addCredit n s).ulk = s.ulk ∧ (addCredit n s).dlk = s.dlk ∧
    (addCredit n s).mgt = s.mgt := by
  and_intros <;> simp only [addCredit] <;> (repeat' split) <;> simp

@[simp] theorem takeCredit_frame (n : Nat) (s : State) :
    (takeCredit n s).now = s.now ∧ (takeCredit n s).pending = s.pending ∧ (takeCredit n s).freeIx = s.freeIx ∧
    (takeCredit n s).sel = s.sel ∧ (takeCredit n s).vnd = s.vnd ∧ (takeCredit n s).spd = s.spd ∧
    (takeCredit n s).chg = s.chg ∧ (takeCredit n s).crd = s.crd ∧ (takeCredit n s).clg = s.clg ∧
    (takeCredit n s).lds = s.lds ∧ (takeCredit n s).cmn = s.cmn ∧ (takeCredit n s).ulk = s.ulk ∧
    (takeCredit n s).dlk = s.dlk ∧ (takeCredit n s).mgt = s.mgt := by
  and_intros <;> simp only [takeCredit] <;> (repeat' split) <;> simp

@[simp] theorem ecoRefresh_frame (s : State) :
    (ecoRefresh s).now = s.now ∧ (ecoRefresh s).pending = s.pending ∧ (ecoRefresh s).freeIx = s.freeIx ∧
    (ecoRefresh s).sel = s.sel ∧ (ecoRefresh s).vnd = s.vnd ∧ (ecoRefresh s).spd = s.spd ∧
    (ecoRefresh s).csh = s.csh ∧ (ecoRefresh s).chg = s.chg ∧ (ecoRefresh s).crd = s.crd ∧
    (ecoRefresh s).lds = s.lds ∧ (ecoRefresh s).cmn = s.cmn ∧ (ecoRefresh s).ulk = s.ulk ∧
    (ecoRefresh s).dlk = s.dlk ∧ (ecoRefresh s).mgt = s.mgt := by
  and_intros <;> simp only [ecoRefresh] <;> (repeat' split) <;> simp

/-- Reports of several keys, one after the other. -/
@[simp] theorem reports_frame {α : Type} (key : α → StateKey) (l : List α) (s : State) :
    (l.foldl (fun a i => report (key i) a) s).now = s.now ∧
    (l.foldl (fun a i => report (key i) a) s).pending = s.pending ∧
    (l.foldl (fun a i => report (key i) a) s).freeIx = s.freeIx ∧
    (l.foldl (fun a i => report (key i) a) s).sel = s.sel ∧ (l.foldl (fun a i => report (key i) a) s).vnd = s.vnd ∧
    (l.foldl (fun a i => report (key i) a) s).spd = s.spd ∧ (l.foldl (fun a i => report (key i) a) s).csh = s.csh ∧
    (l.foldl (fun a i => report (key i) a) s).chg = s.chg ∧ (l.foldl (fun a i => report (key i) a) s).crd = s.crd ∧
    (l.foldl (fun a i => report (key i) a) s).clg = s.clg ∧ (l.foldl (fun a i => report (key i) a) s).lds = s.lds ∧
    (l.foldl (fun a i => report (key i) a) s).cmn = s.cmn ∧ (l.foldl (fun a i => report (key i) a) s).ulk = s.ulk ∧
    (l.foldl (fun a i => report (key i) a) s).dlk = s.dlk ∧
    (l.foldl (fun a i => report (key i) a) s).mgt = s.mgt := by
  induction l generalizing s with
  | nil => simp
  | cons i l ih => simp only [List.foldl_cons]; simp [ih]

@[simp] theorem selRefresh_frame (s : State) :
    (selRefresh s).now = s.now ∧ (selRefresh s).pending = s.pending ∧ (selRefresh s).freeIx = s.freeIx ∧
    (selRefresh s).vnd = s.vnd ∧ (selRefresh s).spd = s.spd ∧ (selRefresh s).csh = s.csh ∧
    (selRefresh s).chg = s.chg ∧ (selRefresh s).crd = s.crd ∧ (selRefresh s).lds = s.lds ∧
    (selRefresh s).cmn = s.cmn ∧ (selRefresh s).ulk = s.ulk ∧ (selRefresh s).dlk = s.dlk ∧
    (selRefresh s).mgt = s.mgt := by
  and_intros <;> simp only [selRefresh] <;> simp

@[simp] theorem storeSelection_frame (i : Nat) (e : Selection) (s : State) :
    (storeSelection i e s).now = s.now ∧ (storeSelection i e s).pending = s.pending ∧
    (storeSelection i e s).freeIx = s.freeIx ∧ (storeSelection i e s).vnd = s.vnd ∧
    (storeSelection i e s).spd = s.spd ∧ (storeSelection i e s).csh = s.csh ∧ (storeSelection i e s).chg = s.chg ∧
    (storeSelection i e s).crd = s.crd ∧ (storeSelection i e s).clg = s.clg ∧ (storeSelection i e s).lds = s.lds ∧
    (storeSelection i e s).cmn = s.cmn ∧ (storeSelection i e s).ulk = s.ulk ∧ (storeSelection i e s).dlk = s.dlk ∧
    (storeSelection i e s).mgt = s.mgt := by
  and_intros <;> simp only [storeSelection] <;> simp

@[simp] theorem storeHealth_frame (tray : Nat) (col : Nat) (h : Health) (s : State) :
    (storeHealth tray col h s).now = s.now ∧ (storeHealth tray col h s).pending = s.pending ∧
    (storeHealth tray col h s).freeIx = s.freeIx ∧ (storeHealth tray col h s).sel = s.sel ∧
    (storeHealth tray col h s).vnd = s.vnd ∧ (storeHealth tray col h s).csh = s.csh ∧
    (storeHealth tray col h s).chg = s.chg ∧ (storeHealth tray col h s).crd = s.crd ∧
    (storeHealth tray col h s).clg = s.clg ∧ (storeHealth tray col h s).lds = s.lds ∧
    (storeHealth tray col h s).cmn = s.cmn ∧ (storeHealth tray col h s).ulk = s.ulk ∧
    (storeHealth tray col h s).dlk = s.dlk ∧ (storeHealth tray col h s).mgt = s.mgt := by
  and_intros <;> simp only [storeHealth] <;> (repeat' split) <;> simp

@[simp] theorem handFrame_frame (role : Role) (k : OwnKind) (s : State) :
    (handFrame role k s).1.now = s.now ∧ (handFrame role k s).1.pending = s.pending ∧
    (handFrame role k s).1.freeIx = s.freeIx ∧ (handFrame role k s).1.sel = s.sel ∧
    (handFrame role k s).1.vnd = s.vnd ∧ (handFrame role k s).1.spd = s.spd ∧ (handFrame role k s).1.csh = s.csh ∧
    (handFrame role k s).1.chg = s.chg ∧ (handFrame role k s).1.crd = s.crd ∧ (handFrame role k s).1.clg = s.clg ∧
    (handFrame role k s).1.lds = s.lds ∧ (handFrame role k s).1.cmn = s.cmn ∧ (handFrame role k s).1.ulk = s.ulk ∧
    (handFrame role k s).1.mgt = s.mgt ∧ (handFrame role k s).1.rpq = s.rpq := by
  and_intros <;> simp only [handFrame] <;> (repeat' split) <;> simp

@[simp] theorem sendEnable_frame (s : State) :
    (sendEnable s).now = s.now ∧ (sendEnable s).pending = s.pending ∧ (sendEnable s).freeIx = s.freeIx ∧
    (sendEnable s).sel = s.sel ∧ (sendEnable s).vnd = s.vnd ∧ (sendEnable s).spd = s.spd ∧
    (sendEnable s).csh = s.csh ∧ (sendEnable s).chg = s.chg ∧ (sendEnable s).crd = s.crd ∧
    (sendEnable s).clg = s.clg ∧ (sendEnable s).lds = s.lds ∧ (sendEnable s).cmn = s.cmn ∧
    (sendEnable s).ulk = s.ulk ∧ (sendEnable s).mgt = s.mgt ∧ (sendEnable s).rpq = s.rpq := by
  and_intros <;> simp only [sendEnable] <;> (repeat' split) <;> simp

@[simp] theorem cshRefresh_frame (s : State) :
    (cshRefresh s).now = s.now ∧ (cshRefresh s).pending = s.pending ∧ (cshRefresh s).freeIx = s.freeIx ∧
    (cshRefresh s).sel = s.sel ∧ (cshRefresh s).vnd = s.vnd ∧ (cshRefresh s).spd = s.spd ∧
    (cshRefresh s).chg = s.chg ∧ (cshRefresh s).crd = s.crd ∧ (cshRefresh s).clg = s.clg ∧
    (cshRefresh s).lds = s.lds ∧ (cshRefresh s).cmn = s.cmn ∧ (cshRefresh s).ulk = s.ulk ∧
    (cshRefresh s).mgt = s.mgt := by
  and_intros <;> simp only [cshRefresh] <;> simp

@[simp] theorem settleCash_frame (before : State) (s : State) :
    (settleCash before s).now = s.now ∧ (settleCash before s).pending = s.pending ∧
    (settleCash before s).freeIx = s.freeIx ∧ (settleCash before s).sel = s.sel ∧
    (settleCash before s).vnd = s.vnd ∧ (settleCash before s).spd = s.spd ∧ (settleCash before s).chg = s.chg ∧
    (settleCash before s).crd = s.crd ∧ (settleCash before s).clg = s.clg ∧ (settleCash before s).lds = s.lds ∧
    (settleCash before s).cmn = s.cmn ∧ (settleCash before s).ulk = s.ulk ∧ (settleCash before s).mgt = s.mgt := by
  and_intros <;> simp only [settleCash] <;> (repeat' split) <;> simp

@[simp] theorem storeTube_frame (i : Nat) (t : Tube) (s : State) :
    (storeTube i t s).now = s.now ∧ (storeTube i t s).pending = s.pending ∧ (storeTube i t s).freeIx = s.freeIx ∧
    (storeTube i t s).sel = s.sel ∧ (storeTube i t s).vnd = s.vnd ∧ (storeTube i t s).spd = s.spd ∧
    (storeTube i t s).csh = s.csh ∧ (storeTube i t s).crd = s.crd ∧ (storeTube i t s).clg = s.clg ∧
    (storeTube i t s).lds = s.lds ∧ (storeTube i t s).cmn = s.cmn ∧ (storeTube i t s).ulk = s.ulk ∧
    (storeTube i t s).dlk = s.dlk ∧ (storeTube i t s).mgt = s.mgt := by
  and_intros <;> simp only [storeTube] <;> simp

@[simp] theorem fileClaim_frame (k : ClaimKind) (units : Nat) (s : State) :
    (fileClaim k units s).now = s.now ∧ (fileClaim k units s).pending = s.pending ∧
    (fileClaim k units s).freeIx = s.freeIx ∧ (fileClaim k units s).sel = s.sel ∧
    (fileClaim k units s).vnd = s.vnd ∧ (fileClaim k units s).spd = s.spd ∧ (fileClaim k units s).csh = s.csh ∧
    (fileClaim k units s).chg = s.chg ∧ (fileClaim k units s).crd = s.crd ∧ (fileClaim k units s).clg = s.clg ∧
    (fileClaim k units s).cmn = s.cmn ∧ (fileClaim k units s).ulk = s.ulk ∧ (fileClaim k units s).dlk = s.dlk ∧
    (fileClaim k units s).mgt = s.mgt ∧ (fileClaim k units s).rpq = s.rpq := by
  and_intros <;> simp only [fileClaim]

@[simp] theorem withdrawClaim_frame (k : ClaimKind) (s : State) :
    (withdrawClaim k s).now = s.now ∧ (withdrawClaim k s).pending = s.pending ∧
    (withdrawClaim k s).freeIx = s.freeIx ∧ (withdrawClaim k s).sel = s.sel ∧ (withdrawClaim k s).vnd = s.vnd ∧
    (withdrawClaim k s).spd = s.spd ∧ (withdrawClaim k s).csh = s.csh ∧ (withdrawClaim k s).chg = s.chg ∧
    (withdrawClaim k s).crd = s.crd ∧ (withdrawClaim k s).clg = s.clg ∧ (withdrawClaim k s).cmn = s.cmn ∧
    (withdrawClaim k s).ulk = s.ulk ∧ (withdrawClaim k s).dlk = s.dlk ∧ (withdrawClaim k s).mgt = s.mgt ∧
    (withdrawClaim k s).rpq = s.rpq := by
  and_intros <;> simp only [withdrawClaim]

@[simp] theorem driversOff_frame (s : State) :
    (driversOff s).now = s.now ∧ (driversOff s).pending = s.pending ∧ (driversOff s).freeIx = s.freeIx ∧
    (driversOff s).sel = s.sel ∧ (driversOff s).vnd = s.vnd ∧ (driversOff s).csh = s.csh ∧
    (driversOff s).chg = s.chg ∧ (driversOff s).crd = s.crd ∧ (driversOff s).clg = s.clg ∧
    (driversOff s).lds = s.lds ∧ (driversOff s).cmn = s.cmn ∧ (driversOff s).ulk = s.ulk ∧
    (driversOff s).dlk = s.dlk ∧ (driversOff s).mgt = s.mgt ∧ (driversOff s).rpq = s.rpq := by
  and_intros <;> simp only [driversOff]

@[simp] theorem columnOff_frame (col : Nat) (s : State) :
    (columnOff col s).now = s.now ∧ (columnOff col s).pending = s.pending ∧ (columnOff col s).freeIx = s.freeIx ∧
    (columnOff col s).sel = s.sel ∧ (columnOff col s).vnd = s.vnd ∧ (columnOff col s).csh = s.csh ∧
    (columnOff col s).chg = s.chg ∧ (columnOff col s).crd = s.crd ∧ (columnOff col s).clg = s.clg ∧
    (columnOff col s).lds = s.lds ∧ (columnOff col s).cmn = s.cmn ∧ (columnOff col s).ulk = s.ulk ∧
    (columnOff col s).dlk = s.dlk ∧ (columnOff col s).mgt = s.mgt ∧ (columnOff col s).rpq = s.rpq := by
  and_intros <;> simp only [columnOff]

@[simp] theorem startTurn_frame (v : VendCtx) (s : State) :
    (startTurn v s).now = s.now ∧ (startTurn v s).pending = s.pending ∧ (startTurn v s).freeIx = s.freeIx ∧
    (startTurn v s).sel = s.sel ∧ (startTurn v s).vnd = s.vnd ∧ (startTurn v s).csh = s.csh ∧
    (startTurn v s).chg = s.chg ∧ (startTurn v s).crd = s.crd ∧ (startTurn v s).clg = s.clg ∧
    (startTurn v s).lds = s.lds ∧ (startTurn v s).cmn = s.cmn ∧ (startTurn v s).ulk = s.ulk ∧
    (startTurn v s).dlk = s.dlk ∧ (startTurn v s).mgt = s.mgt ∧ (startTurn v s).rpq = s.rpq := by
  and_intros <;> simp only [startTurn]

@[simp] theorem storeFinding_frame (tray : Nat) (s : State) (m : Motor) :
    (storeFinding tray s m).now = s.now ∧ (storeFinding tray s m).pending = s.pending ∧
    (storeFinding tray s m).freeIx = s.freeIx ∧ (storeFinding tray s m).sel = s.sel ∧
    (storeFinding tray s m).vnd = s.vnd ∧ (storeFinding tray s m).csh = s.csh ∧
    (storeFinding tray s m).chg = s.chg ∧ (storeFinding tray s m).crd = s.crd ∧
    (storeFinding tray s m).clg = s.clg ∧ (storeFinding tray s m).lds = s.lds ∧
    (storeFinding tray s m).cmn = s.cmn ∧ (storeFinding tray s m).ulk = s.ulk ∧
    (storeFinding tray s m).dlk = s.dlk ∧ (storeFinding tray s m).mgt = s.mgt := by
  and_intros <;> simp only [storeFinding] <;> split <;> simp

@[simp] theorem storeFindings_frame (tray : Nat) (ms : List Motor) (s : State) :
    (ms.foldl (storeFinding tray) s).now = s.now ∧ (ms.foldl (storeFinding tray) s).pending = s.pending ∧
    (ms.foldl (storeFinding tray) s).freeIx = s.freeIx ∧ (ms.foldl (storeFinding tray) s).sel = s.sel ∧
    (ms.foldl (storeFinding tray) s).vnd = s.vnd ∧ (ms.foldl (storeFinding tray) s).csh = s.csh ∧
    (ms.foldl (storeFinding tray) s).chg = s.chg ∧ (ms.foldl (storeFinding tray) s).crd = s.crd ∧
    (ms.foldl (storeFinding tray) s).clg = s.clg ∧ (ms.foldl (storeFinding tray) s).lds = s.lds ∧
    (ms.foldl (storeFinding tray) s).cmn = s.cmn ∧ (ms.foldl (storeFinding tray) s).ulk = s.ulk ∧
    (ms.foldl (storeFinding tray) s).dlk = s.dlk ∧ (ms.foldl (storeFinding tray) s).mgt = s.mgt := by
  induction ms generalizing s with
  | nil => simp
  | cons m ms ih => simp [ih]

@[simp] theorem completeTurn_frame (r : TurnResult) (t : Turn) (s : State) :
    (completeTurn r t s).now = s.now ∧ (completeTurn r t s).pending = s.pending ∧
    (completeTurn r t s).freeIx = s.freeIx ∧ (completeTurn r t s).vnd = s.vnd ∧ (completeTurn r t s).chg = s.chg ∧
    (completeTurn r t s).crd = s.crd ∧ (completeTurn r t s).lds = s.lds ∧ (completeTurn r t s).cmn = s.cmn ∧
    (completeTurn r t s).ulk = s.ulk ∧ (completeTurn r t s).mgt = s.mgt := by
  and_intros <;> simp only [completeTurn] <;> simp

@[simp] theorem motorFault_frame (col : Nat) (finding : Option Health) (r : TurnResult) (t : Turn) (s : State) :
    (motorFault col finding r t s).now = s.now ∧ (motorFault col finding r t s).pending = s.pending ∧
    (motorFault col finding r t s).freeIx = s.freeIx ∧ (motorFault col finding r t s).vnd = s.vnd ∧
    (motorFault col finding r t s).chg = s.chg ∧ (motorFault col finding r t s).crd = s.crd ∧
    (motorFault col finding r t s).lds = s.lds ∧ (motorFault col finding r t s).cmn = s.cmn ∧
    (motorFault col finding r t s).ulk = s.ulk ∧ (motorFault col finding r t s).mgt = s.mgt := by
  and_intros <;> simp only [motorFault] <;> simp

@[simp] theorem motorHome_frame (col : Nat) (t : Turn) (s : State) :
    (motorHome col t s).now = s.now ∧ (motorHome col t s).pending = s.pending ∧
    (motorHome col t s).freeIx = s.freeIx ∧ (motorHome col t s).vnd = s.vnd ∧ (motorHome col t s).chg = s.chg ∧
    (motorHome col t s).crd = s.crd ∧ (motorHome col t s).lds = s.lds ∧ (motorHome col t s).cmn = s.cmn ∧
    (motorHome col t s).ulk = s.ulk ∧ (motorHome col t s).mgt = s.mgt := by
  and_intros <;> simp only [motorHome] <;> (repeat' split) <;> simp

@[simp] theorem stopTurn_frame (s : State) :
    (stopTurn s).now = s.now ∧ (stopTurn s).pending = s.pending ∧ (stopTurn s).freeIx = s.freeIx ∧
    (stopTurn s).sel = s.sel ∧ (stopTurn s).vnd = s.vnd ∧ (stopTurn s).csh = s.csh ∧ (stopTurn s).chg = s.chg ∧
    (stopTurn s).crd = s.crd ∧ (stopTurn s).clg = s.clg ∧ (stopTurn s).lds = s.lds ∧ (stopTurn s).cmn = s.cmn ∧
    (stopTurn s).ulk = s.ulk ∧ (stopTurn s).dlk = s.dlk ∧ (stopTurn s).mgt = s.mgt ∧ (stopTurn s).rpq = s.rpq := by
  and_intros <;> simp only [stopTurn] <;> (repeat' split) <;> simp

@[simp] theorem sweepFinish_frame (stopped : Bool) (w : Sweep) (s : State) :
    (sweepFinish stopped w s).now = s.now ∧ (sweepFinish stopped w s).pending = s.pending ∧
    (sweepFinish stopped w s).freeIx = s.freeIx ∧ (sweepFinish stopped w s).sel = s.sel ∧
    (sweepFinish stopped w s).vnd = s.vnd ∧ (sweepFinish stopped w s).csh = s.csh ∧
    (sweepFinish stopped w s).chg = s.chg ∧ (sweepFinish stopped w s).crd = s.crd ∧
    (sweepFinish stopped w s).clg = s.clg ∧ (sweepFinish stopped w s).lds = s.lds ∧
    (sweepFinish stopped w s).cmn = s.cmn ∧ (sweepFinish stopped w s).ulk = s.ulk ∧
    (sweepFinish stopped w s).dlk = s.dlk ∧ (sweepFinish stopped w s).mgt = s.mgt := by
  and_intros <;> simp only [sweepFinish] <;> simp

@[simp] theorem sweepLook_frame (n : Nat) (s : State) :
    (sweepLook n s).now = s.now ∧ (sweepLook n s).pending = s.pending ∧ (sweepLook n s).freeIx = s.freeIx ∧
    (sweepLook n s).sel = s.sel ∧ (sweepLook n s).vnd = s.vnd ∧ (sweepLook n s).csh = s.csh ∧
    (sweepLook n s).chg = s.chg ∧ (sweepLook n s).crd = s.crd ∧ (sweepLook n s).clg = s.clg ∧
    (sweepLook n s).cmn = s.cmn ∧ (sweepLook n s).ulk = s.ulk ∧ (sweepLook n s).dlk = s.dlk ∧
    (sweepLook n s).mgt = s.mgt := by
  induction n generalizing s with
  | zero => simp [sweepLook]
  | succ n ih =>
    and_intros <;> simp only [sweepLook] <;> (repeat' split) <;> simp_all

@[simp] theorem sweepWalk_frame (s : State) :
    (sweepWalk s).now = s.now ∧ (sweepWalk s).pending = s.pending ∧ (sweepWalk s).freeIx = s.freeIx ∧
    (sweepWalk s).sel = s.sel ∧ (sweepWalk s).vnd = s.vnd ∧ (sweepWalk s).csh = s.csh ∧ (sweepWalk s).chg = s.chg ∧
    (sweepWalk s).crd = s.crd ∧ (sweepWalk s).clg = s.clg ∧ (sweepWalk s).cmn = s.cmn ∧ (sweepWalk s).ulk = s.ulk ∧
    (sweepWalk s).dlk = s.dlk ∧ (sweepWalk s).mgt = s.mgt := by
  and_intros <;> simp only [sweepWalk] <;> simp

@[simp] theorem endCheck_frame (s : State) :
    (endCheck s).now = s.now ∧ (endCheck s).pending = s.pending ∧ (endCheck s).freeIx = s.freeIx ∧
    (endCheck s).sel = s.sel ∧ (endCheck s).vnd = s.vnd ∧ (endCheck s).csh = s.csh ∧ (endCheck s).chg = s.chg ∧
    (endCheck s).crd = s.crd ∧ (endCheck s).clg = s.clg ∧ (endCheck s).cmn = s.cmn ∧ (endCheck s).ulk = s.ulk ∧
    (endCheck s).dlk = s.dlk ∧ (endCheck s).mgt = s.mgt ∧ (endCheck s).rpq = s.rpq := by
  and_intros <;> simp only [endCheck] <;> (repeat' split) <;> simp

@[simp] theorem pauseSweep_frame (s : State) :
    (pauseSweep s).now = s.now ∧ (pauseSweep s).pending = s.pending ∧ (pauseSweep s).freeIx = s.freeIx ∧
    (pauseSweep s).sel = s.sel ∧ (pauseSweep s).vnd = s.vnd ∧ (pauseSweep s).csh = s.csh ∧
    (pauseSweep s).chg = s.chg ∧ (pauseSweep s).crd = s.crd ∧ (pauseSweep s).clg = s.clg ∧
    (pauseSweep s).cmn = s.cmn ∧ (pauseSweep s).ulk = s.ulk ∧ (pauseSweep s).dlk = s.dlk ∧
    (pauseSweep s).mgt = s.mgt ∧ (pauseSweep s).rpq = s.rpq := by
  and_intros <;> simp only [pauseSweep] <;> (repeat' split) <;> simp

@[simp] theorem resumeSweep_frame (s : State) :
    (resumeSweep s).now = s.now ∧ (resumeSweep s).pending = s.pending ∧ (resumeSweep s).freeIx = s.freeIx ∧
    (resumeSweep s).sel = s.sel ∧ (resumeSweep s).vnd = s.vnd ∧ (resumeSweep s).csh = s.csh ∧
    (resumeSweep s).chg = s.chg ∧ (resumeSweep s).crd = s.crd ∧ (resumeSweep s).clg = s.clg ∧
    (resumeSweep s).cmn = s.cmn ∧ (resumeSweep s).ulk = s.ulk ∧ (resumeSweep s).dlk = s.dlk ∧
    (resumeSweep s).mgt = s.mgt := by
  and_intros <;> simp only [resumeSweep] <;> (repeat' split) <;> simp

@[simp] theorem stopSweep_frame (s : State) :
    (stopSweep s).now = s.now ∧ (stopSweep s).pending = s.pending ∧ (stopSweep s).freeIx = s.freeIx ∧
    (stopSweep s).sel = s.sel ∧ (stopSweep s).vnd = s.vnd ∧ (stopSweep s).csh = s.csh ∧ (stopSweep s).chg = s.chg ∧
    (stopSweep s).crd = s.crd ∧ (stopSweep s).clg = s.clg ∧ (stopSweep s).cmn = s.cmn ∧ (stopSweep s).ulk = s.ulk ∧
    (stopSweep s).dlk = s.dlk ∧ (stopSweep s).mgt = s.mgt := by
  and_intros <;> simp only [stopSweep] <;> (repeat' split) <;> simp

@[simp] theorem energizeCheck_frame (s : State) :
    (energizeCheck s).now = s.now ∧ (energizeCheck s).pending = s.pending ∧ (energizeCheck s).freeIx = s.freeIx ∧
    (energizeCheck s).sel = s.sel ∧ (energizeCheck s).vnd = s.vnd ∧ (energizeCheck s).csh = s.csh ∧
    (energizeCheck s).chg = s.chg ∧ (energizeCheck s).crd = s.crd ∧ (energizeCheck s).clg = s.clg ∧
    (energizeCheck s).cmn = s.cmn ∧ (energizeCheck s).ulk = s.ulk ∧ (energizeCheck s).dlk = s.dlk ∧
    (energizeCheck s).mgt = s.mgt ∧ (energizeCheck s).rpq = s.rpq := by
  and_intros <;> simp only [energizeCheck] <;> (repeat' split) <;> simp

@[simp] theorem releaseCheck_frame (w : Sweep) (s : State) :
    (releaseCheck w s).now = s.now ∧ (releaseCheck w s).pending = s.pending ∧
    (releaseCheck w s).freeIx = s.freeIx ∧ (releaseCheck w s).sel = s.sel ∧ (releaseCheck w s).vnd = s.vnd ∧
    (releaseCheck w s).csh = s.csh ∧ (releaseCheck w s).chg = s.chg ∧ (releaseCheck w s).crd = s.crd ∧
    (releaseCheck w s).clg = s.clg ∧ (releaseCheck w s).cmn = s.cmn ∧ (releaseCheck w s).ulk = s.ulk ∧
    (releaseCheck w s).dlk = s.dlk ∧ (releaseCheck w s).mgt = s.mgt ∧ (releaseCheck w s).rpq = s.rpq := by
  and_intros <;> simp only [releaseCheck] <;> simp

@[simp] theorem finishCheck_frame (h : Health) (w : Sweep) (s : State) :
    (finishCheck h w s).now = s.now ∧ (finishCheck h w s).pending = s.pending ∧
    (finishCheck h w s).freeIx = s.freeIx ∧ (finishCheck h w s).vnd = s.vnd ∧ (finishCheck h w s).chg = s.chg ∧
    (finishCheck h w s).crd = s.crd ∧ (finishCheck h w s).cmn = s.cmn ∧ (finishCheck h w s).ulk = s.ulk ∧
    (finishCheck h w s).mgt = s.mgt := by
  and_intros <;> simp only [finishCheck] <;> (repeat' split) <;> simp

@[simp] theorem endPayout_frame (s : State) :
    (endPayout s).now = s.now ∧ (endPayout s).pending = s.pending ∧ (endPayout s).sel = s.sel ∧
    (endPayout s).vnd = s.vnd ∧ (endPayout s).spd = s.spd ∧ (endPayout s).crd = s.crd ∧ (endPayout s).clg = s.clg ∧
    (endPayout s).cmn = s.cmn ∧ (endPayout s).ulk = s.ulk ∧ (endPayout s).mgt = s.mgt := by
  and_intros <;> simp only [endPayout, endPayoutWith] <;> (repeat' split) <;> simp

@[simp] theorem driveCoin_frame (tube : Nat) (p : Payout) (s : State) :
    (driveCoin tube p s).now = s.now ∧ (driveCoin tube p s).pending = s.pending ∧
    (driveCoin tube p s).freeIx = s.freeIx ∧ (driveCoin tube p s).sel = s.sel ∧ (driveCoin tube p s).vnd = s.vnd ∧
    (driveCoin tube p s).spd = s.spd ∧ (driveCoin tube p s).csh = s.csh ∧ (driveCoin tube p s).crd = s.crd ∧
    (driveCoin tube p s).clg = s.clg ∧ (driveCoin tube p s).lds = s.lds ∧ (driveCoin tube p s).cmn = s.cmn ∧
    (driveCoin tube p s).ulk = s.ulk ∧ (driveCoin tube p s).dlk = s.dlk ∧ (driveCoin tube p s).mgt = s.mgt ∧
    (driveCoin tube p s).rpq = s.rpq := by
  and_intros <;> simp only [driveCoin]

@[simp] theorem payFirst_frame (p : Payout) (s : State) :
    (payFirst p s).now = s.now ∧ (payFirst p s).pending = s.pending ∧ (payFirst p s).sel = s.sel ∧
    (payFirst p s).vnd = s.vnd ∧ (payFirst p s).spd = s.spd ∧ (payFirst p s).crd = s.crd ∧
    (payFirst p s).clg = s.clg ∧ (payFirst p s).cmn = s.cmn ∧ (payFirst p s).ulk = s.ulk ∧
    (payFirst p s).mgt = s.mgt := by
  and_intros <;> simp only [payFirst] <;> (repeat' split) <;> simp

@[simp] theorem replan_frame (p : Payout) (s : State) :
    (replan p s).now = s.now ∧ (replan p s).pending = s.pending ∧ (replan p s).sel = s.sel ∧
    (replan p s).vnd = s.vnd ∧ (replan p s).spd = s.spd ∧ (replan p s).crd = s.crd ∧ (replan p s).clg = s.clg ∧
    (replan p s).cmn = s.cmn ∧ (replan p s).ulk = s.ulk ∧ (replan p s).mgt = s.mgt := by
  and_intros <;> simp only [replan] <;> (repeat' split) <;> simp

@[simp] theorem nextCoin_frame (s : State) :
    (nextCoin s).now = s.now ∧ (nextCoin s).pending = s.pending ∧ (nextCoin s).sel = s.sel ∧
    (nextCoin s).vnd = s.vnd ∧ (nextCoin s).spd = s.spd ∧ (nextCoin s).crd = s.crd ∧ (nextCoin s).clg = s.clg ∧
    (nextCoin s).cmn = s.cmn ∧ (nextCoin s).ulk = s.ulk ∧ (nextCoin s).mgt = s.mgt := by
  and_intros <;> simp only [nextCoin] <;> (repeat' split) <;> simp

@[simp] theorem afterFailure_frame (s : State) :
    (afterFailure s).now = s.now ∧ (afterFailure s).pending = s.pending ∧ (afterFailure s).sel = s.sel ∧
    (afterFailure s).vnd = s.vnd ∧ (afterFailure s).spd = s.spd ∧ (afterFailure s).crd = s.crd ∧
    (afterFailure s).clg = s.clg ∧ (afterFailure s).cmn = s.cmn ∧ (afterFailure s).ulk = s.ulk ∧
    (afterFailure s).mgt = s.mgt := by
  and_intros <;> simp only [afterFailure] <;> (repeat' split) <;> simp

@[simp] theorem beginPaying_frame (s : State) :
    (beginPaying s).now = s.now ∧ (beginPaying s).pending = s.pending ∧ (beginPaying s).sel = s.sel ∧
    (beginPaying s).vnd = s.vnd ∧ (beginPaying s).spd = s.spd ∧ (beginPaying s).crd = s.crd ∧
    (beginPaying s).clg = s.clg ∧ (beginPaying s).cmn = s.cmn ∧ (beginPaying s).ulk = s.ulk ∧
    (beginPaying s).mgt = s.mgt := by
  and_intros <;> simp only [beginPaying] <;> (repeat' split) <;> simp

@[simp] theorem coinPaid_frame (p : Payout) (s : State) :
    (coinPaid p s).now = s.now ∧ (coinPaid p s).pending = s.pending ∧ (coinPaid p s).freeIx = s.freeIx ∧
    (coinPaid p s).sel = s.sel ∧ (coinPaid p s).vnd = s.vnd ∧ (coinPaid p s).spd = s.spd ∧
    (coinPaid p s).crd = s.crd ∧ (coinPaid p s).clg = s.clg ∧ (coinPaid p s).lds = s.lds ∧
    (coinPaid p s).cmn = s.cmn ∧ (coinPaid p s).ulk = s.ulk ∧ (coinPaid p s).mgt = s.mgt := by
  and_intros <;> simp only [coinPaid] <;> (repeat' split) <;> simp

@[simp] theorem openPayout_frame (src : PayoutSource) (form : PayoutForm) (amount : Nat) (s : State) :
    (openPayout src form amount s).now = s.now ∧ (openPayout src form amount s).pending = s.pending ∧
    (openPayout src form amount s).freeIx = s.freeIx ∧ (openPayout src form amount s).sel = s.sel ∧
    (openPayout src form amount s).vnd = s.vnd ∧ (openPayout src form amount s).spd = s.spd ∧
    (openPayout src form amount s).csh = s.csh ∧ (openPayout src form amount s).crd = s.crd ∧
    (openPayout src form amount s).clg = s.clg ∧ (openPayout src form amount s).cmn = s.cmn ∧
    (openPayout src form amount s).ulk = s.ulk ∧ (openPayout src form amount s).dlk = s.dlk ∧
    (openPayout src form amount s).mgt = s.mgt ∧ (openPayout src form amount s).rpq = s.rpq := by
  and_intros <;> simp only [openPayout] <;> (repeat' split) <;> simp

@[simp] theorem startCreditPayout_frame (src : PayoutSource) (s : State) :
    (startCreditPayout src s).now = s.now ∧ (startCreditPayout src s).pending = s.pending ∧
    (startCreditPayout src s).freeIx = s.freeIx ∧ (startCreditPayout src s).sel = s.sel ∧
    (startCreditPayout src s).vnd = s.vnd ∧ (startCreditPayout src s).spd = s.spd ∧
    (startCreditPayout src s).crd = s.crd ∧ (startCreditPayout src s).clg = s.clg ∧
    (startCreditPayout src s).cmn = s.cmn ∧ (startCreditPayout src s).ulk = s.ulk ∧
    (startCreditPayout src s).mgt = s.mgt := by
  and_intros <;> simp only [startCreditPayout] <;> simp

end Sys2Proof.Machine
end

