-- ==== Sys2Proof/Laws/SupplyFrames.lean ====
section
/-! SUPPORT. Frames: what the operations of the Cooling Unit, the Load Scheduler, the settlement and the session
states leave as it was. -/

namespace Sys2Proof.Machine

@[simp] theorem sampleSensor_frame (i : Nat) (raw : Nat) (s : State) :
    (sampleSensor i raw s).now = s.now ∧ (sampleSensor i raw s).pending = s.pending ∧
    (sampleSensor i raw s).freeIx = s.freeIx ∧ (sampleSensor i raw s).sel = s.sel ∧
    (sampleSensor i raw s).vnd = s.vnd ∧ (sampleSensor i raw s).spd = s.spd ∧ (sampleSensor i raw s).csh = s.csh ∧
    (sampleSensor i raw s).chg = s.chg ∧ (sampleSensor i raw s).crd = s.crd ∧ (sampleSensor i raw s).lds = s.lds ∧
    (sampleSensor i raw s).cmn = s.cmn ∧ (sampleSensor i raw s).ulk = s.ulk ∧ (sampleSensor i raw s).dlk = s.dlk ∧
    (sampleSensor i raw s).mgt = s.mgt := by
  and_intros <;> simp only [sampleSensor] <;> simp

@[simp] theorem setFans_frame (s : State) :
    (setFans s).now = s.now ∧ (setFans s).pending = s.pending ∧ (setFans s).freeIx = s.freeIx ∧
    (setFans s).sel = s.sel ∧ (setFans s).vnd = s.vnd ∧ (setFans s).spd = s.spd ∧ (setFans s).csh = s.csh ∧
    (setFans s).chg = s.chg ∧ (setFans s).crd = s.crd ∧ (setFans s).lds = s.lds ∧ (setFans s).cmn = s.cmn ∧
    (setFans s).ulk = s.ulk ∧ (setFans s).dlk = s.dlk ∧ (setFans s).mgt = s.mgt ∧ (setFans s).rpq = s.rpq := by
  and_intros <;> simp only [setFans]

@[simp] theorem setComp_frame (c : CompState) (s : State) :
    (setComp c s).now = s.now ∧ (setComp c s).pending = s.pending ∧ (setComp c s).freeIx = s.freeIx ∧
    (setComp c s).sel = s.sel ∧ (setComp c s).vnd = s.vnd ∧ (setComp c s).spd = s.spd ∧ (setComp c s).csh = s.csh ∧
    (setComp c s).chg = s.chg ∧ (setComp c s).crd = s.crd ∧ (setComp c s).lds = s.lds ∧ (setComp c s).cmn = s.cmn ∧
    (setComp c s).ulk = s.ulk ∧ (setComp c s).dlk = s.dlk ∧ (setComp c s).mgt = s.mgt := by
  and_intros <;> simp only [setComp] <;> (repeat' split) <;> simp

@[simp] theorem contactorOff_frame (s : State) :
    (contactorOff s).now = s.now ∧ (contactorOff s).pending = s.pending ∧ (contactorOff s).freeIx = s.freeIx ∧
    (contactorOff s).sel = s.sel ∧ (contactorOff s).vnd = s.vnd ∧ (contactorOff s).spd = s.spd ∧
    (contactorOff s).csh = s.csh ∧ (contactorOff s).chg = s.chg ∧ (contactorOff s).crd = s.crd ∧
    (contactorOff s).lds = s.lds ∧ (contactorOff s).cmn = s.cmn ∧ (contactorOff s).ulk = s.ulk ∧
    (contactorOff s).dlk = s.dlk ∧ (contactorOff s).mgt = s.mgt ∧ (contactorOff s).rpq = s.rpq := by
  and_intros <;> simp only [contactorOff]

@[simp] theorem compStop_frame (s : State) :
    (compStop s).now = s.now ∧ (compStop s).pending = s.pending ∧ (compStop s).freeIx = s.freeIx ∧
    (compStop s).sel = s.sel ∧ (compStop s).vnd = s.vnd ∧ (compStop s).spd = s.spd ∧ (compStop s).csh = s.csh ∧
    (compStop s).chg = s.chg ∧ (compStop s).crd = s.crd ∧ (compStop s).cmn = s.cmn ∧ (compStop s).ulk = s.ulk ∧
    (compStop s).dlk = s.dlk ∧ (compStop s).mgt = s.mgt ∧ (compStop s).rpq = s.rpq := by
  and_intros <;> simp only [compStop] <;> simp

@[simp] theorem fileStart_frame (s : State) :
    (fileStart s).now = s.now ∧ (fileStart s).pending = s.pending ∧ (fileStart s).freeIx = s.freeIx ∧
    (fileStart s).sel = s.sel ∧ (fileStart s).vnd = s.vnd ∧ (fileStart s).spd = s.spd ∧ (fileStart s).csh = s.csh ∧
    (fileStart s).chg = s.chg ∧ (fileStart s).crd = s.crd ∧ (fileStart s).clg = s.clg ∧ (fileStart s).cmn = s.cmn ∧
    (fileStart s).ulk = s.ulk ∧ (fileStart s).dlk = s.dlk ∧ (fileStart s).mgt = s.mgt ∧
    (fileStart s).rpq = s.rpq := by
  and_intros <;> simp only [fileStart] <;> simp

@[simp] theorem idleLook_frame (s : State) :
    (idleLook s).now = s.now ∧ (idleLook s).pending = s.pending ∧ (idleLook s).freeIx = s.freeIx ∧
    (idleLook s).sel = s.sel ∧ (idleLook s).vnd = s.vnd ∧ (idleLook s).spd = s.spd ∧ (idleLook s).csh = s.csh ∧
    (idleLook s).chg = s.chg ∧ (idleLook s).crd = s.crd ∧ (idleLook s).cmn = s.cmn ∧ (idleLook s).ulk = s.ulk ∧
    (idleLook s).dlk = s.dlk ∧ (idleLook s).mgt = s.mgt := by
  and_intros <;> simp only [idleLook] <;> (repeat' split) <;> simp

@[simp] theorem leaveGuard_frame (s : State) :
    (leaveGuard s).now = s.now ∧ (leaveGuard s).pending = s.pending ∧ (leaveGuard s).freeIx = s.freeIx ∧
    (leaveGuard s).sel = s.sel ∧ (leaveGuard s).vnd = s.vnd ∧ (leaveGuard s).spd = s.spd ∧
    (leaveGuard s).csh = s.csh ∧ (leaveGuard s).chg = s.chg ∧ (leaveGuard s).crd = s.crd ∧
    (leaveGuard s).cmn = s.cmn ∧ (leaveGuard s).ulk = s.ulk ∧ (leaveGuard s).dlk = s.dlk ∧
    (leaveGuard s).mgt = s.mgt := by
  and_intros <;> simp only [leaveGuard] <;> simp

@[simp] theorem enterGuard_frame (s : State) :
    (enterGuard s).now = s.now ∧ (enterGuard s).pending = s.pending ∧ (enterGuard s).freeIx = s.freeIx ∧
    (enterGuard s).sel = s.sel ∧ (enterGuard s).vnd = s.vnd ∧ (enterGuard s).spd = s.spd ∧
    (enterGuard s).csh = s.csh ∧ (enterGuard s).chg = s.chg ∧ (enterGuard s).crd = s.crd ∧
    (enterGuard s).cmn = s.cmn ∧ (enterGuard s).ulk = s.ulk ∧ (enterGuard s).dlk = s.dlk ∧
    (enterGuard s).mgt = s.mgt := by
  and_intros <;> simp only [enterGuard] <;> (repeat' split) <;> simp

@[simp] theorem enterDefrost_frame (s : State) :
    (enterDefrost s).now = s.now ∧ (enterDefrost s).pending = s.pending ∧ (enterDefrost s).freeIx = s.freeIx ∧
    (enterDefrost s).sel = s.sel ∧ (enterDefrost s).vnd = s.vnd ∧ (enterDefrost s).spd = s.spd ∧
    (enterDefrost s).csh = s.csh ∧ (enterDefrost s).chg = s.chg ∧ (enterDefrost s).crd = s.crd ∧
    (enterDefrost s).lds = s.lds ∧ (enterDefrost s).cmn = s.cmn ∧ (enterDefrost s).ulk = s.ulk ∧
    (enterDefrost s).dlk = s.dlk ∧ (enterDefrost s).mgt = s.mgt := by
  and_intros <;> simp only [enterDefrost] <;> simp

@[simp] theorem enterDrip_frame (s : State) :
    (enterDrip s).now = s.now ∧ (enterDrip s).pending = s.pending ∧ (enterDrip s).freeIx = s.freeIx ∧
    (enterDrip s).sel = s.sel ∧ (enterDrip s).vnd = s.vnd ∧ (enterDrip s).spd = s.spd ∧ (enterDrip s).csh = s.csh ∧
    (enterDrip s).chg = s.chg ∧ (enterDrip s).crd = s.crd ∧ (enterDrip s).cmn = s.cmn ∧ (enterDrip s).ulk = s.ulk ∧
    (enterDrip s).dlk = s.dlk ∧ (enterDrip s).mgt = s.mgt := by
  and_intros <;> simp only [enterDrip] <;> (repeat' split) <;> simp

@[simp] theorem stopByDemand_frame (s : State) :
    (stopByDemand s).now = s.now ∧ (stopByDemand s).pending = s.pending ∧ (stopByDemand s).freeIx = s.freeIx ∧
    (stopByDemand s).sel = s.sel ∧ (stopByDemand s).vnd = s.vnd ∧ (stopByDemand s).spd = s.spd ∧
    (stopByDemand s).csh = s.csh ∧ (stopByDemand s).chg = s.chg ∧ (stopByDemand s).crd = s.crd ∧
    (stopByDemand s).cmn = s.cmn ∧ (stopByDemand s).ulk = s.ulk ∧ (stopByDemand s).dlk = s.dlk ∧
    (stopByDemand s).mgt = s.mgt := by
  and_intros <;> simp only [stopByDemand] <;> (repeat' split) <;> simp

@[simp] theorem startCompressor_frame (s : State) :
    (startCompressor s).now = s.now ∧ (startCompressor s).pending = s.pending ∧
    (startCompressor s).freeIx = s.freeIx ∧ (startCompressor s).sel = s.sel ∧ (startCompressor s).vnd = s.vnd ∧
    (startCompressor s).spd = s.spd ∧ (startCompressor s).csh = s.csh ∧ (startCompressor s).chg = s.chg ∧
    (startCompressor s).crd = s.crd ∧ (startCompressor s).cmn = s.cmn ∧ (startCompressor s).ulk = s.ulk ∧
    (startCompressor s).dlk = s.dlk ∧ (startCompressor s).mgt = s.mgt := by
  and_intros <;> simp only [startCompressor] <;> (repeat' split) <;> simp

@[simp] theorem sampleTemps_frame (s : State) :
    (sampleTemps s).now = s.now ∧ (sampleTemps s).pending = s.pending ∧ (sampleTemps s).freeIx = s.freeIx ∧
    (sampleTemps s).sel = s.sel ∧ (sampleTemps s).vnd = s.vnd ∧ (sampleTemps s).spd = s.spd ∧
    (sampleTemps s).csh = s.csh ∧ (sampleTemps s).chg = s.chg ∧ (sampleTemps s).crd = s.crd ∧
    (sampleTemps s).lds = s.lds ∧ (sampleTemps s).cmn = s.cmn ∧ (sampleTemps s).ulk = s.ulk ∧
    (sampleTemps s).dlk = s.dlk ∧ (sampleTemps s).mgt = s.mgt := by
  and_intros <;> simp only [sampleTemps] <;> (repeat' split) <;> simp

@[simp] theorem sampleDemand_frame (s : State) :
    (sampleDemand s).now = s.now ∧ (sampleDemand s).pending = s.pending ∧ (sampleDemand s).freeIx = s.freeIx ∧
    (sampleDemand s).sel = s.sel ∧ (sampleDemand s).vnd = s.vnd ∧ (sampleDemand s).spd = s.spd ∧
    (sampleDemand s).csh = s.csh ∧ (sampleDemand s).chg = s.chg ∧ (sampleDemand s).crd = s.crd ∧
    (sampleDemand s).lds = s.lds ∧ (sampleDemand s).cmn = s.cmn ∧ (sampleDemand s).ulk = s.ulk ∧
    (sampleDemand s).dlk = s.dlk ∧ (sampleDemand s).mgt = s.mgt ∧ (sampleDemand s).rpq = s.rpq := by
  and_intros <;> simp only [sampleDemand] <;> (repeat' split) <;> simp

@[simp] theorem blindBegins_frame (s : State) :
    (blindBegins s).now = s.now ∧ (blindBegins s).pending = s.pending ∧ (blindBegins s).freeIx = s.freeIx ∧
    (blindBegins s).sel = s.sel ∧ (blindBegins s).vnd = s.vnd ∧ (blindBegins s).spd = s.spd ∧
    (blindBegins s).csh = s.csh ∧ (blindBegins s).chg = s.chg ∧ (blindBegins s).crd = s.crd ∧
    (blindBegins s).lds = s.lds ∧ (blindBegins s).cmn = s.cmn ∧ (blindBegins s).ulk = s.ulk ∧
    (blindBegins s).dlk = s.dlk ∧ (blindBegins s).mgt = s.mgt := by
  and_intros <;> simp only [blindBegins] <;> (repeat' split) <;> simp

@[simp] theorem blindEnds_frame (s : State) :
    (blindEnds s).now = s.now ∧ (blindEnds s).pending = s.pending ∧ (blindEnds s).freeIx = s.freeIx ∧
    (blindEnds s).sel = s.sel ∧ (blindEnds s).vnd = s.vnd ∧ (blindEnds s).spd = s.spd ∧ (blindEnds s).csh = s.csh ∧
    (blindEnds s).chg = s.chg ∧ (blindEnds s).crd = s.crd ∧ (blindEnds s).cmn = s.cmn ∧ (blindEnds s).ulk = s.ulk ∧
    (blindEnds s).dlk = s.dlk ∧ (blindEnds s).mgt = s.mgt := by
  and_intros <;> simp only [blindEnds] <;> (repeat' split) <;> simp

@[simp] theorem clearHot_frame (s : State) :
    (clearHot s).now = s.now ∧ (clearHot s).pending = s.pending ∧ (clearHot s).freeIx = s.freeIx ∧
    (clearHot s).sel = s.sel ∧ (clearHot s).vnd = s.vnd ∧ (clearHot s).spd = s.spd ∧ (clearHot s).csh = s.csh ∧
    (clearHot s).chg = s.chg ∧ (clearHot s).crd = s.crd ∧ (clearHot s).lds = s.lds ∧ (clearHot s).cmn = s.cmn ∧
    (clearHot s).ulk = s.ulk ∧ (clearHot s).dlk = s.dlk ∧ (clearHot s).mgt = s.mgt := by
  and_intros <;> simp only [clearHot] <;> (repeat' split) <;> simp

@[simp] theorem tripCheck_frame (s : State) :
    (tripCheck s).now = s.now ∧ (tripCheck s).pending = s.pending ∧ (tripCheck s).freeIx = s.freeIx ∧
    (tripCheck s).sel = s.sel ∧ (tripCheck s).vnd = s.vnd ∧ (tripCheck s).spd = s.spd ∧ (tripCheck s).csh = s.csh ∧
    (tripCheck s).chg = s.chg ∧ (tripCheck s).crd = s.crd ∧ (tripCheck s).cmn = s.cmn ∧ (tripCheck s).ulk = s.ulk ∧
    (tripCheck s).dlk = s.dlk ∧ (tripCheck s).mgt = s.mgt := by
  and_intros <;> simp only [tripCheck] <;> (repeat' split) <;> simp

@[simp] theorem coilCheckWarm_frame (s : State) :
    (coilCheckWarm s).now = s.now ∧ (coilCheckWarm s).pending = s.pending ∧ (coilCheckWarm s).freeIx = s.freeIx ∧
    (coilCheckWarm s).sel = s.sel ∧ (coilCheckWarm s).vnd = s.vnd ∧ (coilCheckWarm s).spd = s.spd ∧
    (coilCheckWarm s).csh = s.csh ∧ (coilCheckWarm s).chg = s.chg ∧ (coilCheckWarm s).crd = s.crd ∧
    (coilCheckWarm s).cmn = s.cmn ∧ (coilCheckWarm s).ulk = s.ulk ∧ (coilCheckWarm s).dlk = s.dlk ∧
    (coilCheckWarm s).mgt = s.mgt := by
  and_intros <;> simp only [coilCheckWarm] <;> (repeat' split) <;> simp

@[simp] theorem demandOffCheck_frame (s : State) :
    (demandOffCheck s).now = s.now ∧ (demandOffCheck s).pending = s.pending ∧
    (demandOffCheck s).freeIx = s.freeIx ∧ (demandOffCheck s).sel = s.sel ∧ (demandOffCheck s).vnd = s.vnd ∧
    (demandOffCheck s).spd = s.spd ∧ (demandOffCheck s).csh = s.csh ∧ (demandOffCheck s).chg = s.chg ∧
    (demandOffCheck s).crd = s.crd ∧ (demandOffCheck s).cmn = s.cmn ∧ (demandOffCheck s).ulk = s.ulk ∧
    (demandOffCheck s).dlk = s.dlk ∧ (demandOffCheck s).mgt = s.mgt := by
  and_intros <;> simp only [demandOffCheck] <;> (repeat' split) <;> simp

@[simp] theorem sampleTransitions_frame (was : Bool) (s : State) :
    (sampleTransitions was s).now = s.now ∧ (sampleTransitions was s).pending = s.pending ∧
    (sampleTransitions was s).freeIx = s.freeIx ∧ (sampleTransitions was s).sel = s.sel ∧
    (sampleTransitions was s).vnd = s.vnd ∧ (sampleTransitions was s).spd = s.spd ∧
    (sampleTransitions was s).csh = s.csh ∧ (sampleTransitions was s).chg = s.chg ∧
    (sampleTransitions was s).crd = s.crd ∧ (sampleTransitions was s).cmn = s.cmn ∧
    (sampleTransitions was s).ulk = s.ulk ∧ (sampleTransitions was s).dlk = s.dlk ∧
    (sampleTransitions was s).mgt = s.mgt := by
  and_intros <;> simp only [sampleTransitions] <;> (repeat' split) <;> simp

@[simp] theorem coolDoor_frame (isOpen : Bool) (s : State) :
    (coolDoor isOpen s).now = s.now ∧ (coolDoor isOpen s).pending = s.pending ∧
    (coolDoor isOpen s).freeIx = s.freeIx ∧ (coolDoor isOpen s).sel = s.sel ∧ (coolDoor isOpen s).vnd = s.vnd ∧
    (coolDoor isOpen s).spd = s.spd ∧ (coolDoor isOpen s).csh = s.csh ∧ (coolDoor isOpen s).chg = s.chg ∧
    (coolDoor isOpen s).crd = s.crd ∧ (coolDoor isOpen s).lds = s.lds ∧ (coolDoor isOpen s).cmn = s.cmn ∧
    (coolDoor isOpen s).ulk = s.ulk ∧ (coolDoor isOpen s).dlk = s.dlk ∧ (coolDoor isOpen s).mgt = s.mgt ∧
    (coolDoor isOpen s).rpq = s.rpq := by
  and_intros <;> simp only [coolDoor] <;> (repeat' split) <;> simp

@[simp] theorem grantVend_frame (units : Nat) (s : State) :
    (grantVend units s).now = s.now ∧ (grantVend units s).pending = s.pending ∧
    (grantVend units s).freeIx = s.freeIx ∧ (grantVend units s).sel = s.sel ∧ (grantVend units s).csh = s.csh ∧
    (grantVend units s).chg = s.chg ∧ (grantVend units s).crd = s.crd ∧ (grantVend units s).clg = s.clg ∧
    (grantVend units s).cmn = s.cmn ∧ (grantVend units s).ulk = s.ulk ∧ (grantVend units s).dlk = s.dlk ∧
    (grantVend units s).mgt = s.mgt ∧ (grantVend units s).rpq = s.rpq := by
  and_intros <;> simp only [grantVend] <;> (repeat' split) <;> simp

@[simp] theorem grantClaim_frame (c : Claim) (s : State) :
    (grantClaim c s).now = s.now ∧ (grantClaim c s).pending = s.pending ∧ (grantClaim c s).sel = s.sel ∧
    (grantClaim c s).crd = s.crd ∧ (grantClaim c s).cmn = s.cmn ∧ (grantClaim c s).ulk = s.ulk ∧
    (grantClaim c s).mgt = s.mgt := by
  and_intros <;> simp only [grantClaim] <;> (repeat' split) <;> simp

@[simp] theorem evaluateUpTo_frame (n : Nat) (s : State) :
    (evaluateUpTo n s).now = s.now ∧ (evaluateUpTo n s).pending = s.pending ∧ (evaluateUpTo n s).sel = s.sel ∧
    (evaluateUpTo n s).crd = s.crd ∧ (evaluateUpTo n s).cmn = s.cmn ∧ (evaluateUpTo n s).ulk = s.ulk ∧
    (evaluateUpTo n s).mgt = s.mgt := by
  induction n generalizing s with
  | zero => simp [evaluateUpTo]
  | succ n ih =>
    and_intros <;> simp only [evaluateUpTo] <;> (repeat' split) <;> simp_all

@[simp] theorem evaluateClaims_frame (s : State) :
    (evaluateClaims s).now = s.now ∧ (evaluateClaims s).pending = s.pending ∧ (evaluateClaims s).sel = s.sel ∧
    (evaluateClaims s).crd = s.crd ∧ (evaluateClaims s).cmn = s.cmn ∧ (evaluateClaims s).ulk = s.ulk ∧
    (evaluateClaims s).mgt = s.mgt := by
  and_intros <;> simp only [evaluateClaims] <;> simp

@[simp] theorem settleMoney_frame (o : VendOutcome) (v : VendCtx) (s : State) :
    (settleMoney o v s).now = s.now ∧ (settleMoney o v s).pending = s.pending ∧ (settleMoney o v s).sel = s.sel ∧
    (settleMoney o v s).vnd = s.vnd ∧ (settleMoney o v s).spd = s.spd ∧ (settleMoney o v s).chg = s.chg ∧
    (settleMoney o v s).crd = s.crd ∧ (settleMoney o v s).clg = s.clg ∧ (settleMoney o v s).lds = s.lds ∧
    (settleMoney o v s).cmn = s.cmn ∧ (settleMoney o v s).ulk = s.ulk ∧ (settleMoney o v s).dlk = s.dlk ∧
    (settleMoney o v s).mgt = s.mgt := by
  and_intros <;> simp only [settleMoney] <;> (repeat' split) <;> simp

@[simp] theorem recordOutcome_frame (o : VendOutcome) (jam : Bool) (v : VendCtx) (s : State) :
    (recordOutcome o jam v s).now = s.now ∧ (recordOutcome o jam v s).pending = s.pending ∧
    (recordOutcome o jam v s).spd = s.spd ∧ (recordOutcome o jam v s).chg = s.chg ∧
    (recordOutcome o jam v s).crd = s.crd ∧ (recordOutcome o jam v s).lds = s.lds ∧
    (recordOutcome o jam v s).cmn = s.cmn ∧ (recordOutcome o jam v s).ulk = s.ulk ∧
    (recordOutcome o jam v s).dlk = s.dlk ∧ (recordOutcome o jam v s).mgt = s.mgt := by
  and_intros <;> simp only [recordOutcome] <;> simp

@[simp] theorem settleSecondSlot_frame (v : VendCtx) (s : State) :
    (settleSecondSlot v s).now = s.now ∧ (settleSecondSlot v s).pending = s.pending ∧
    (settleSecondSlot v s).sel = s.sel ∧ (settleSecondSlot v s).crd = s.crd ∧ (settleSecondSlot v s).cmn = s.cmn ∧
    (settleSecondSlot v s).ulk = s.ulk ∧ (settleSecondSlot v s).mgt = s.mgt := by
  and_intros <;> simp only [settleSecondSlot] <;> (repeat' split) <;> simp

@[simp] theorem finishVend_frame (informed : Bool) (s : State) :
    (finishVend informed s).now = s.now ∧ (finishVend informed s).pending = s.pending ∧
    (finishVend informed s).sel = s.sel ∧ (finishVend informed s).crd = s.crd ∧
    (finishVend informed s).cmn = s.cmn ∧ (finishVend informed s).ulk = s.ulk ∧
    (finishVend informed s).mgt = s.mgt := by
  and_intros <;> simp only [finishVend] <;> (repeat' split) <;> simp

@[simp] theorem setSession_frame (c : Crd) (s : State) :
    (setSession c s).now = s.now ∧ (setSession c s).pending = s.pending ∧ (setSession c s).freeIx = s.freeIx ∧
    (setSession c s).sel = s.sel ∧ (setSession c s).vnd = s.vnd ∧ (setSession c s).spd = s.spd ∧
    (setSession c s).csh = s.csh ∧ (setSession c s).chg = s.chg ∧ (setSession c s).clg = s.clg ∧
    (setSession c s).lds = s.lds ∧ (setSession c s).cmn = s.cmn ∧ (setSession c s).ulk = s.ulk ∧
    (setSession c s).dlk = s.dlk ∧ (setSession c s).mgt = s.mgt := by
  and_intros <;> simp only [setSession] <;> simp

@[simp] theorem sessionNone_frame (s : State) :
    (sessionNone s).now = s.now ∧ (sessionNone s).pending = s.pending ∧ (sessionNone s).freeIx = s.freeIx ∧
    (sessionNone s).sel = s.sel ∧ (sessionNone s).vnd = s.vnd ∧ (sessionNone s).spd = s.spd ∧
    (sessionNone s).csh = s.csh ∧ (sessionNone s).chg = s.chg ∧ (sessionNone s).clg = s.clg ∧
    (sessionNone s).lds = s.lds ∧ (sessionNone s).cmn = s.cmn ∧ (sessionNone s).ulk = s.ulk ∧
    (sessionNone s).dlk = s.dlk ∧ (sessionNone s).mgt = s.mgt := by
  and_intros <;> simp only [sessionNone] <;> simp

@[simp] theorem sessionEnds_frame (s : State) :
    (sessionEnds s).now = s.now ∧ (sessionEnds s).pending = s.pending ∧ (sessionEnds s).freeIx = s.freeIx ∧
    (sessionEnds s).sel = s.sel ∧ (sessionEnds s).vnd = s.vnd ∧ (sessionEnds s).spd = s.spd ∧
    (sessionEnds s).csh = s.csh ∧ (sessionEnds s).chg = s.chg ∧ (sessionEnds s).clg = s.clg ∧
    (sessionEnds s).lds = s.lds ∧ (sessionEnds s).cmn = s.cmn ∧ (sessionEnds s).ulk = s.ulk ∧
    (sessionEnds s).mgt = s.mgt := by
  and_intros <;> simp only [sessionEnds] <;> simp

@[simp] theorem sessionOpens_frame (s : State) :
    (sessionOpens s).now = s.now ∧ (sessionOpens s).pending = s.pending ∧ (sessionOpens s).freeIx = s.freeIx ∧
    (sessionOpens s).sel = s.sel ∧ (sessionOpens s).vnd = s.vnd ∧ (sessionOpens s).spd = s.spd ∧
    (sessionOpens s).csh = s.csh ∧ (sessionOpens s).chg = s.chg ∧ (sessionOpens s).clg = s.clg ∧
    (sessionOpens s).lds = s.lds ∧ (sessionOpens s).cmn = s.cmn ∧ (sessionOpens s).ulk = s.ulk ∧
    (sessionOpens s).mgt = s.mgt := by
  and_intros <;> simp only [sessionOpens] <;> (repeat' split) <;> simp

@[simp] theorem resultEnds_frame (acked : Bool) (s : State) :
    (resultEnds acked s).now = s.now ∧ (resultEnds acked s).pending = s.pending ∧
    (resultEnds acked s).sel = s.sel ∧ (resultEnds acked s).cmn = s.cmn ∧ (resultEnds acked s).ulk = s.ulk ∧
    (resultEnds acked s).mgt = s.mgt := by
  and_intros <;> simp only [resultEnds] <;> (repeat' split) <;> simp

@[simp] theorem oweResult_frame (r : ResultOwed) (s : State) :
    (oweResult r s).now = s.now ∧ (oweResult r s).pending = s.pending ∧ (oweResult r s).sel = s.sel ∧
    (oweResult r s).cmn = s.cmn ∧ (oweResult r s).ulk = s.ulk ∧ (oweResult r s).mgt = s.mgt := by
  and_intros <;> simp only [oweResult] <;> split <;> rename_i h <;> have e := congrArg Prod.fst h <;> subst e <;>
    simp

@[simp] theorem requestResult_frame (success : Bool) (v : VendCtx) (s : State) :
    (requestResult success v s).now = s.now ∧ (requestResult success v s).pending = s.pending ∧
    (requestResult success v s).sel = s.sel ∧ (requestResult success v s).cmn = s.cmn ∧
    (requestResult success v s).ulk = s.ulk ∧ (requestResult success v s).mgt = s.mgt := by
  and_intros <;> simp only [requestResult] <;> (repeat' split) <;> simp

@[simp] theorem releaseVend_frame (s : State) :
    (releaseVend s).now = s.now ∧ (releaseVend s).pending = s.pending ∧ (releaseVend s).sel = s.sel ∧
    (releaseVend s).crd = s.crd ∧ (releaseVend s).cmn = s.cmn ∧ (releaseVend s).ulk = s.ulk ∧
    (releaseVend s).mgt = s.mgt := by
  and_intros <;> simp only [releaseVend] <;> simp

@[simp] theorem settle_frame (o : VendOutcome) (jam : Bool) (informed : Bool) (s : State) :
    (settle o jam informed s).now = s.now ∧ (settle o jam informed s).pending = s.pending ∧
    (settle o jam informed s).cmn = s.cmn ∧ (settle o jam informed s).ulk = s.ulk ∧
    (settle o jam informed s).mgt = s.mgt := by
  and_intros <;> simp only [settle] <;> (repeat' split) <;> simp

end Sys2Proof.Machine
end

