-- ==== Sys2Proof/Laws/VendFrames.lean ====
section
/-! SUPPORT. Frames: what the operations of the Card Unit, Vend Control, the Cash Unit's events and the modes leave as
it was. -/

namespace Sys2Proof.Machine

@[simp] theorem enterLoadWait_frame (s : State) :
    (enterLoadWait s).now = s.now ∧ (enterLoadWait s).pending = s.pending ∧ (enterLoadWait s).sel = s.sel ∧
    (enterLoadWait s).crd = s.crd ∧ (enterLoadWait s).cmn = s.cmn ∧ (enterLoadWait s).ulk = s.ulk ∧
    (enterLoadWait s).mgt = s.mgt := by
  and_intros <;> simp only [enterLoadWait] <;> (repeat' split) <;> simp

@[simp] theorem denyVend_frame (informed : Bool) (s : State) :
    (denyVend informed s).now = s.now ∧ (denyVend informed s).pending = s.pending ∧
    (denyVend informed s).cmn = s.cmn ∧ (denyVend informed s).ulk = s.ulk ∧ (denyVend informed s).mgt = s.mgt := by
  and_intros <;> simp only [denyVend] <;> simp

@[simp] theorem askApproval_frame (v : VendCtx) (s : State) :
    (askApproval v s).1.now = s.now ∧ (askApproval v s).1.pending = s.pending ∧
    (askApproval v s).1.freeIx = s.freeIx ∧ (askApproval v s).1.sel = s.sel ∧ (askApproval v s).1.vnd = s.vnd ∧
    (askApproval v s).1.spd = s.spd ∧ (askApproval v s).1.csh = s.csh ∧ (askApproval v s).1.chg = s.chg ∧
    (askApproval v s).1.clg = s.clg ∧ (askApproval v s).1.lds = s.lds ∧ (askApproval v s).1.cmn = s.cmn ∧
    (askApproval v s).1.ulk = s.ulk ∧ (askApproval v s).1.mgt = s.mgt := by
  and_intros <;> simp only [askApproval] <;> simp

@[simp] theorem requestEnds_frame (acked : Bool) (s : State) :
    (requestEnds acked s).now = s.now ∧ (requestEnds acked s).pending = s.pending ∧
    (requestEnds acked s).cmn = s.cmn ∧ (requestEnds acked s).ulk = s.ulk ∧ (requestEnds acked s).mgt = s.mgt := by
  and_intros <;> simp only [requestEnds] <;> (repeat' split) <;> simp

@[simp] theorem sessionOpenEvent_frame (funds : Option Nat) (s : State) :
    (sessionOpenEvent funds s).now = s.now ∧ (sessionOpenEvent funds s).pending = s.pending ∧
    (sessionOpenEvent funds s).freeIx = s.freeIx ∧ (sessionOpenEvent funds s).sel = s.sel ∧
    (sessionOpenEvent funds s).vnd = s.vnd ∧ (sessionOpenEvent funds s).spd = s.spd ∧
    (sessionOpenEvent funds s).csh = s.csh ∧ (sessionOpenEvent funds s).chg = s.chg ∧
    (sessionOpenEvent funds s).clg = s.clg ∧ (sessionOpenEvent funds s).lds = s.lds ∧
    (sessionOpenEvent funds s).cmn = s.cmn ∧ (sessionOpenEvent funds s).ulk = s.ulk ∧
    (sessionOpenEvent funds s).mgt = s.mgt := by
  and_intros <;> simp only [sessionOpenEvent] <;> (repeat' split) <;> simp

@[simp] theorem sessionCloseEvent_frame (s : State) :
    (sessionCloseEvent s).now = s.now ∧ (sessionCloseEvent s).pending = s.pending ∧
    (sessionCloseEvent s).cmn = s.cmn ∧ (sessionCloseEvent s).ulk = s.ulk ∧ (sessionCloseEvent s).mgt = s.mgt := by
  and_intros <;> simp only [sessionCloseEvent] <;> (repeat' split) <;> simp

@[simp] theorem approvedEvent_frame (amount : Nat) (s : State) :
    (approvedEvent amount s).now = s.now ∧ (approvedEvent amount s).pending = s.pending ∧
    (approvedEvent amount s).cmn = s.cmn ∧ (approvedEvent amount s).ulk = s.ulk ∧
    (approvedEvent amount s).mgt = s.mgt := by
  and_intros <;> simp only [approvedEvent] <;> (repeat' split) <;> simp

@[simp] theorem deniedEvent_frame (s : State) :
    (deniedEvent s).now = s.now ∧ (deniedEvent s).pending = s.pending ∧ (deniedEvent s).cmn = s.cmn ∧
    (deniedEvent s).ulk = s.ulk ∧ (deniedEvent s).mgt = s.mgt := by
  and_intros <;> simp only [deniedEvent] <;> (repeat' split) <;> simp

@[simp] theorem deadlineExpires_frame (s : State) :
    (deadlineExpires s).now = s.now ∧ (deadlineExpires s).pending = s.pending ∧ (deadlineExpires s).cmn = s.cmn ∧
    (deadlineExpires s).ulk = s.ulk ∧ (deadlineExpires s).mgt = s.mgt := by
  and_intros <;> simp only [deadlineExpires] <;> (repeat' split) <;> simp

@[simp] theorem readerLost_frame (s : State) :
    (readerLost s).now = s.now ∧ (readerLost s).pending = s.pending ∧ (readerLost s).cmn = s.cmn ∧
    (readerLost s).ulk = s.ulk ∧ (readerLost s).mgt = s.mgt := by
  and_intros <;> simp only [readerLost] <;> (repeat' split) <;> simp

@[simp] theorem sessionLeavesOnline_frame (s : State) :
    (sessionLeavesOnline s).now = s.now ∧ (sessionLeavesOnline s).pending = s.pending ∧
    (sessionLeavesOnline s).freeIx = s.freeIx ∧ (sessionLeavesOnline s).sel = s.sel ∧
    (sessionLeavesOnline s).vnd = s.vnd ∧ (sessionLeavesOnline s).spd = s.spd ∧
    (sessionLeavesOnline s).csh = s.csh ∧ (sessionLeavesOnline s).chg = s.chg ∧
    (sessionLeavesOnline s).clg = s.clg ∧ (sessionLeavesOnline s).lds = s.lds ∧
    (sessionLeavesOnline s).cmn = s.cmn ∧ (sessionLeavesOnline s).ulk = s.ulk ∧
    (sessionLeavesOnline s).mgt = s.mgt := by
  and_intros <;> simp only [sessionLeavesOnline] <;> (repeat' split) <;> simp

@[simp] theorem acceptVend_frame (i : Nat) (pay : Payment) (s : State) :
    (acceptVend i pay s).now = s.now ∧ (acceptVend i pay s).pending = s.pending ∧
    (acceptVend i pay s).cmn = s.cmn ∧ (acceptVend i pay s).ulk = s.ulk ∧ (acceptVend i pay s).mgt = s.mgt := by
  and_intros <;> simp only [acceptVend] <;> (repeat' split) <;>
    (try (rename_i h; have e := congrArg Prod.fst h; subst e)) <;> simp

@[simp] theorem holdCancelsVend_frame (s : State) :
    (holdCancelsVend s).now = s.now ∧ (holdCancelsVend s).pending = s.pending ∧ (holdCancelsVend s).cmn = s.cmn ∧
    (holdCancelsVend s).ulk = s.ulk ∧ (holdCancelsVend s).mgt = s.mgt := by
  and_intros <;> simp only [holdCancelsVend] <;> (repeat' split) <;> simp

@[simp] theorem turnReport_frame (r : TurnResult) (drop : Bool) (s : State) :
    (turnReport r drop s).now = s.now ∧ (turnReport r drop s).pending = s.pending ∧
    (turnReport r drop s).cmn = s.cmn ∧ (turnReport r drop s).ulk = s.ulk ∧ (turnReport r drop s).mgt = s.mgt := by
  and_intros <;> simp only [turnReport] <;> (repeat' split) <;> simp

@[simp] theorem interruptVend_frame (drop : Bool) (s : State) :
    (interruptVend drop s).now = s.now ∧ (interruptVend drop s).pending = s.pending ∧
    (interruptVend drop s).cmn = s.cmn ∧ (interruptVend drop s).ulk = s.ulk ∧ (interruptVend drop s).mgt = s.mgt := by
  and_intros <;> simp only [interruptVend] <;> (repeat' split) <;> simp

@[simp] theorem refileVend_frame (s : State) :
    (refileVend s).now = s.now ∧ (refileVend s).pending = s.pending ∧ (refileVend s).freeIx = s.freeIx ∧
    (refileVend s).sel = s.sel ∧ (refileVend s).vnd = s.vnd ∧ (refileVend s).spd = s.spd ∧
    (refileVend s).csh = s.csh ∧ (refileVend s).chg = s.chg ∧ (refileVend s).crd = s.crd ∧
    (refileVend s).clg = s.clg ∧ (refileVend s).cmn = s.cmn ∧ (refileVend s).ulk = s.ulk ∧
    (refileVend s).dlk = s.dlk ∧ (refileVend s).mgt = s.mgt ∧ (refileVend s).rpq = s.rpq := by
  and_intros <;> simp only [refileVend] <;> (repeat' split) <;> simp

@[simp] theorem resetVendSettles_frame (drop : Bool) (s : State) :
    (resetVendSettles drop s).now = s.now ∧ (resetVendSettles drop s).pending = s.pending ∧
    (resetVendSettles drop s).spd = s.spd ∧ (resetVendSettles drop s).chg = s.chg ∧
    (resetVendSettles drop s).crd = s.crd ∧ (resetVendSettles drop s).lds = s.lds ∧
    (resetVendSettles drop s).cmn = s.cmn ∧ (resetVendSettles drop s).ulk = s.ulk ∧
    (resetVendSettles drop s).dlk = s.dlk ∧ (resetVendSettles drop s).mgt = s.mgt := by
  and_intros <;> simp only [resetVendSettles] <;> (repeat' split) <;> simp

@[simp] theorem openGate_frame (toTube : Bool) (s : State) :
    (openGate toTube s).now = s.now ∧ (openGate toTube s).pending = s.pending ∧
    (openGate toTube s).freeIx = s.freeIx ∧ (openGate toTube s).sel = s.sel ∧ (openGate toTube s).vnd = s.vnd ∧
    (openGate toTube s).spd = s.spd ∧ (openGate toTube s).chg = s.chg ∧ (openGate toTube s).crd = s.crd ∧
    (openGate toTube s).clg = s.clg ∧ (openGate toTube s).lds = s.lds ∧ (openGate toTube s).cmn = s.cmn ∧
    (openGate toTube s).ulk = s.ulk ∧ (openGate toTube s).dlk = s.dlk ∧ (openGate toTube s).mgt = s.mgt ∧
    (openGate toTube s).rpq = s.rpq := by
  and_intros <;> simp only [openGate]

@[simp] theorem closeGate_frame (s : State) :
    (closeGate s).now = s.now ∧ (closeGate s).pending = s.pending ∧ (closeGate s).freeIx = s.freeIx ∧
    (closeGate s).sel = s.sel ∧ (closeGate s).vnd = s.vnd ∧ (closeGate s).spd = s.spd ∧ (closeGate s).chg = s.chg ∧
    (closeGate s).crd = s.crd ∧ (closeGate s).clg = s.clg ∧ (closeGate s).lds = s.lds ∧ (closeGate s).cmn = s.cmn ∧
    (closeGate s).ulk = s.ulk ∧ (closeGate s).dlk = s.dlk ∧ (closeGate s).mgt = s.mgt ∧
    (closeGate s).rpq = s.rpq := by
  and_intros <;> simp only [closeGate]

@[simp] theorem coinEnters_frame (t : Option Nat) (s : State) :
    (coinEnters t s).now = s.now ∧ (coinEnters t s).pending = s.pending ∧ (coinEnters t s).freeIx = s.freeIx ∧
    (coinEnters t s).sel = s.sel ∧ (coinEnters t s).vnd = s.vnd ∧ (coinEnters t s).spd = s.spd ∧
    (coinEnters t s).csh = s.csh ∧ (coinEnters t s).crd = s.crd ∧ (coinEnters t s).clg = s.clg ∧
    (coinEnters t s).lds = s.lds ∧ (coinEnters t s).cmn = s.cmn ∧ (coinEnters t s).ulk = s.ulk ∧
    (coinEnters t s).dlk = s.dlk ∧ (coinEnters t s).mgt = s.mgt := by
  and_intros <;> simp only [coinEnters] <;> (repeat' split) <;> simp

@[simp] theorem creditCoin_frame (i : Nat) (s : State) :
    (creditCoin i s).now = s.now ∧ (creditCoin i s).pending = s.pending ∧ (creditCoin i s).sel = s.sel ∧
    (creditCoin i s).vnd = s.vnd ∧ (creditCoin i s).spd = s.spd ∧ (creditCoin i s).crd = s.crd ∧
    (creditCoin i s).clg = s.clg ∧ (creditCoin i s).lds = s.lds ∧ (creditCoin i s).cmn = s.cmn ∧
    (creditCoin i s).ulk = s.ulk ∧ (creditCoin i s).mgt = s.mgt := by
  and_intros <;> simp only [creditCoin] <;> simp

@[simp] theorem fillCoin_frame (t : Nat) (i : Nat) (s : State) :
    (fillCoin t i s).now = s.now ∧ (fillCoin t i s).pending = s.pending ∧ (fillCoin t i s).freeIx = s.freeIx ∧
    (fillCoin t i s).sel = s.sel ∧ (fillCoin t i s).vnd = s.vnd ∧ (fillCoin t i s).spd = s.spd ∧
    (fillCoin t i s).crd = s.crd ∧ (fillCoin t i s).clg = s.clg ∧ (fillCoin t i s).lds = s.lds ∧
    (fillCoin t i s).cmn = s.cmn ∧ (fillCoin t i s).ulk = s.ulk ∧ (fillCoin t i s).mgt = s.mgt := by
  and_intros <;> simp only [fillCoin] <;> simp

@[simp] theorem coinDecided_frame (i : Nat) (s : State) :
    (coinDecided i s).now = s.now ∧ (coinDecided i s).pending = s.pending ∧ (coinDecided i s).sel = s.sel ∧
    (coinDecided i s).vnd = s.vnd ∧ (coinDecided i s).spd = s.spd ∧ (coinDecided i s).crd = s.crd ∧
    (coinDecided i s).clg = s.clg ∧ (coinDecided i s).lds = s.lds ∧ (coinDecided i s).cmn = s.cmn ∧
    (coinDecided i s).ulk = s.ulk ∧ (coinDecided i s).mgt = s.mgt := by
  and_intros <;> simp only [coinDecided] <;> (repeat' split) <;> simp

@[simp] theorem startRefund_frame (s : State) :
    (startRefund s).now = s.now ∧ (startRefund s).pending = s.pending ∧ (startRefund s).sel = s.sel ∧
    (startRefund s).crd = s.crd ∧ (startRefund s).cmn = s.cmn ∧ (startRefund s).ulk = s.ulk ∧
    (startRefund s).mgt = s.mgt := by
  and_intros <;> simp only [startRefund] <;> simp

@[simp] theorem dropEscrow_frame (s : State) :
    (dropEscrow s).now = s.now ∧ (dropEscrow s).pending = s.pending ∧ (dropEscrow s).freeIx = s.freeIx ∧
    (dropEscrow s).sel = s.sel ∧ (dropEscrow s).vnd = s.vnd ∧ (dropEscrow s).spd = s.spd ∧
    (dropEscrow s).chg = s.chg ∧ (dropEscrow s).crd = s.crd ∧ (dropEscrow s).clg = s.clg ∧
    (dropEscrow s).lds = s.lds ∧ (dropEscrow s).cmn = s.cmn ∧ (dropEscrow s).ulk = s.ulk ∧
    (dropEscrow s).mgt = s.mgt := by
  and_intros <;> simp only [dropEscrow] <;> simp

@[simp] theorem billEscrow_frame (c : Nat) (s : State) :
    (billEscrow c s).now = s.now ∧ (billEscrow c s).pending = s.pending ∧ (billEscrow c s).freeIx = s.freeIx ∧
    (billEscrow c s).sel = s.sel ∧ (billEscrow c s).vnd = s.vnd ∧ (billEscrow c s).spd = s.spd ∧
    (billEscrow c s).chg = s.chg ∧ (billEscrow c s).crd = s.crd ∧ (billEscrow c s).clg = s.clg ∧
    (billEscrow c s).lds = s.lds ∧ (billEscrow c s).cmn = s.cmn ∧ (billEscrow c s).ulk = s.ulk ∧
    (billEscrow c s).mgt = s.mgt := by
  and_intros <;> simp only [billEscrow] <;> (repeat' split) <;> simp

@[simp] theorem billAnomaly_frame (node : Nat) (c : Nat) (notCredited : Nat) (s : State) :
    (billAnomaly node c notCredited s).now = s.now ∧ (billAnomaly node c notCredited s).pending = s.pending ∧
    (billAnomaly node c notCredited s).sel = s.sel ∧ (billAnomaly node c notCredited s).vnd = s.vnd ∧
    (billAnomaly node c notCredited s).spd = s.spd ∧ (billAnomaly node c notCredited s).chg = s.chg ∧
    (billAnomaly node c notCredited s).crd = s.crd ∧ (billAnomaly node c notCredited s).clg = s.clg ∧
    (billAnomaly node c notCredited s).lds = s.lds ∧ (billAnomaly node c notCredited s).cmn = s.cmn ∧
    (billAnomaly node c notCredited s).ulk = s.ulk ∧ (billAnomaly node c notCredited s).dlk = s.dlk ∧
    (billAnomaly node c notCredited s).mgt = s.mgt := by
  and_intros <;> simp only [billAnomaly] <;> (repeat' split) <;> simp

@[simp] theorem billStacked_frame (node : Nat) (c : Nat) (s : State) :
    (billStacked node c s).now = s.now ∧ (billStacked node c s).pending = s.pending ∧
    (billStacked node c s).sel = s.sel ∧ (billStacked node c s).vnd = s.vnd ∧ (billStacked node c s).spd = s.spd ∧
    (billStacked node c s).chg = s.chg ∧ (billStacked node c s).crd = s.crd ∧ (billStacked node c s).clg = s.clg ∧
    (billStacked node c s).lds = s.lds ∧ (billStacked node c s).cmn = s.cmn ∧ (billStacked node c s).ulk = s.ulk ∧
    (billStacked node c s).mgt = s.mgt := by
  and_intros <;> simp only [billStacked] <;> (repeat' split) <;> simp

@[simp] theorem tryRelease_frame (s : State) :
    (tryRelease s).now = s.now ∧ (tryRelease s).pending = s.pending ∧ (tryRelease s).freeIx = s.freeIx ∧
    (tryRelease s).sel = s.sel ∧ (tryRelease s).vnd = s.vnd ∧ (tryRelease s).spd = s.spd ∧
    (tryRelease s).csh = s.csh ∧ (tryRelease s).chg = s.chg ∧ (tryRelease s).crd = s.crd ∧
    (tryRelease s).clg = s.clg ∧ (tryRelease s).lds = s.lds ∧ (tryRelease s).cmn = s.cmn ∧
    (tryRelease s).ulk = s.ulk ∧ (tryRelease s).mgt = s.mgt ∧ (tryRelease s).rpq = s.rpq := by
  and_intros <;> simp only [tryRelease] <;> (repeat' split) <;> simp

@[simp] theorem pendRelease_frame (s : State) :
    (pendRelease s).now = s.now ∧ (pendRelease s).pending = s.pending ∧ (pendRelease s).freeIx = s.freeIx ∧
    (pendRelease s).sel = s.sel ∧ (pendRelease s).vnd = s.vnd ∧ (pendRelease s).spd = s.spd ∧
    (pendRelease s).csh = s.csh ∧ (pendRelease s).chg = s.chg ∧ (pendRelease s).crd = s.crd ∧
    (pendRelease s).clg = s.clg ∧ (pendRelease s).lds = s.lds ∧ (pendRelease s).cmn = s.cmn ∧
    (pendRelease s).ulk = s.ulk ∧ (pendRelease s).mgt = s.mgt ∧ (pendRelease s).rpq = s.rpq := by
  and_intros <;> simp only [pendRelease] <;> simp

@[simp] theorem segmentLeavesOnline_frame (s : State) :
    (segmentLeavesOnline s).now = s.now ∧ (segmentLeavesOnline s).pending = s.pending ∧
    (segmentLeavesOnline s).freeIx = s.freeIx ∧ (segmentLeavesOnline s).sel = s.sel ∧
    (segmentLeavesOnline s).vnd = s.vnd ∧ (segmentLeavesOnline s).spd = s.spd ∧
    (segmentLeavesOnline s).csh = s.csh ∧ (segmentLeavesOnline s).chg = s.chg ∧
    (segmentLeavesOnline s).crd = s.crd ∧ (segmentLeavesOnline s).clg = s.clg ∧
    (segmentLeavesOnline s).lds = s.lds ∧ (segmentLeavesOnline s).cmn = s.cmn ∧
    (segmentLeavesOnline s).ulk = s.ulk ∧ (segmentLeavesOnline s).mgt = s.mgt ∧
    (segmentLeavesOnline s).rpq = s.rpq := by
  and_intros <;> simp only [segmentLeavesOnline] <;> (repeat' split) <;> simp

@[simp] theorem requestActive_frame (s : State) :
    (requestActive s).now = s.now ∧ (requestActive s).pending = s.pending ∧ (requestActive s).freeIx = s.freeIx ∧
    (requestActive s).sel = s.sel ∧ (requestActive s).vnd = s.vnd ∧ (requestActive s).spd = s.spd ∧
    (requestActive s).csh = s.csh ∧ (requestActive s).chg = s.chg ∧ (requestActive s).crd = s.crd ∧
    (requestActive s).clg = s.clg ∧ (requestActive s).lds = s.lds ∧ (requestActive s).cmn = s.cmn ∧
    (requestActive s).ulk = s.ulk ∧ (requestActive s).mgt = s.mgt ∧ (requestActive s).rpq = s.rpq := by
  and_intros <;> simp only [requestActive] <;> (repeat' split) <;> simp

@[simp] theorem segmentReturns_frame (s : State) :
    (segmentReturns s).now = s.now ∧ (segmentReturns s).pending = s.pending ∧
    (segmentReturns s).freeIx = s.freeIx ∧ (segmentReturns s).sel = s.sel ∧ (segmentReturns s).vnd = s.vnd ∧
    (segmentReturns s).spd = s.spd ∧ (segmentReturns s).csh = s.csh ∧ (segmentReturns s).chg = s.chg ∧
    (segmentReturns s).crd = s.crd ∧ (segmentReturns s).clg = s.clg ∧ (segmentReturns s).lds = s.lds ∧
    (segmentReturns s).cmn = s.cmn ∧ (segmentReturns s).ulk = s.ulk ∧ (segmentReturns s).mgt = s.mgt ∧
    (segmentReturns s).rpq = s.rpq := by
  and_intros <;> simp only [segmentReturns]

@[simp] theorem requestInactive_frame (s : State) :
    (requestInactive s).now = s.now ∧ (requestInactive s).pending = s.pending ∧
    (requestInactive s).freeIx = s.freeIx ∧ (requestInactive s).sel = s.sel ∧ (requestInactive s).vnd = s.vnd ∧
    (requestInactive s).spd = s.spd ∧ (requestInactive s).csh = s.csh ∧ (requestInactive s).chg = s.chg ∧
    (requestInactive s).crd = s.crd ∧ (requestInactive s).clg = s.clg ∧ (requestInactive s).lds = s.lds ∧
    (requestInactive s).cmn = s.cmn ∧ (requestInactive s).ulk = s.ulk ∧ (requestInactive s).mgt = s.mgt ∧
    (requestInactive s).rpq = s.rpq := by
  and_intros <;> simp only [requestInactive] <;> (repeat' split) <;> simp

@[simp] theorem storeMode_frame (m : Mode) (s : State) :
    (storeMode m s).now = s.now ∧ (storeMode m s).pending = s.pending ∧ (storeMode m s).freeIx = s.freeIx ∧
    (storeMode m s).sel = s.sel ∧ (storeMode m s).vnd = s.vnd ∧ (storeMode m s).spd = s.spd ∧
    (storeMode m s).csh = s.csh ∧ (storeMode m s).chg = s.chg ∧ (storeMode m s).crd = s.crd ∧
    (storeMode m s).clg = s.clg ∧ (storeMode m s).lds = s.lds ∧ (storeMode m s).cmn = s.cmn ∧
    (storeMode m s).ulk = s.ulk ∧ (storeMode m s).dlk = s.dlk ∧ (storeMode m s).rpq = s.rpq := by
  and_intros <;> simp only [storeMode]

@[simp] theorem modeFollows_frame (before : State) (s : State) :
    (modeFollows before s).now = s.now ∧ (modeFollows before s).pending = s.pending ∧
    (modeFollows before s).freeIx = s.freeIx ∧ (modeFollows before s).sel = s.sel ∧
    (modeFollows before s).vnd = s.vnd ∧ (modeFollows before s).spd = s.spd ∧ (modeFollows before s).chg = s.chg ∧
    (modeFollows before s).clg = s.clg ∧ (modeFollows before s).lds = s.lds ∧ (modeFollows before s).cmn = s.cmn ∧
    (modeFollows before s).ulk = s.ulk ∧ (modeFollows before s).mgt = s.mgt := by
  and_intros <;> simp only [modeFollows] <;> (repeat' split) <;> simp

@[simp] theorem changeMode_frame (m : Mode) (s : State) :
    (changeMode m s).now = s.now ∧ (changeMode m s).pending = s.pending ∧ (changeMode m s).sel = s.sel ∧
    (changeMode m s).cmn = s.cmn ∧ (changeMode m s).ulk = s.ulk := by
  and_intros <;> simp only [changeMode] <;> (repeat' split) <;> simp

@[simp] theorem dropAllGrants_frame (s : State) :
    (dropAllGrants s).now = s.now ∧ (dropAllGrants s).pending = s.pending ∧ (dropAllGrants s).freeIx = s.freeIx ∧
    (dropAllGrants s).sel = s.sel ∧ (dropAllGrants s).vnd = s.vnd ∧ (dropAllGrants s).spd = s.spd ∧
    (dropAllGrants s).csh = s.csh ∧ (dropAllGrants s).chg = s.chg ∧ (dropAllGrants s).crd = s.crd ∧
    (dropAllGrants s).clg = s.clg ∧ (dropAllGrants s).cmn = s.cmn ∧ (dropAllGrants s).ulk = s.ulk ∧
    (dropAllGrants s).dlk = s.dlk ∧ (dropAllGrants s).mgt = s.mgt ∧ (dropAllGrants s).rpq = s.rpq := by
  and_intros <;> simp only [dropAllGrants]

@[simp] theorem cutPayout_frame (s : State) :
    (cutPayout s).now = s.now ∧ (cutPayout s).pending = s.pending ∧ (cutPayout s).sel = s.sel ∧
    (cutPayout s).vnd = s.vnd ∧ (cutPayout s).spd = s.spd ∧ (cutPayout s).crd = s.crd ∧ (cutPayout s).clg = s.clg ∧
    (cutPayout s).cmn = s.cmn ∧ (cutPayout s).ulk = s.ulk ∧ (cutPayout s).mgt = s.mgt := by
  and_intros <;> simp only [cutPayout] <;> (repeat' split) <;> simp

@[simp] theorem coolingEntersSafe_frame (s : State) :
    (coolingEntersSafe s).now = s.now ∧ (coolingEntersSafe s).pending = s.pending ∧
    (coolingEntersSafe s).freeIx = s.freeIx ∧ (coolingEntersSafe s).sel = s.sel ∧
    (coolingEntersSafe s).vnd = s.vnd ∧ (coolingEntersSafe s).spd = s.spd ∧ (coolingEntersSafe s).csh = s.csh ∧
    (coolingEntersSafe s).chg = s.chg ∧ (coolingEntersSafe s).crd = s.crd ∧ (coolingEntersSafe s).lds = s.lds ∧
    (coolingEntersSafe s).cmn = s.cmn ∧ (coolingEntersSafe s).ulk = s.ulk ∧ (coolingEntersSafe s).dlk = s.dlk ∧
    (coolingEntersSafe s).mgt = s.mgt := by
  and_intros <;> simp only [coolingEntersSafe] <;> (repeat' split) <;> simp

@[simp] theorem enterSafe_frame (s : State) :
    (enterSafe s).now = s.now ∧ (enterSafe s).pending = s.pending ∧ (enterSafe s).cmn = s.cmn ∧
    (enterSafe s).ulk = s.ulk := by
  and_intros <;> simp only [enterSafe] <;> simp

@[simp] theorem leaveSafe_frame (s : State) :
    (leaveSafe s).now = s.now ∧ (leaveSafe s).pending = s.pending ∧ (leaveSafe s).sel = s.sel ∧
    (leaveSafe s).cmn = s.cmn ∧ (leaveSafe s).ulk = s.ulk := by
  and_intros <;> simp only [leaveSafe] <;> (repeat' split) <;> simp

@[simp] theorem doorMovesMode_frame (isOpen : Bool) (s : State) :
    (doorMovesMode isOpen s).now = s.now ∧ (doorMovesMode isOpen s).pending = s.pending ∧
    (doorMovesMode isOpen s).sel = s.sel ∧ (doorMovesMode isOpen s).cmn = s.cmn ∧
    (doorMovesMode isOpen s).ulk = s.ulk := by
  and_intros <;> simp only [doorMovesMode] <;> (repeat' split) <;> simp

@[simp] theorem doorTaken_frame (isOpen : Bool) (s : State) :
    (doorTaken isOpen s).now = s.now ∧ (doorTaken isOpen s).pending = s.pending ∧
    (doorTaken isOpen s).sel = s.sel ∧ (doorTaken isOpen s).ulk = s.ulk := by
  and_intros <;> simp only [doorTaken] <;> (repeat' split) <;> simp

@[simp] theorem supplySampled_frame (volts : Nat) (s : State) :
    (supplySampled volts s).now = s.now ∧ (supplySampled volts s).pending = s.pending ∧
    (supplySampled volts s).freeIx = s.freeIx ∧ (supplySampled volts s).sel = s.sel ∧
    (supplySampled volts s).vnd = s.vnd ∧ (supplySampled volts s).spd = s.spd ∧
    (supplySampled volts s).csh = s.csh ∧ (supplySampled volts s).chg = s.chg ∧
    (supplySampled volts s).crd = s.crd ∧ (supplySampled volts s).clg = s.clg ∧
    (supplySampled volts s).lds = s.lds ∧ (supplySampled volts s).ulk = s.ulk ∧
    (supplySampled volts s).dlk = s.dlk ∧ (supplySampled volts s).mgt = s.mgt ∧
    (supplySampled volts s).rpq = s.rpq := by
  and_intros <;> simp only [supplySampled]

end Sys2Proof.Machine
end

