-- ==== Sys2Proof/Laws/LinkFrames.lean ====
section
/-! SUPPORT. Frames: what the operations of the Downstream Link, the table writes, the commands and the management
reset leave as it was. -/

namespace Sys2Proof.Machine

@[simp] theorem setRoute_frame (i : Nat) (r : Route) (s : State) :
    (setRoute i r s).now = s.now ∧ (setRoute i r s).pending = s.pending ∧ (setRoute i r s).freeIx = s.freeIx ∧
    (setRoute i r s).sel = s.sel ∧ (setRoute i r s).vnd = s.vnd ∧ (setRoute i r s).spd = s.spd ∧
    (setRoute i r s).csh = s.csh ∧ (setRoute i r s).chg = s.chg ∧ (setRoute i r s).crd = s.crd ∧
    (setRoute i r s).clg = s.clg ∧ (setRoute i r s).lds = s.lds ∧ (setRoute i r s).cmn = s.cmn ∧
    (setRoute i r s).ulk = s.ulk ∧ (setRoute i r s).mgt = s.mgt ∧ (setRoute i r s).rpq = s.rpq := by
  and_intros <;> simp only [setRoute]

@[simp] theorem ownFrameEnds_frame (acked : Bool) (f : OwnFrame) (s : State) :
    (ownFrameEnds acked f s).now = s.now ∧ (ownFrameEnds acked f s).pending = s.pending ∧
    (ownFrameEnds acked f s).cmn = s.cmn ∧ (ownFrameEnds acked f s).ulk = s.ulk ∧
    (ownFrameEnds acked f s).mgt = s.mgt := by
  and_intros <;> simp only [ownFrameEnds] <;> (repeat' split) <;> simp

@[simp] theorem ownFramesDropped_frame (l : List OwnFrame) (s : State) :
    (l.foldl (fun a f => ownFrameEnds false f a) s).now = s.now ∧
    (l.foldl (fun a f => ownFrameEnds false f a) s).pending = s.pending ∧
    (l.foldl (fun a f => ownFrameEnds false f a) s).cmn = s.cmn ∧
    (l.foldl (fun a f => ownFrameEnds false f a) s).ulk = s.ulk ∧
    (l.foldl (fun a f => ownFrameEnds false f a) s).mgt = s.mgt := by
  induction l generalizing s with
  | nil => simp
  | cons f l ih => simp [ih]

@[simp] theorem dropOwnFrames_frame (node : Nat) (s : State) :
    (dropOwnFrames node s).now = s.now ∧ (dropOwnFrames node s).pending = s.pending ∧
    (dropOwnFrames node s).cmn = s.cmn ∧ (dropOwnFrames node s).ulk = s.ulk ∧ (dropOwnFrames node s).mgt = s.mgt := by
  and_intros <;> simp only [dropOwnFrames] <;> simp

@[simp] theorem passLoss_frame (bill : Bool) (card : Bool) (s : State) :
    (passLoss bill card s).now = s.now ∧ (passLoss bill card s).pending = s.pending ∧
    (passLoss bill card s).cmn = s.cmn ∧ (passLoss bill card s).ulk = s.ulk ∧ (passLoss bill card s).mgt = s.mgt := by
  and_intros <;> simp only [passLoss] <;> (repeat' split) <;> simp

@[simp] theorem entryLost_frame (i : Nat) (r : Route) (s : State) :
    (entryLost i r s).now = s.now ∧ (entryLost i r s).pending = s.pending ∧ (entryLost i r s).cmn = s.cmn ∧
    (entryLost i r s).ulk = s.ulk ∧ (entryLost i r s).mgt = s.mgt := by
  and_intros <;> simp only [entryLost] <;> simp

@[simp] theorem entryReplied_frame (i : Nat) (r : Route) (s : State) :
    (entryReplied i r s).now = s.now ∧ (entryReplied i r s).pending = s.pending ∧
    (entryReplied i r s).freeIx = s.freeIx ∧ (entryReplied i r s).sel = s.sel ∧ (entryReplied i r s).vnd = s.vnd ∧
    (entryReplied i r s).spd = s.spd ∧ (entryReplied i r s).csh = s.csh ∧ (entryReplied i r s).chg = s.chg ∧
    (entryReplied i r s).crd = s.crd ∧ (entryReplied i r s).clg = s.clg ∧ (entryReplied i r s).lds = s.lds ∧
    (entryReplied i r s).cmn = s.cmn ∧ (entryReplied i r s).ulk = s.ulk ∧ (entryReplied i r s).mgt = s.mgt := by
  and_intros <;> simp only [entryReplied] <;> (repeat' split) <;> simp

@[simp] theorem entryMissed_frame (i : Nat) (r : Route) (s : State) :
    (entryMissed i r s).now = s.now ∧ (entryMissed i r s).pending = s.pending ∧ (entryMissed i r s).cmn = s.cmn ∧
    (entryMissed i r s).ulk = s.ulk ∧ (entryMissed i r s).mgt = s.mgt := by
  and_intros <;> simp only [entryMissed] <;> (repeat' split) <;> simp

@[simp] theorem updatePresence_frame (replied : Bool) (dest : Nat) (s : State) :
    (updatePresence replied dest s).now = s.now ∧ (updatePresence replied dest s).pending = s.pending ∧
    (updatePresence replied dest s).cmn = s.cmn ∧ (updatePresence replied dest s).ulk = s.ulk ∧
    (updatePresence replied dest s).mgt = s.mgt := by
  and_intros <;> simp only [updatePresence] <;> (repeat' split) <;> simp

@[simp] theorem takeEvent_frame (node : Nat) (ev : PeripheralEvent) (s : State) :
    (takeEvent node ev s).now = s.now ∧ (takeEvent node ev s).pending = s.pending ∧
    (takeEvent node ev s).cmn = s.cmn ∧ (takeEvent node ev s).ulk = s.ulk ∧ (takeEvent node ev s).mgt = s.mgt := by
  and_intros <;> simp only [takeEvent] <;> (repeat' split) <;> simp

@[simp] theorem releasePollSlot_frame (slot : Bool) (s : State) :
    (releasePollSlot slot s).now = s.now ∧ (releasePollSlot slot s).pending = s.pending ∧
    (releasePollSlot slot s).freeIx = s.freeIx ∧ (releasePollSlot slot s).sel = s.sel ∧
    (releasePollSlot slot s).vnd = s.vnd ∧ (releasePollSlot slot s).spd = s.spd ∧
    (releasePollSlot slot s).csh = s.csh ∧ (releasePollSlot slot s).chg = s.chg ∧
    (releasePollSlot slot s).crd = s.crd ∧ (releasePollSlot slot s).clg = s.clg ∧
    (releasePollSlot slot s).lds = s.lds ∧ (releasePollSlot slot s).cmn = s.cmn ∧
    (releasePollSlot slot s).ulk = s.ulk ∧ (releasePollSlot slot s).mgt = s.mgt := by
  and_intros <;> simp only [releasePollSlot] <;> (repeat' split) <;> simp

@[simp] theorem reportEvent_frame (x : Exchange) (slot : Bool) (code : Byte) (params : List Byte) (s : State) :
    (reportEvent x slot code params s).now = s.now ∧ (reportEvent x slot code params s).pending = s.pending ∧
    (reportEvent x slot code params s).freeIx = s.freeIx ∧ (reportEvent x slot code params s).sel = s.sel ∧
    (reportEvent x slot code params s).vnd = s.vnd ∧ (reportEvent x slot code params s).spd = s.spd ∧
    (reportEvent x slot code params s).csh = s.csh ∧ (reportEvent x slot code params s).chg = s.chg ∧
    (reportEvent x slot code params s).crd = s.crd ∧ (reportEvent x slot code params s).clg = s.clg ∧
    (reportEvent x slot code params s).lds = s.lds ∧ (reportEvent x slot code params s).cmn = s.cmn ∧
    (reportEvent x slot code params s).ulk = s.ulk ∧ (reportEvent x slot code params s).mgt = s.mgt := by
  and_intros <;> simp only [reportEvent] <;> (repeat' split) <;> simp

@[simp] theorem pollReplied_frame (x : Exchange) (slot : Bool) (kind : Byte) (payload : List Byte) (s : State) :
    (pollReplied x slot kind payload s).now = s.now ∧ (pollReplied x slot kind payload s).pending = s.pending ∧
    (pollReplied x slot kind payload s).cmn = s.cmn ∧ (pollReplied x slot kind payload s).ulk = s.ulk ∧
    (pollReplied x slot kind payload s).mgt = s.mgt := by
  and_intros <;> simp only [pollReplied] <;> (repeat' split) <;> simp

@[simp] theorem enableAcked_frame (f : OwnFrame) (s : State) :
    (enableAcked f s).now = s.now ∧ (enableAcked f s).pending = s.pending ∧ (enableAcked f s).freeIx = s.freeIx ∧
    (enableAcked f s).sel = s.sel ∧ (enableAcked f s).vnd = s.vnd ∧ (enableAcked f s).spd = s.spd ∧
    (enableAcked f s).csh = s.csh ∧ (enableAcked f s).chg = s.chg ∧ (enableAcked f s).crd = s.crd ∧
    (enableAcked f s).clg = s.clg ∧ (enableAcked f s).lds = s.lds ∧ (enableAcked f s).cmn = s.cmn ∧
    (enableAcked f s).ulk = s.ulk ∧ (enableAcked f s).mgt = s.mgt ∧ (enableAcked f s).rpq = s.rpq := by
  and_intros <;> simp only [enableAcked] <;> (repeat' split) <;> simp

@[simp] theorem removeTransit_frame (tag : Nat) (s : State) :
    (removeTransit tag s).now = s.now ∧ (removeTransit tag s).pending = s.pending ∧
    (removeTransit tag s).freeIx = s.freeIx ∧ (removeTransit tag s).sel = s.sel ∧
    (removeTransit tag s).vnd = s.vnd ∧ (removeTransit tag s).spd = s.spd ∧ (removeTransit tag s).csh = s.csh ∧
    (removeTransit tag s).chg = s.chg ∧ (removeTransit tag s).crd = s.crd ∧ (removeTransit tag s).clg = s.clg ∧
    (removeTransit tag s).lds = s.lds ∧ (removeTransit tag s).cmn = s.cmn ∧ (removeTransit tag s).ulk = s.ulk ∧
    (removeTransit tag s).mgt = s.mgt ∧ (removeTransit tag s).rpq = s.rpq := by
  and_intros <;> simp only [removeTransit]

@[simp] theorem repliedByKind_frame (x : Exchange) (src : Byte) (kind : Byte) (payload : List Byte) (s : State) :
    (repliedByKind x src kind payload s).now = s.now ∧ (repliedByKind x src kind payload s).pending = s.pending ∧
    (repliedByKind x src kind payload s).cmn = s.cmn ∧ (repliedByKind x src kind payload s).ulk = s.ulk ∧
    (repliedByKind x src kind payload s).mgt = s.mgt := by
  and_intros <;> simp only [repliedByKind] <;> (repeat' split) <;> simp

@[simp] theorem unrepliedByKind_frame (x : Exchange) (s : State) :
    (unrepliedByKind x s).now = s.now ∧ (unrepliedByKind x s).pending = s.pending ∧
    (unrepliedByKind x s).cmn = s.cmn ∧ (unrepliedByKind x s).ulk = s.ulk ∧ (unrepliedByKind x s).mgt = s.mgt := by
  and_intros <;> simp only [unrepliedByKind] <;> (repeat' split) <;> simp

@[simp] theorem clearExchange_frame (s : State) :
    (clearExchange s).now = s.now ∧ (clearExchange s).pending = s.pending ∧ (clearExchange s).freeIx = s.freeIx ∧
    (clearExchange s).sel = s.sel ∧ (clearExchange s).vnd = s.vnd ∧ (clearExchange s).spd = s.spd ∧
    (clearExchange s).csh = s.csh ∧ (clearExchange s).chg = s.chg ∧ (clearExchange s).crd = s.crd ∧
    (clearExchange s).clg = s.clg ∧ (clearExchange s).lds = s.lds ∧ (clearExchange s).cmn = s.cmn ∧
    (clearExchange s).ulk = s.ulk ∧ (clearExchange s).mgt = s.mgt ∧ (clearExchange s).rpq = s.rpq := by
  and_intros <;> simp only [clearExchange]

@[simp] theorem exchangeReplied_frame (x : Exchange) (src : Byte) (kind : Byte) (payload : List Byte) (s : State) :
    (exchangeReplied x src kind payload s).now = s.now ∧
    (exchangeReplied x src kind payload s).pending = s.pending ∧
    (exchangeReplied x src kind payload s).cmn = s.cmn ∧ (exchangeReplied x src kind payload s).ulk = s.ulk ∧
    (exchangeReplied x src kind payload s).mgt = s.mgt := by
  and_intros <;> simp only [exchangeReplied] <;> simp

@[simp] theorem exchangeMissed_frame (x : Exchange) (s : State) :
    (exchangeMissed x s).now = s.now ∧ (exchangeMissed x s).pending = s.pending ∧
    (exchangeMissed x s).cmn = s.cmn ∧ (exchangeMissed x s).ulk = s.ulk ∧ (exchangeMissed x s).mgt = s.mgt := by
  and_intros <;> simp only [exchangeMissed] <;> simp

@[simp] theorem downstreamFrame_frame (src : Byte) (kind : Byte) (payload : List Byte) (s : State) :
    (downstreamFrame src kind payload s).now = s.now ∧ (downstreamFrame src kind payload s).pending = s.pending ∧
    (downstreamFrame src kind payload s).cmn = s.cmn ∧ (downstreamFrame src kind payload s).ulk = s.ulk ∧
    (downstreamFrame src kind payload s).mgt = s.mgt := by
  and_intros <;> simp only [downstreamFrame] <;> (repeat' split) <;> simp

@[simp] theorem lateExpiry_frame (s : State) :
    (lateExpiry s).now = s.now ∧ (lateExpiry s).pending = s.pending ∧ (lateExpiry s).cmn = s.cmn ∧
    (lateExpiry s).ulk = s.ulk ∧ (lateExpiry s).mgt = s.mgt := by
  and_intros <;> simp only [lateExpiry] <;> (repeat' split) <;> simp

@[simp] theorem beginExchange_frame (k : ExchKind) (dest : Nat) (entry : Nat) (timeout : Nat) (kind : Byte) (payload : List Byte) (s : State) :
    (beginExchange k dest entry timeout kind payload s).now = s.now ∧
    (beginExchange k dest entry timeout kind payload s).pending = s.pending ∧
    (beginExchange k dest entry timeout kind payload s).freeIx = s.freeIx ∧
    (beginExchange k dest entry timeout kind payload s).sel = s.sel ∧
    (beginExchange k dest entry timeout kind payload s).vnd = s.vnd ∧
    (beginExchange k dest entry timeout kind payload s).spd = s.spd ∧
    (beginExchange k dest entry timeout kind payload s).csh = s.csh ∧
    (beginExchange k dest entry timeout kind payload s).chg = s.chg ∧
    (beginExchange k dest entry timeout kind payload s).crd = s.crd ∧
    (beginExchange k dest entry timeout kind payload s).clg = s.clg ∧
    (beginExchange k dest entry timeout kind payload s).lds = s.lds ∧
    (beginExchange k dest entry timeout kind payload s).cmn = s.cmn ∧
    (beginExchange k dest entry timeout kind payload s).ulk = s.ulk ∧
    (beginExchange k dest entry timeout kind payload s).mgt = s.mgt ∧
    (beginExchange k dest entry timeout kind payload s).rpq = s.rpq := by
  and_intros <;> simp only [beginExchange]

@[simp] theorem beginOwn_frame (f : OwnFrame) (rest : List OwnFrame) (s : State) :
    (beginOwn f rest s).now = s.now ∧ (beginOwn f rest s).pending = s.pending ∧ (beginOwn f rest s).cmn = s.cmn ∧
    (beginOwn f rest s).ulk = s.ulk ∧ (beginOwn f rest s).mgt = s.mgt := by
  and_intros <;> simp only [beginOwn] <;> (repeat' split) <;> simp

@[simp] theorem beginTransit_frame (t : TransitRec) (s : State) :
    (beginTransit t s).now = s.now ∧ (beginTransit t s).pending = s.pending ∧
    (beginTransit t s).freeIx = s.freeIx ∧ (beginTransit t s).sel = s.sel ∧ (beginTransit t s).vnd = s.vnd ∧
    (beginTransit t s).spd = s.spd ∧ (beginTransit t s).csh = s.csh ∧ (beginTransit t s).chg = s.chg ∧
    (beginTransit t s).crd = s.crd ∧ (beginTransit t s).clg = s.clg ∧ (beginTransit t s).lds = s.lds ∧
    (beginTransit t s).cmn = s.cmn ∧ (beginTransit t s).ulk = s.ulk ∧ (beginTransit t s).mgt = s.mgt := by
  and_intros <;> simp only [beginTransit] <;> (repeat' split) <;> simp

@[simp] theorem beginPoll_frame (i : Nat) (slot : Bool) (s : State) :
    (beginPoll i slot s).now = s.now ∧ (beginPoll i slot s).pending = s.pending ∧
    (beginPoll i slot s).freeIx = s.freeIx ∧ (beginPoll i slot s).sel = s.sel ∧ (beginPoll i slot s).vnd = s.vnd ∧
    (beginPoll i slot s).spd = s.spd ∧ (beginPoll i slot s).csh = s.csh ∧ (beginPoll i slot s).chg = s.chg ∧
    (beginPoll i slot s).crd = s.crd ∧ (beginPoll i slot s).clg = s.clg ∧ (beginPoll i slot s).lds = s.lds ∧
    (beginPoll i slot s).cmn = s.cmn ∧ (beginPoll i slot s).ulk = s.ulk ∧ (beginPoll i slot s).mgt = s.mgt := by
  and_intros <;> simp only [beginPoll] <;> (repeat' split) <;> simp

@[simp] theorem deferPoll_frame (i : Nat) (s : State) :
    (deferPoll i s).now = s.now ∧ (deferPoll i s).pending = s.pending ∧ (deferPoll i s).freeIx = s.freeIx ∧
    (deferPoll i s).sel = s.sel ∧ (deferPoll i s).vnd = s.vnd ∧ (deferPoll i s).spd = s.spd ∧
    (deferPoll i s).csh = s.csh ∧ (deferPoll i s).chg = s.chg ∧ (deferPoll i s).crd = s.crd ∧
    (deferPoll i s).clg = s.clg ∧ (deferPoll i s).lds = s.lds ∧ (deferPoll i s).cmn = s.cmn ∧
    (deferPoll i s).ulk = s.ulk ∧ (deferPoll i s).mgt = s.mgt ∧ (deferPoll i s).rpq = s.rpq := by
  and_intros <;> simp only [deferPoll]

@[simp] theorem choosePoll_frame (is : List Nat) (s : State) :
    (choosePoll is s).now = s.now ∧ (choosePoll is s).pending = s.pending ∧ (choosePoll is s).freeIx = s.freeIx ∧
    (choosePoll is s).sel = s.sel ∧ (choosePoll is s).vnd = s.vnd ∧ (choosePoll is s).spd = s.spd ∧
    (choosePoll is s).csh = s.csh ∧ (choosePoll is s).chg = s.chg ∧ (choosePoll is s).crd = s.crd ∧
    (choosePoll is s).clg = s.clg ∧ (choosePoll is s).lds = s.lds ∧ (choosePoll is s).cmn = s.cmn ∧
    (choosePoll is s).ulk = s.ulk ∧ (choosePoll is s).mgt = s.mgt := by
  induction is generalizing s with
  | nil => simp [choosePoll]
  | cons i is ih =>
    and_intros <;> simp only [choosePoll] <;> (repeat' split) <;> simp_all

@[simp] theorem nextExchange_frame (s : State) :
    (nextExchange s).now = s.now ∧ (nextExchange s).pending = s.pending ∧ (nextExchange s).cmn = s.cmn ∧
    (nextExchange s).ulk = s.ulk ∧ (nextExchange s).mgt = s.mgt := by
  and_intros <;> simp only [nextExchange] <;> (repeat' split) <;> simp

@[simp] theorem frameSent_frame (s : State) :
    (frameSent s).now = s.now ∧ (frameSent s).pending = s.pending ∧ (frameSent s).freeIx = s.freeIx ∧
    (frameSent s).sel = s.sel ∧ (frameSent s).vnd = s.vnd ∧ (frameSent s).spd = s.spd ∧ (frameSent s).csh = s.csh ∧
    (frameSent s).chg = s.chg ∧ (frameSent s).crd = s.crd ∧ (frameSent s).clg = s.clg ∧ (frameSent s).lds = s.lds ∧
    (frameSent s).cmn = s.cmn ∧ (frameSent s).ulk = s.ulk ∧ (frameSent s).mgt = s.mgt ∧
    (frameSent s).rpq = s.rpq := by
  and_intros <;> simp only [frameSent] <;> (repeat' split) <;> simp

@[simp] theorem storeSelectionWrite_frame (w : Write) (s : State) :
    (storeSelectionWrite w s).now = s.now ∧ (storeSelectionWrite w s).pending = s.pending ∧
    (storeSelectionWrite w s).freeIx = s.freeIx ∧ (storeSelectionWrite w s).vnd = s.vnd ∧
    (storeSelectionWrite w s).spd = s.spd ∧ (storeSelectionWrite w s).chg = s.chg ∧
    (storeSelectionWrite w s).crd = s.crd ∧ (storeSelectionWrite w s).lds = s.lds ∧
    (storeSelectionWrite w s).cmn = s.cmn ∧ (storeSelectionWrite w s).ulk = s.ulk ∧
    (storeSelectionWrite w s).mgt = s.mgt := by
  and_intros <;> simp only [storeSelectionWrite] <;> simp

@[simp] theorem storeTrayWrite_frame (w : Write) (s : State) :
    (storeTrayWrite w s).now = s.now ∧ (storeTrayWrite w s).pending = s.pending ∧
    (storeTrayWrite w s).freeIx = s.freeIx ∧ (storeTrayWrite w s).vnd = s.vnd ∧ (storeTrayWrite w s).chg = s.chg ∧
    (storeTrayWrite w s).crd = s.crd ∧ (storeTrayWrite w s).lds = s.lds ∧ (storeTrayWrite w s).cmn = s.cmn ∧
    (storeTrayWrite w s).ulk = s.ulk ∧ (storeTrayWrite w s).mgt = s.mgt := by
  and_intros <;> simp only [storeTrayWrite] <;> simp

@[simp] theorem storeCoinWrite_frame (w : Write) (s : State) :
    (storeCoinWrite w s).now = s.now ∧ (storeCoinWrite w s).pending = s.pending ∧
    (storeCoinWrite w s).freeIx = s.freeIx ∧ (storeCoinWrite w s).sel = s.sel ∧ (storeCoinWrite w s).vnd = s.vnd ∧
    (storeCoinWrite w s).spd = s.spd ∧ (storeCoinWrite w s).chg = s.chg ∧ (storeCoinWrite w s).crd = s.crd ∧
    (storeCoinWrite w s).clg = s.clg ∧ (storeCoinWrite w s).lds = s.lds ∧ (storeCoinWrite w s).cmn = s.cmn ∧
    (storeCoinWrite w s).ulk = s.ulk ∧ (storeCoinWrite w s).mgt = s.mgt := by
  and_intros <;> simp only [storeCoinWrite] <;> simp

@[simp] theorem storeBillWrite_frame (w : Write) (s : State) :
    (storeBillWrite w s).now = s.now ∧ (storeBillWrite w s).pending = s.pending ∧
    (storeBillWrite w s).freeIx = s.freeIx ∧ (storeBillWrite w s).sel = s.sel ∧ (storeBillWrite w s).vnd = s.vnd ∧
    (storeBillWrite w s).spd = s.spd ∧ (storeBillWrite w s).chg = s.chg ∧ (storeBillWrite w s).crd = s.crd ∧
    (storeBillWrite w s).clg = s.clg ∧ (storeBillWrite w s).lds = s.lds ∧ (storeBillWrite w s).cmn = s.cmn ∧
    (storeBillWrite w s).ulk = s.ulk ∧ (storeBillWrite w s).mgt = s.mgt := by
  and_intros <;> simp only [storeBillWrite] <;> simp

@[simp] theorem storeTubeWrite_frame (w : Write) (s : State) :
    (storeTubeWrite w s).now = s.now ∧ (storeTubeWrite w s).pending = s.pending ∧
    (storeTubeWrite w s).freeIx = s.freeIx ∧ (storeTubeWrite w s).sel = s.sel ∧ (storeTubeWrite w s).vnd = s.vnd ∧
    (storeTubeWrite w s).spd = s.spd ∧ (storeTubeWrite w s).crd = s.crd ∧ (storeTubeWrite w s).clg = s.clg ∧
    (storeTubeWrite w s).lds = s.lds ∧ (storeTubeWrite w s).cmn = s.cmn ∧ (storeTubeWrite w s).ulk = s.ulk ∧
    (storeTubeWrite w s).mgt = s.mgt := by
  and_intros <;> simp only [storeTubeWrite] <;> simp

@[simp] theorem endCoveredExchange_frame (old : Route) (s : State) :
    (endCoveredExchange old s).now = s.now ∧ (endCoveredExchange old s).pending = s.pending ∧
    (endCoveredExchange old s).cmn = s.cmn ∧ (endCoveredExchange old s).ulk = s.ulk ∧
    (endCoveredExchange old s).mgt = s.mgt := by
  and_intros <;> simp only [endCoveredExchange] <;> (repeat' split) <;> simp

@[simp] theorem rehomePoll_frame (i : Nat) (inUse : Bool) (s : State) :
    (rehomePoll i inUse s).now = s.now ∧ (rehomePoll i inUse s).pending = s.pending ∧
    (rehomePoll i inUse s).freeIx = s.freeIx ∧ (rehomePoll i inUse s).sel = s.sel ∧
    (rehomePoll i inUse s).vnd = s.vnd ∧ (rehomePoll i inUse s).spd = s.spd ∧ (rehomePoll i inUse s).csh = s.csh ∧
    (rehomePoll i inUse s).chg = s.chg ∧ (rehomePoll i inUse s).crd = s.crd ∧ (rehomePoll i inUse s).clg = s.clg ∧
    (rehomePoll i inUse s).lds = s.lds ∧ (rehomePoll i inUse s).cmn = s.cmn ∧ (rehomePoll i inUse s).ulk = s.ulk ∧
    (rehomePoll i inUse s).mgt = s.mgt ∧ (rehomePoll i inUse s).rpq = s.rpq := by
  and_intros <;> simp only [rehomePoll]

@[simp] theorem rehome_frame (i : Nat) (old : Route) (new : Route) (s : State) :
    (rehome i old new s).now = s.now ∧ (rehome i old new s).pending = s.pending ∧
    (rehome i old new s).cmn = s.cmn ∧ (rehome i old new s).ulk = s.ulk ∧ (rehome i old new s).mgt = s.mgt := by
  and_intros <;> simp only [rehome] <;> (repeat' split) <;> simp

@[simp] theorem storeRouteWrite_frame (w : Write) (s : State) :
    (storeRouteWrite w s).now = s.now ∧ (storeRouteWrite w s).pending = s.pending ∧
    (storeRouteWrite w s).cmn = s.cmn ∧ (storeRouteWrite w s).ulk = s.ulk ∧ (storeRouteWrite w s).mgt = s.mgt := by
  and_intros <;> simp only [storeRouteWrite] <;> (repeat' split) <;> simp

@[simp] theorem storeVendSettingsWrite_frame (w : Write) (s : State) :
    (storeVendSettingsWrite w s).now = s.now ∧ (storeVendSettingsWrite w s).pending = s.pending ∧
    (storeVendSettingsWrite w s).freeIx = s.freeIx ∧ (storeVendSettingsWrite w s).sel = s.sel ∧
    (storeVendSettingsWrite w s).vnd = s.vnd ∧ (storeVendSettingsWrite w s).spd = s.spd ∧
    (storeVendSettingsWrite w s).chg = s.chg ∧ (storeVendSettingsWrite w s).crd = s.crd ∧
    (storeVendSettingsWrite w s).clg = s.clg ∧ (storeVendSettingsWrite w s).lds = s.lds ∧
    (storeVendSettingsWrite w s).cmn = s.cmn ∧ (storeVendSettingsWrite w s).ulk = s.ulk ∧
    (storeVendSettingsWrite w s).mgt = s.mgt := by
  and_intros <;> simp only [storeVendSettingsWrite] <;> simp

@[simp] theorem disableCooling_frame (s : State) :
    (disableCooling s).now = s.now ∧ (disableCooling s).pending = s.pending ∧
    (disableCooling s).freeIx = s.freeIx ∧ (disableCooling s).sel = s.sel ∧ (disableCooling s).vnd = s.vnd ∧
    (disableCooling s).spd = s.spd ∧ (disableCooling s).csh = s.csh ∧ (disableCooling s).chg = s.chg ∧
    (disableCooling s).crd = s.crd ∧ (disableCooling s).cmn = s.cmn ∧ (disableCooling s).ulk = s.ulk ∧
    (disableCooling s).dlk = s.dlk ∧ (disableCooling s).mgt = s.mgt := by
  and_intros <;> simp only [disableCooling] <;> (repeat' split) <;> simp

@[simp] theorem storeCoolingWrite_frame (w : Write) (s : State) :
    (storeCoolingWrite w s).now = s.now ∧ (storeCoolingWrite w s).pending = s.pending ∧
    (storeCoolingWrite w s).sel = s.sel ∧ (storeCoolingWrite w s).crd = s.crd ∧
    (storeCoolingWrite w s).cmn = s.cmn ∧ (storeCoolingWrite w s).ulk = s.ulk ∧
    (storeCoolingWrite w s).mgt = s.mgt := by
  and_intros <;> simp only [storeCoolingWrite] <;> (repeat' split) <;> simp

@[simp] theorem storeCalibrationWrite_frame (w : Write) (s : State) :
    (storeCalibrationWrite w s).now = s.now ∧ (storeCalibrationWrite w s).pending = s.pending ∧
    (storeCalibrationWrite w s).freeIx = s.freeIx ∧ (storeCalibrationWrite w s).sel = s.sel ∧
    (storeCalibrationWrite w s).vnd = s.vnd ∧ (storeCalibrationWrite w s).spd = s.spd ∧
    (storeCalibrationWrite w s).csh = s.csh ∧ (storeCalibrationWrite w s).chg = s.chg ∧
    (storeCalibrationWrite w s).crd = s.crd ∧ (storeCalibrationWrite w s).lds = s.lds ∧
    (storeCalibrationWrite w s).cmn = s.cmn ∧ (storeCalibrationWrite w s).ulk = s.ulk ∧
    (storeCalibrationWrite w s).dlk = s.dlk ∧ (storeCalibrationWrite w s).mgt = s.mgt ∧
    (storeCalibrationWrite w s).rpq = s.rpq := by
  and_intros <;> simp only [storeCalibrationWrite]

@[simp] theorem storeDriveLinkWrite_frame (w : Write) (s : State) :
    (storeDriveLinkWrite w s).now = s.now ∧ (storeDriveLinkWrite w s).pending = s.pending ∧
    (storeDriveLinkWrite w s).freeIx = s.freeIx ∧ (storeDriveLinkWrite w s).sel = s.sel ∧
    (storeDriveLinkWrite w s).vnd = s.vnd ∧ (storeDriveLinkWrite w s).csh = s.csh ∧
    (storeDriveLinkWrite w s).chg = s.chg ∧ (storeDriveLinkWrite w s).crd = s.crd ∧
    (storeDriveLinkWrite w s).clg = s.clg ∧ (storeDriveLinkWrite w s).lds = s.lds ∧
    (storeDriveLinkWrite w s).cmn = s.cmn ∧ (storeDriveLinkWrite w s).ulk = s.ulk ∧
    (storeDriveLinkWrite w s).mgt = s.mgt ∧ (storeDriveLinkWrite w s).rpq = s.rpq := by
  and_intros <;> simp only [storeDriveLinkWrite]

@[simp] theorem startServicePayout_frame (r : PayoutRequest) (s : State) :
    (startServicePayout r s).now = s.now ∧ (startServicePayout r s).pending = s.pending ∧
    (startServicePayout r s).sel = s.sel ∧ (startServicePayout r s).crd = s.crd ∧
    (startServicePayout r s).cmn = s.cmn ∧ (startServicePayout r s).ulk = s.ulk ∧
    (startServicePayout r s).mgt = s.mgt := by
  and_intros <;> simp only [startServicePayout] <;> simp

@[simp] theorem setTubeCount_frame (t : Nat) (n : Nat) (s : State) :
    (setTubeCount t n s).now = s.now ∧ (setTubeCount t n s).pending = s.pending ∧
    (setTubeCount t n s).freeIx = s.freeIx ∧ (setTubeCount t n s).sel = s.sel ∧ (setTubeCount t n s).vnd = s.vnd ∧
    (setTubeCount t n s).spd = s.spd ∧ (setTubeCount t n s).crd = s.crd ∧ (setTubeCount t n s).clg = s.clg ∧
    (setTubeCount t n s).lds = s.lds ∧ (setTubeCount t n s).cmn = s.cmn ∧ (setTubeCount t n s).ulk = s.ulk ∧
    (setTubeCount t n s).mgt = s.mgt := by
  and_intros <;> simp only [setTubeCount] <;> simp

@[simp] theorem requestEconomy_frame (on : Bool) (s : State) :
    (requestEconomy on s).now = s.now ∧ (requestEconomy on s).pending = s.pending ∧
    (requestEconomy on s).freeIx = s.freeIx ∧ (requestEconomy on s).sel = s.sel ∧
    (requestEconomy on s).vnd = s.vnd ∧ (requestEconomy on s).spd = s.spd ∧ (requestEconomy on s).csh = s.csh ∧
    (requestEconomy on s).chg = s.chg ∧ (requestEconomy on s).crd = s.crd ∧ (requestEconomy on s).lds = s.lds ∧
    (requestEconomy on s).cmn = s.cmn ∧ (requestEconomy on s).ulk = s.ulk ∧ (requestEconomy on s).dlk = s.dlk ∧
    (requestEconomy on s).mgt = s.mgt := by
  and_intros <;> simp only [requestEconomy] <;> simp

@[simp] theorem clearHold_frame (s : State) :
    (clearHold s).now = s.now ∧ (clearHold s).pending = s.pending ∧ (clearHold s).freeIx = s.freeIx ∧
    (clearHold s).vnd = s.vnd ∧ (clearHold s).spd = s.spd ∧ (clearHold s).chg = s.chg ∧ (clearHold s).crd = s.crd ∧
    (clearHold s).lds = s.lds ∧ (clearHold s).cmn = s.cmn ∧ (clearHold s).ulk = s.ulk ∧
    (clearHold s).mgt = s.mgt := by
  and_intros <;> simp only [clearHold] <;> (repeat' split) <;> simp

@[simp] theorem startSweep_frame (w : Sweep) (s : State) :
    (startSweep w s).now = s.now ∧ (startSweep w s).pending = s.pending ∧ (startSweep w s).sel = s.sel ∧
    (startSweep w s).crd = s.crd ∧ (startSweep w s).cmn = s.cmn ∧ (startSweep w s).ulk = s.ulk ∧
    (startSweep w s).mgt = s.mgt := by
  and_intros <;> simp only [startSweep] <;> simp

@[simp] theorem queueTransit_frame (dest : Nat) (kind : Byte) (payload : List Byte) (s : State) :
    (queueTransit dest kind payload s).now = s.now ∧ (queueTransit dest kind payload s).pending = s.pending ∧
    (queueTransit dest kind payload s).freeIx = s.freeIx ∧ (queueTransit dest kind payload s).sel = s.sel ∧
    (queueTransit dest kind payload s).vnd = s.vnd ∧ (queueTransit dest kind payload s).spd = s.spd ∧
    (queueTransit dest kind payload s).csh = s.csh ∧ (queueTransit dest kind payload s).chg = s.chg ∧
    (queueTransit dest kind payload s).crd = s.crd ∧ (queueTransit dest kind payload s).clg = s.clg ∧
    (queueTransit dest kind payload s).lds = s.lds ∧ (queueTransit dest kind payload s).cmn = s.cmn ∧
    (queueTransit dest kind payload s).ulk = s.ulk ∧ (queueTransit dest kind payload s).mgt = s.mgt := by
  and_intros <;> simp only [queueTransit] <;> simp

/-- A payout ended without a report. -/
@[simp] theorem endPayoutQuietly_frame (s : State) :
    (endPayoutWith (fun _ a => a) s).now = s.now ∧ (endPayoutWith (fun _ a => a) s).pending = s.pending ∧
    (endPayoutWith (fun _ a => a) s).sel = s.sel ∧ (endPayoutWith (fun _ a => a) s).vnd = s.vnd ∧
    (endPayoutWith (fun _ a => a) s).spd = s.spd ∧ (endPayoutWith (fun _ a => a) s).crd = s.crd ∧
    (endPayoutWith (fun _ a => a) s).clg = s.clg ∧ (endPayoutWith (fun _ a => a) s).cmn = s.cmn ∧
    (endPayoutWith (fun _ a => a) s).ulk = s.ulk ∧ (endPayoutWith (fun _ a => a) s).mgt = s.mgt := by
  and_intros <;> simp only [endPayoutWith] <;> (repeat' split) <;> simp

@[simp] theorem resetLink_frame (s : State) :
    (resetLink s).now = s.now ∧ (resetLink s).pending = s.pending ∧ (resetLink s).freeIx = s.freeIx ∧
    (resetLink s).sel = s.sel ∧ (resetLink s).vnd = s.vnd ∧ (resetLink s).spd = s.spd ∧ (resetLink s).csh = s.csh ∧
    (resetLink s).chg = s.chg ∧ (resetLink s).crd = s.crd ∧ (resetLink s).clg = s.clg ∧ (resetLink s).lds = s.lds ∧
    (resetLink s).cmn = s.cmn ∧ (resetLink s).ulk = s.ulk ∧ (resetLink s).mgt = s.mgt ∧
    (resetLink s).rpq = s.rpq := by
  and_intros <;> simp only [resetLink] <;> simp

@[simp] theorem resetCard_frame (s : State) :
    (resetCard s).now = s.now ∧ (resetCard s).pending = s.pending ∧ (resetCard s).freeIx = s.freeIx ∧
    (resetCard s).sel = s.sel ∧ (resetCard s).vnd = s.vnd ∧ (resetCard s).spd = s.spd ∧ (resetCard s).csh = s.csh ∧
    (resetCard s).chg = s.chg ∧ (resetCard s).clg = s.clg ∧ (resetCard s).lds = s.lds ∧ (resetCard s).cmn = s.cmn ∧
    (resetCard s).ulk = s.ulk ∧ (resetCard s).dlk = s.dlk ∧ (resetCard s).mgt = s.mgt := by
  and_intros <;> simp only [resetCard] <;> simp

@[simp] theorem resetLoads_frame (s : State) :
    (resetLoads s).now = s.now ∧ (resetLoads s).pending = s.pending ∧ (resetLoads s).freeIx = s.freeIx ∧
    (resetLoads s).sel = s.sel ∧ (resetLoads s).vnd = s.vnd ∧ (resetLoads s).spd = s.spd ∧
    (resetLoads s).csh = s.csh ∧ (resetLoads s).chg = s.chg ∧ (resetLoads s).crd = s.crd ∧
    (resetLoads s).clg = s.clg ∧ (resetLoads s).cmn = s.cmn ∧ (resetLoads s).ulk = s.ulk ∧
    (resetLoads s).dlk = s.dlk ∧ (resetLoads s).mgt = s.mgt ∧ (resetLoads s).rpq = s.rpq := by
  and_intros <;> simp only [resetLoads]

@[simp] theorem resetSpirals_frame (s : State) :
    (resetSpirals s).now = s.now ∧ (resetSpirals s).pending = s.pending ∧ (resetSpirals s).freeIx = s.freeIx ∧
    (resetSpirals s).sel = s.sel ∧ (resetSpirals s).vnd = s.vnd ∧ (resetSpirals s).csh = s.csh ∧
    (resetSpirals s).chg = s.chg ∧ (resetSpirals s).crd = s.crd ∧ (resetSpirals s).clg = s.clg ∧
    (resetSpirals s).lds = s.lds ∧ (resetSpirals s).cmn = s.cmn ∧ (resetSpirals s).ulk = s.ulk ∧
    (resetSpirals s).dlk = s.dlk ∧ (resetSpirals s).mgt = s.mgt ∧ (resetSpirals s).rpq = s.rpq := by
  and_intros <;> simp only [resetSpirals] <;> simp

@[simp] theorem resetCash_frame (s : State) :
    (resetCash s).now = s.now ∧ (resetCash s).pending = s.pending ∧ (resetCash s).freeIx = s.freeIx ∧
    (resetCash s).sel = s.sel ∧ (resetCash s).vnd = s.vnd ∧ (resetCash s).spd = s.spd ∧ (resetCash s).chg = s.chg ∧
    (resetCash s).crd = s.crd ∧ (resetCash s).clg = s.clg ∧ (resetCash s).lds = s.lds ∧ (resetCash s).cmn = s.cmn ∧
    (resetCash s).ulk = s.ulk ∧ (resetCash s).dlk = s.dlk ∧ (resetCash s).mgt = s.mgt ∧
    (resetCash s).rpq = s.rpq := by
  and_intros <;> simp only [resetCash]

@[simp] theorem resetMode_frame (s : State) :
    (resetMode s).now = s.now ∧ (resetMode s).pending = s.pending ∧ (resetMode s).freeIx = s.freeIx ∧
    (resetMode s).sel = s.sel ∧ (resetMode s).vnd = s.vnd ∧ (resetMode s).spd = s.spd ∧ (resetMode s).csh = s.csh ∧
    (resetMode s).chg = s.chg ∧ (resetMode s).crd = s.crd ∧ (resetMode s).clg = s.clg ∧ (resetMode s).lds = s.lds ∧
    (resetMode s).cmn = s.cmn ∧ (resetMode s).ulk = s.ulk ∧ (resetMode s).dlk = s.dlk ∧
    (resetMode s).rpq = s.rpq := by
  and_intros <;> simp only [resetMode]

@[simp] theorem appendResult_frame (ev : Option EventReport) (s : State) :
    (appendResult ev s).now = s.now ∧ (appendResult ev s).pending = s.pending ∧
    (appendResult ev s).freeIx = s.freeIx ∧ (appendResult ev s).sel = s.sel ∧ (appendResult ev s).vnd = s.vnd ∧
    (appendResult ev s).spd = s.spd ∧ (appendResult ev s).csh = s.csh ∧ (appendResult ev s).chg = s.chg ∧
    (appendResult ev s).crd = s.crd ∧ (appendResult ev s).clg = s.clg ∧ (appendResult ev s).lds = s.lds ∧
    (appendResult ev s).cmn = s.cmn ∧ (appendResult ev s).ulk = s.ulk ∧ (appendResult ev s).dlk = s.dlk ∧
    (appendResult ev s).mgt = s.mgt := by
  and_intros <;> simp only [appendResult] <;> (repeat' split) <;> simp

@[simp] theorem appendResults_frame (vend : Option EventReport) (payout : Option EventReport) (s : State) :
    (appendResults vend payout s).now = s.now ∧ (appendResults vend payout s).pending = s.pending ∧
    (appendResults vend payout s).sel = s.sel ∧ (appendResults vend payout s).vnd = s.vnd ∧
    (appendResults vend payout s).spd = s.spd ∧ (appendResults vend payout s).csh = s.csh ∧
    (appendResults vend payout s).chg = s.chg ∧ (appendResults vend payout s).crd = s.crd ∧
    (appendResults vend payout s).clg = s.clg ∧ (appendResults vend payout s).lds = s.lds ∧
    (appendResults vend payout s).cmn = s.cmn ∧ (appendResults vend payout s).ulk = s.ulk ∧
    (appendResults vend payout s).dlk = s.dlk ∧ (appendResults vend payout s).mgt = s.mgt := by
  and_intros <;> simp only [appendResults] <;> (repeat' split) <;> simp

@[simp] theorem refileStart_frame (s : State) :
    (refileStart s).now = s.now ∧ (refileStart s).pending = s.pending ∧ (refileStart s).freeIx = s.freeIx ∧
    (refileStart s).sel = s.sel ∧ (refileStart s).vnd = s.vnd ∧ (refileStart s).spd = s.spd ∧
    (refileStart s).csh = s.csh ∧ (refileStart s).chg = s.chg ∧ (refileStart s).crd = s.crd ∧
    (refileStart s).clg = s.clg ∧ (refileStart s).cmn = s.cmn ∧ (refileStart s).ulk = s.ulk ∧
    (refileStart s).dlk = s.dlk ∧ (refileStart s).mgt = s.mgt ∧ (refileStart s).rpq = s.rpq := by
  and_intros <;> simp only [refileStart] <;> (repeat' split) <;> simp

@[simp] theorem managementReset_frame (s : State) :
    (managementReset s).now = s.now ∧ (managementReset s).pending = s.pending ∧ (managementReset s).cmn = s.cmn ∧
    (managementReset s).ulk = s.ulk := by
  and_intros <;> simp only [managementReset] <;> simp

end Sys2Proof.Machine
end

