-- ==== Sys2Proof/Laws/BlockFrames.lean ====
section
/-! SUPPORT. What the shared operations leave as it was within the blocks they write. -/

namespace Sys2Proof.Machine

@[simp] theorem clearDeferred_dlk (s : State) :
    (clearDeferred s).dlk.routes = s.dlk.routes ∧ (clearDeferred s).dlk.pointer = s.dlk.pointer ∧
    (clearDeferred s).dlk.own = s.dlk.own ∧ (clearDeferred s).dlk.transits = s.dlk.transits ∧
    (clearDeferred s).dlk.nextTag = s.dlk.nextTag ∧ (clearDeferred s).dlk.exchange = s.dlk.exchange ∧
    (clearDeferred s).dlk.sending = s.dlk.sending ∧ (clearDeferred s).dlk.seg = s.dlk.seg ∧
    (clearDeferred s).dlk.requestWaiting = s.dlk.requestWaiting ∧ (clearDeferred s).dlk.sgr = s.dlk.sgr ∧
    (clearDeferred s).dlk.dde = s.dlk.dde ∧ (clearDeferred s).dlk.rx = s.dlk.rx ∧
    (clearDeferred s).dlk.fastRate = s.dlk.fastRate ∧ (clearDeferred s).dlk.rxFast = s.dlk.rxFast ∧
    (clearDeferred s).dlk.guardGap = s.dlk.guardGap := by
  and_intros <;> simp only [clearDeferred]

@[simp] theorem slotFreed_dlk (s : State) :
    (slotFreed s).dlk.routes = s.dlk.routes ∧ (slotFreed s).dlk.pointer = s.dlk.pointer ∧
    (slotFreed s).dlk.own = s.dlk.own ∧ (slotFreed s).dlk.transits = s.dlk.transits ∧
    (slotFreed s).dlk.nextTag = s.dlk.nextTag ∧ (slotFreed s).dlk.exchange = s.dlk.exchange ∧
    (slotFreed s).dlk.sending = s.dlk.sending ∧ (slotFreed s).dlk.seg = s.dlk.seg ∧
    (slotFreed s).dlk.requestWaiting = s.dlk.requestWaiting ∧ (slotFreed s).dlk.sgr = s.dlk.sgr ∧
    (slotFreed s).dlk.dde = s.dlk.dde ∧ (slotFreed s).dlk.rx = s.dlk.rx ∧
    (slotFreed s).dlk.fastRate = s.dlk.fastRate ∧ (slotFreed s).dlk.rxFast = s.dlk.rxFast ∧
    (slotFreed s).dlk.guardGap = s.dlk.guardGap := by
  and_intros <;> simp only [slotFreed] <;> (repeat' split) <;> simp

@[simp] theorem releaseSlot_dlk (s : State) :
    (releaseSlot s).dlk.routes = s.dlk.routes ∧ (releaseSlot s).dlk.pointer = s.dlk.pointer ∧
    (releaseSlot s).dlk.own = s.dlk.own ∧ (releaseSlot s).dlk.transits = s.dlk.transits ∧
    (releaseSlot s).dlk.nextTag = s.dlk.nextTag ∧ (releaseSlot s).dlk.exchange = s.dlk.exchange ∧
    (releaseSlot s).dlk.sending = s.dlk.sending ∧ (releaseSlot s).dlk.seg = s.dlk.seg ∧
    (releaseSlot s).dlk.requestWaiting = s.dlk.requestWaiting ∧ (releaseSlot s).dlk.sgr = s.dlk.sgr ∧
    (releaseSlot s).dlk.dde = s.dlk.dde ∧ (releaseSlot s).dlk.rx = s.dlk.rx ∧
    (releaseSlot s).dlk.fastRate = s.dlk.fastRate ∧ (releaseSlot s).dlk.rxFast = s.dlk.rxFast ∧
    (releaseSlot s).dlk.guardGap = s.dlk.guardGap := by
  and_intros <;> simp only [releaseSlot] <;> (repeat' split) <;> simp

@[simp] theorem popReport_dlk (s : State) :
    (popReport s).dlk.routes = s.dlk.routes ∧ (popReport s).dlk.pointer = s.dlk.pointer ∧
    (popReport s).dlk.own = s.dlk.own ∧ (popReport s).dlk.transits = s.dlk.transits ∧
    (popReport s).dlk.nextTag = s.dlk.nextTag ∧ (popReport s).dlk.exchange = s.dlk.exchange ∧
    (popReport s).dlk.sending = s.dlk.sending ∧ (popReport s).dlk.seg = s.dlk.seg ∧
    (popReport s).dlk.requestWaiting = s.dlk.requestWaiting ∧ (popReport s).dlk.sgr = s.dlk.sgr ∧
    (popReport s).dlk.dde = s.dlk.dde ∧ (popReport s).dlk.rx = s.dlk.rx ∧
    (popReport s).dlk.fastRate = s.dlk.fastRate ∧ (popReport s).dlk.rxFast = s.dlk.rxFast ∧
    (popReport s).dlk.guardGap = s.dlk.guardGap := by
  and_intros <;> simp only [popReport] <;> simp

@[simp] theorem emptyReports_dlk (s : State) :
    (emptyReports s).dlk.routes = s.dlk.routes ∧ (emptyReports s).dlk.pointer = s.dlk.pointer ∧
    (emptyReports s).dlk.own = s.dlk.own ∧ (emptyReports s).dlk.transits = s.dlk.transits ∧
    (emptyReports s).dlk.nextTag = s.dlk.nextTag ∧ (emptyReports s).dlk.exchange = s.dlk.exchange ∧
    (emptyReports s).dlk.sending = s.dlk.sending ∧ (emptyReports s).dlk.seg = s.dlk.seg ∧
    (emptyReports s).dlk.requestWaiting = s.dlk.requestWaiting ∧ (emptyReports s).dlk.sgr = s.dlk.sgr ∧
    (emptyReports s).dlk.dde = s.dlk.dde ∧ (emptyReports s).dlk.rx = s.dlk.rx ∧
    (emptyReports s).dlk.fastRate = s.dlk.fastRate ∧ (emptyReports s).dlk.rxFast = s.dlk.rxFast ∧
    (emptyReports s).dlk.guardGap = s.dlk.guardGap := by
  and_intros <;> simp only [emptyReports] <;> simp

@[simp] theorem addCredit_csh (n : Nat) (s : State) :
    (addCredit n s).csh.coins = s.csh.coins ∧ (addCredit n s).csh.bills = s.csh.bills ∧
    (addCredit n s).csh.creditLimit = s.csh.creditLimit ∧ (addCredit n s).csh.hostMask = s.csh.hostMask ∧
    (addCredit n s).csh.strict = s.csh.strict ∧ (addCredit n s).csh.multiVend = s.csh.multiVend ∧
    (addCredit n s).csh.exactChange = s.csh.exactChange ∧ (addCredit n s).csh.coinSafe = s.csh.coinSafe ∧
    (addCredit n s).csh.billSafe = s.csh.billSafe ∧ (addCredit n s).csh.effMask = s.csh.effMask ∧
    (addCredit n s).csh.escrow = s.csh.escrow ∧ (addCredit n s).csh.escrowNumber = s.csh.escrowNumber ∧
    (addCredit n s).csh.anomalies = s.csh.anomalies ∧ (addCredit n s).csh.audit = s.csh.audit ∧
    (addCredit n s).csh.gateOpen = s.csh.gateOpen ∧ (addCredit n s).csh.gateSince = s.csh.gateSince ∧
    (addCredit n s).csh.diverterTube = s.csh.diverterTube ∧
    (addCredit n s).csh.leverPressed = s.csh.leverPressed := by
  and_intros <;> simp only [addCredit] <;> (repeat' split) <;> simp

@[simp] theorem takeCredit_csh (n : Nat) (s : State) :
    (takeCredit n s).csh.coins = s.csh.coins ∧ (takeCredit n s).csh.bills = s.csh.bills ∧
    (takeCredit n s).csh.creditLimit = s.csh.creditLimit ∧ (takeCredit n s).csh.hostMask = s.csh.hostMask ∧
    (takeCredit n s).csh.strict = s.csh.strict ∧ (takeCredit n s).csh.multiVend = s.csh.multiVend ∧
    (takeCredit n s).csh.exactChange = s.csh.exactChange ∧ (takeCredit n s).csh.coinSafe = s.csh.coinSafe ∧
    (takeCredit n s).csh.billSafe = s.csh.billSafe ∧ (takeCredit n s).csh.effMask = s.csh.effMask ∧
    (takeCredit n s).csh.escrow = s.csh.escrow ∧ (takeCredit n s).csh.escrowNumber = s.csh.escrowNumber ∧
    (takeCredit n s).csh.anomalies = s.csh.anomalies ∧ (takeCredit n s).csh.audit = s.csh.audit ∧
    (takeCredit n s).csh.gateOpen = s.csh.gateOpen ∧ (takeCredit n s).csh.gateSince = s.csh.gateSince ∧
    (takeCredit n s).csh.diverterTube = s.csh.diverterTube ∧
    (takeCredit n s).csh.leverPressed = s.csh.leverPressed := by
  and_intros <;> simp only [takeCredit] <;> (repeat' split) <;> simp

@[simp] theorem ecoRefresh_clg (s : State) :
    (ecoRefresh s).clg.sensors = s.clg.sensors ∧ (ecoRefresh s).clg.points = s.clg.points ∧
    (ecoRefresh s).clg.settings = s.clg.settings ∧ (ecoRefresh s).clg.temp = s.clg.temp ∧
    (ecoRefresh s).clg.filtered = s.clg.filtered ∧ (ecoRefresh s).clg.blind = s.clg.blind ∧
    (ecoRefresh s).clg.blindSince = s.clg.blindSince ∧ (ecoRefresh s).clg.demand = s.clg.demand ∧
    (ecoRefresh s).clg.comp = s.clg.comp ∧ (ecoRefresh s).clg.contactor = s.clg.contactor ∧
    (ecoRefresh s).clg.startedAt = s.clg.startedAt ∧ (ecoRefresh s).clg.lastStop = s.clg.lastStop ∧
    (ecoRefresh s).clg.runTicks = s.clg.runTicks ∧ (ecoRefresh s).clg.runEntered = s.clg.runEntered ∧
    (ecoRefresh s).clg.contRun = s.clg.contRun ∧ (ecoRefresh s).clg.stateSince = s.clg.stateSince ∧
    (ecoRefresh s).clg.termInForce = s.clg.termInForce ∧ (ecoRefresh s).clg.maxInForce = s.clg.maxInForce ∧
    (ecoRefresh s).clg.dripInForce = s.clg.dripInForce ∧ (ecoRefresh s).clg.hot = s.clg.hot ∧
    (ecoRefresh s).clg.tripCount = s.clg.tripCount ∧ (ecoRefresh s).clg.evapFan = s.clg.evapFan ∧
    (ecoRefresh s).clg.condFan = s.clg.condFan ∧ (ecoRefresh s).clg.grace = s.clg.grace ∧
    (ecoRefresh s).clg.warmTime = s.clg.warmTime ∧ (ecoRefresh s).clg.hold = s.clg.hold ∧
    (ecoRefresh s).clg.ecoRequested = s.clg.ecoRequested ∧ (ecoRefresh s).clg.nextSample = s.clg.nextSample := by
  and_intros <;> simp only [ecoRefresh] <;> (repeat' split) <;> simp

@[simp] theorem selRefresh_clg (s : State) :
    (selRefresh s).clg.sensors = s.clg.sensors ∧ (selRefresh s).clg.points = s.clg.points ∧
    (selRefresh s).clg.settings = s.clg.settings ∧ (selRefresh s).clg.temp = s.clg.temp ∧
    (selRefresh s).clg.filtered = s.clg.filtered ∧ (selRefresh s).clg.blind = s.clg.blind ∧
    (selRefresh s).clg.blindSince = s.clg.blindSince ∧ (selRefresh s).clg.demand = s.clg.demand ∧
    (selRefresh s).clg.comp = s.clg.comp ∧ (selRefresh s).clg.contactor = s.clg.contactor ∧
    (selRefresh s).clg.startedAt = s.clg.startedAt ∧ (selRefresh s).clg.lastStop = s.clg.lastStop ∧
    (selRefresh s).clg.runTicks = s.clg.runTicks ∧ (selRefresh s).clg.runEntered = s.clg.runEntered ∧
    (selRefresh s).clg.contRun = s.clg.contRun ∧ (selRefresh s).clg.stateSince = s.clg.stateSince ∧
    (selRefresh s).clg.termInForce = s.clg.termInForce ∧ (selRefresh s).clg.maxInForce = s.clg.maxInForce ∧
    (selRefresh s).clg.dripInForce = s.clg.dripInForce ∧ (selRefresh s).clg.hot = s.clg.hot ∧
    (selRefresh s).clg.tripCount = s.clg.tripCount ∧ (selRefresh s).clg.evapFan = s.clg.evapFan ∧
    (selRefresh s).clg.condFan = s.clg.condFan ∧ (selRefresh s).clg.grace = s.clg.grace ∧
    (selRefresh s).clg.warmTime = s.clg.warmTime ∧ (selRefresh s).clg.hold = s.clg.hold ∧
    (selRefresh s).clg.ecoRequested = s.clg.ecoRequested ∧ (selRefresh s).clg.nextSample = s.clg.nextSample := by
  and_intros <;> simp only [selRefresh] <;> simp

@[simp] theorem selRefresh_sel (s : State) :
    (selRefresh s).sel.table = s.sel.table := by
  simp only [selRefresh]; simp

@[simp] theorem storeSelection_sel (i : Nat) (e : Selection) (s : State) :
    (storeSelection i e s).sel.vendable = s.sel.vendable ∧ (storeSelection i e s).sel.pMin = s.sel.pMin ∧
    (storeSelection i e s).sel.chilledOnSale = s.sel.chilledOnSale := by
  and_intros <;> simp only [storeSelection] <;> simp

@[simp] theorem storeHealth_spd (tray : Nat) (col : Nat) (h : Health) (s : State) :
    (storeHealth tray col h s).spd.trays = s.spd.trays ∧
    (storeHealth tray col h s).spd.jamThreshold = s.spd.jamThreshold ∧
    (storeHealth tray col h s).spd.rowOn = s.spd.rowOn ∧ (storeHealth tray col h s).spd.colsOn = s.spd.colsOn ∧
    (storeHealth tray col h s).spd.camOpen = s.spd.camOpen ∧ (storeHealth tray col h s).spd.turn = s.spd.turn ∧
    (storeHealth tray col h s).spd.sweep = s.spd.sweep ∧ (storeHealth tray col h s).spd.lateDrop = s.spd.lateDrop ∧
    (storeHealth tray col h s).spd.lateCounts = s.spd.lateCounts ∧
    (storeHealth tray col h s).spd.dropActive = s.spd.dropActive ∧
    (storeHealth tray col h s).spd.dropInactiveSince = s.spd.dropInactiveSince := by
  and_intros <;> simp only [storeHealth] <;> (repeat' split) <;> simp

@[simp] theorem handFrame_dlk (role : Role) (k : OwnKind) (s : State) :
    (handFrame role k s).1.dlk.routes = s.dlk.routes ∧ (handFrame role k s).1.dlk.polls = s.dlk.polls ∧
    (handFrame role k s).1.dlk.pointer = s.dlk.pointer ∧ (handFrame role k s).1.dlk.transits = s.dlk.transits ∧
    (handFrame role k s).1.dlk.nextTag = s.dlk.nextTag ∧ (handFrame role k s).1.dlk.exchange = s.dlk.exchange ∧
    (handFrame role k s).1.dlk.sending = s.dlk.sending ∧ (handFrame role k s).1.dlk.seg = s.dlk.seg ∧
    (handFrame role k s).1.dlk.requestWaiting = s.dlk.requestWaiting ∧ (handFrame role k s).1.dlk.sgr = s.dlk.sgr ∧
    (handFrame role k s).1.dlk.dde = s.dlk.dde ∧ (handFrame role k s).1.dlk.rx = s.dlk.rx ∧
    (handFrame role k s).1.dlk.fastRate = s.dlk.fastRate ∧ (handFrame role k s).1.dlk.rxFast = s.dlk.rxFast ∧
    (handFrame role k s).1.dlk.guardGap = s.dlk.guardGap := by
  and_intros <;> simp only [handFrame] <;> (repeat' split) <;> simp

@[simp] theorem sendEnable_dlk (s : State) :
    (sendEnable s).dlk.routes = s.dlk.routes ∧ (sendEnable s).dlk.polls = s.dlk.polls ∧
    (sendEnable s).dlk.pointer = s.dlk.pointer ∧ (sendEnable s).dlk.transits = s.dlk.transits ∧
    (sendEnable s).dlk.nextTag = s.dlk.nextTag ∧ (sendEnable s).dlk.exchange = s.dlk.exchange ∧
    (sendEnable s).dlk.sending = s.dlk.sending ∧ (sendEnable s).dlk.seg = s.dlk.seg ∧
    (sendEnable s).dlk.requestWaiting = s.dlk.requestWaiting ∧ (sendEnable s).dlk.sgr = s.dlk.sgr ∧
    (sendEnable s).dlk.dde = s.dlk.dde ∧ (sendEnable s).dlk.rx = s.dlk.rx ∧
    (sendEnable s).dlk.fastRate = s.dlk.fastRate ∧ (sendEnable s).dlk.rxFast = s.dlk.rxFast ∧
    (sendEnable s).dlk.guardGap = s.dlk.guardGap := by
  and_intros <;> simp only [sendEnable] <;> (repeat' split) <;> simp

@[simp] theorem cshRefresh_dlk (s : State) :
    (cshRefresh s).dlk.routes = s.dlk.routes ∧ (cshRefresh s).dlk.polls = s.dlk.polls ∧
    (cshRefresh s).dlk.pointer = s.dlk.pointer ∧ (cshRefresh s).dlk.transits = s.dlk.transits ∧
    (cshRefresh s).dlk.nextTag = s.dlk.nextTag ∧ (cshRefresh s).dlk.exchange = s.dlk.exchange ∧
    (cshRefresh s).dlk.sending = s.dlk.sending ∧ (cshRefresh s).dlk.seg = s.dlk.seg ∧
    (cshRefresh s).dlk.requestWaiting = s.dlk.requestWaiting ∧ (cshRefresh s).dlk.sgr = s.dlk.sgr ∧
    (cshRefresh s).dlk.dde = s.dlk.dde ∧ (cshRefresh s).dlk.rx = s.dlk.rx ∧
    (cshRefresh s).dlk.fastRate = s.dlk.fastRate ∧ (cshRefresh s).dlk.rxFast = s.dlk.rxFast ∧
    (cshRefresh s).dlk.guardGap = s.dlk.guardGap := by
  and_intros <;> simp only [cshRefresh] <;> simp

@[simp] theorem settleCash_dlk (before : State) (s : State) :
    (settleCash before s).dlk.routes = s.dlk.routes ∧ (settleCash before s).dlk.polls = s.dlk.polls ∧
    (settleCash before s).dlk.pointer = s.dlk.pointer ∧ (settleCash before s).dlk.transits = s.dlk.transits ∧
    (settleCash before s).dlk.nextTag = s.dlk.nextTag ∧ (settleCash before s).dlk.exchange = s.dlk.exchange ∧
    (settleCash before s).dlk.sending = s.dlk.sending ∧ (settleCash before s).dlk.seg = s.dlk.seg ∧
    (settleCash before s).dlk.requestWaiting = s.dlk.requestWaiting ∧ (settleCash before s).dlk.sgr = s.dlk.sgr ∧
    (settleCash before s).dlk.dde = s.dlk.dde ∧ (settleCash before s).dlk.rx = s.dlk.rx ∧
    (settleCash before s).dlk.fastRate = s.dlk.fastRate ∧ (settleCash before s).dlk.rxFast = s.dlk.rxFast ∧
    (settleCash before s).dlk.guardGap = s.dlk.guardGap := by
  and_intros <;> simp only [settleCash] <;> (repeat' split) <;> simp

@[simp] theorem cshRefresh_csh (s : State) :
    (cshRefresh s).csh.coins = s.csh.coins ∧ (cshRefresh s).csh.bills = s.csh.bills ∧
    (cshRefresh s).csh.credit = s.csh.credit ∧ (cshRefresh s).csh.creditLimit = s.csh.creditLimit ∧
    (cshRefresh s).csh.hostMask = s.csh.hostMask ∧ (cshRefresh s).csh.strict = s.csh.strict ∧
    (cshRefresh s).csh.multiVend = s.csh.multiVend ∧ (cshRefresh s).csh.escrow = s.csh.escrow ∧
    (cshRefresh s).csh.escrowNumber = s.csh.escrowNumber ∧ (cshRefresh s).csh.anomalies = s.csh.anomalies ∧
    (cshRefresh s).csh.audit = s.csh.audit ∧ (cshRefresh s).csh.gateOpen = s.csh.gateOpen ∧
    (cshRefresh s).csh.gateSince = s.csh.gateSince ∧ (cshRefresh s).csh.diverterTube = s.csh.diverterTube ∧
    (cshRefresh s).csh.leverPressed = s.csh.leverPressed := by
  and_intros <;> simp only [cshRefresh] <;> simp

@[simp] theorem settleCash_csh (before : State) (s : State) :
    (settleCash before s).csh.coins = s.csh.coins ∧ (settleCash before s).csh.bills = s.csh.bills ∧
    (settleCash before s).csh.credit = s.csh.credit ∧ (settleCash before s).csh.creditLimit = s.csh.creditLimit ∧
    (settleCash before s).csh.hostMask = s.csh.hostMask ∧ (settleCash before s).csh.strict = s.csh.strict ∧
    (settleCash before s).csh.multiVend = s.csh.multiVend ∧ (settleCash before s).csh.escrow = s.csh.escrow ∧
    (settleCash before s).csh.escrowNumber = s.csh.escrowNumber ∧
    (settleCash before s).csh.anomalies = s.csh.anomalies ∧ (settleCash before s).csh.audit = s.csh.audit ∧
    (settleCash before s).csh.gateOpen = s.csh.gateOpen ∧ (settleCash before s).csh.gateSince = s.csh.gateSince ∧
    (settleCash before s).csh.diverterTube = s.csh.diverterTube ∧
    (settleCash before s).csh.leverPressed = s.csh.leverPressed := by
  and_intros <;> simp only [settleCash] <;> (repeat' split) <;> simp

@[simp] theorem storeTube_chg (i : Nat) (t : Tube) (s : State) :
    (storeTube i t s).chg.payout = s.chg.payout ∧ (storeTube i t s).chg.drive = s.chg.drive ∧
    (storeTube i t s).chg.sensorActive = s.chg.sensorActive ∧
    (storeTube i t s).chg.sensorInactiveSince = s.chg.sensorInactiveSince := by
  and_intros <;> simp only [storeTube] <;> simp

@[simp] theorem fileClaim_lds (k : ClaimKind) (units : Nat) (s : State) :
    (fileClaim k units s).lds.vendUnits = s.lds.vendUnits ∧
    (fileClaim k units s).lds.payoutUnits = s.lds.payoutUnits ∧
    (fileClaim k units s).lds.coilUnits = s.lds.coilUnits ∧
    (fileClaim k units s).lds.compUnits = s.lds.compUnits := by
  and_intros <;> simp only [fileClaim]

@[simp] theorem withdrawClaim_lds (k : ClaimKind) (s : State) :
    (withdrawClaim k s).lds.vendUnits = s.lds.vendUnits ∧ (withdrawClaim k s).lds.payoutUnits = s.lds.payoutUnits ∧
    (withdrawClaim k s).lds.coilUnits = s.lds.coilUnits ∧ (withdrawClaim k s).lds.compUnits = s.lds.compUnits := by
  and_intros <;> simp only [withdrawClaim]

@[simp] theorem driversOff_spd (s : State) :
    (driversOff s).spd.trays = s.spd.trays ∧ (driversOff s).spd.health = s.spd.health ∧
    (driversOff s).spd.jamThreshold = s.spd.jamThreshold ∧ (driversOff s).spd.camOpen = s.spd.camOpen ∧
    (driversOff s).spd.turn = s.spd.turn ∧ (driversOff s).spd.sweep = s.spd.sweep ∧
    (driversOff s).spd.lateDrop = s.spd.lateDrop ∧ (driversOff s).spd.lateCounts = s.spd.lateCounts ∧
    (driversOff s).spd.dropActive = s.spd.dropActive ∧
    (driversOff s).spd.dropInactiveSince = s.spd.dropInactiveSince := by
  and_intros <;> simp only [driversOff]

@[simp] theorem columnOff_spd (col : Nat) (s : State) :
    (columnOff col s).spd.trays = s.spd.trays ∧ (columnOff col s).spd.health = s.spd.health ∧
    (columnOff col s).spd.jamThreshold = s.spd.jamThreshold ∧ (columnOff col s).spd.camOpen = s.spd.camOpen ∧
    (columnOff col s).spd.turn = s.spd.turn ∧ (columnOff col s).spd.sweep = s.spd.sweep ∧
    (columnOff col s).spd.lateDrop = s.spd.lateDrop ∧ (columnOff col s).spd.lateCounts = s.spd.lateCounts ∧
    (columnOff col s).spd.dropActive = s.spd.dropActive ∧
    (columnOff col s).spd.dropInactiveSince = s.spd.dropInactiveSince := by
  and_intros <;> simp only [columnOff]

@[simp] theorem startTurn_spd (v : VendCtx) (s : State) :
    (startTurn v s).spd.trays = s.spd.trays ∧ (startTurn v s).spd.health = s.spd.health ∧
    (startTurn v s).spd.jamThreshold = s.spd.jamThreshold ∧ (startTurn v s).spd.camOpen = s.spd.camOpen ∧
    (startTurn v s).spd.sweep = s.spd.sweep ∧ (startTurn v s).spd.lateDrop = s.spd.lateDrop ∧
    (startTurn v s).spd.lateCounts = s.spd.lateCounts ∧ (startTurn v s).spd.dropActive = s.spd.dropActive ∧
    (startTurn v s).spd.dropInactiveSince = s.spd.dropInactiveSince := by
  and_intros <;> simp only [startTurn]

@[simp] theorem stopTurn_spd (s : State) :
    (stopTurn s).spd.trays = s.spd.trays ∧ (stopTurn s).spd.health = s.spd.health ∧
    (stopTurn s).spd.jamThreshold = s.spd.jamThreshold ∧ (stopTurn s).spd.camOpen = s.spd.camOpen ∧
    (stopTurn s).spd.sweep = s.spd.sweep ∧ (stopTurn s).spd.lateCounts = s.spd.lateCounts ∧
    (stopTurn s).spd.dropActive = s.spd.dropActive ∧
    (stopTurn s).spd.dropInactiveSince = s.spd.dropInactiveSince := by
  and_intros <;> simp only [stopTurn] <;> (repeat' split) <;> simp

@[simp] theorem sweepFinish_spd (stopped : Bool) (w : Sweep) (s : State) :
    (sweepFinish stopped w s).spd.trays = s.spd.trays ∧ (sweepFinish stopped w s).spd.health = s.spd.health ∧
    (sweepFinish stopped w s).spd.jamThreshold = s.spd.jamThreshold ∧
    (sweepFinish stopped w s).spd.rowOn = s.spd.rowOn ∧ (sweepFinish stopped w s).spd.colsOn = s.spd.colsOn ∧
    (sweepFinish stopped w s).spd.camOpen = s.spd.camOpen ∧ (sweepFinish stopped w s).spd.turn = s.spd.turn ∧
    (sweepFinish stopped w s).spd.lateDrop = s.spd.lateDrop ∧
    (sweepFinish stopped w s).spd.lateCounts = s.spd.lateCounts ∧
    (sweepFinish stopped w s).spd.dropActive = s.spd.dropActive ∧
    (sweepFinish stopped w s).spd.dropInactiveSince = s.spd.dropInactiveSince := by
  and_intros <;> simp only [sweepFinish] <;> simp

@[simp] theorem endCheck_spd (s : State) :
    (endCheck s).spd.trays = s.spd.trays ∧ (endCheck s).spd.health = s.spd.health ∧
    (endCheck s).spd.jamThreshold = s.spd.jamThreshold ∧ (endCheck s).spd.camOpen = s.spd.camOpen ∧
    (endCheck s).spd.turn = s.spd.turn ∧ (endCheck s).spd.lateDrop = s.spd.lateDrop ∧
    (endCheck s).spd.lateCounts = s.spd.lateCounts ∧ (endCheck s).spd.dropActive = s.spd.dropActive ∧
    (endCheck s).spd.dropInactiveSince = s.spd.dropInactiveSince := by
  and_intros <;> simp only [endCheck] <;> (repeat' split) <;> simp

@[simp] theorem pauseSweep_spd (s : State) :
    (pauseSweep s).spd.trays = s.spd.trays ∧ (pauseSweep s).spd.health = s.spd.health ∧
    (pauseSweep s).spd.jamThreshold = s.spd.jamThreshold ∧ (pauseSweep s).spd.camOpen = s.spd.camOpen ∧
    (pauseSweep s).spd.turn = s.spd.turn ∧ (pauseSweep s).spd.lateDrop = s.spd.lateDrop ∧
    (pauseSweep s).spd.lateCounts = s.spd.lateCounts ∧ (pauseSweep s).spd.dropActive = s.spd.dropActive ∧
    (pauseSweep s).spd.dropInactiveSince = s.spd.dropInactiveSince := by
  and_intros <;> simp only [pauseSweep] <;> (repeat' split) <;> simp

@[simp] theorem sweepLook_spd (n : Nat) (s : State) :
    (sweepLook n s).spd.trays = s.spd.trays ∧ (sweepLook n s).spd.health = s.spd.health ∧
    (sweepLook n s).spd.jamThreshold = s.spd.jamThreshold ∧ (sweepLook n s).spd.rowOn = s.spd.rowOn ∧
    (sweepLook n s).spd.colsOn = s.spd.colsOn ∧ (sweepLook n s).spd.camOpen = s.spd.camOpen ∧
    (sweepLook n s).spd.turn = s.spd.turn ∧ (sweepLook n s).spd.lateDrop = s.spd.lateDrop ∧
    (sweepLook n s).spd.lateCounts = s.spd.lateCounts ∧ (sweepLook n s).spd.dropActive = s.spd.dropActive ∧
    (sweepLook n s).spd.dropInactiveSince = s.spd.dropInactiveSince := by
  induction n generalizing s with
  | zero => simp [sweepLook]
  | succ n ih =>
    and_intros <;> simp only [sweepLook] <;> (repeat' split) <;> simp_all

@[simp] theorem sweepWalk_spd (s : State) :
    (sweepWalk s).spd.trays = s.spd.trays ∧ (sweepWalk s).spd.health = s.spd.health ∧
    (sweepWalk s).spd.jamThreshold = s.spd.jamThreshold ∧ (sweepWalk s).spd.rowOn = s.spd.rowOn ∧
    (sweepWalk s).spd.colsOn = s.spd.colsOn ∧ (sweepWalk s).spd.camOpen = s.spd.camOpen ∧
    (sweepWalk s).spd.turn = s.spd.turn ∧ (sweepWalk s).spd.lateDrop = s.spd.lateDrop ∧
    (sweepWalk s).spd.lateCounts = s.spd.lateCounts ∧ (sweepWalk s).spd.dropActive = s.spd.dropActive ∧
    (sweepWalk s).spd.dropInactiveSince = s.spd.dropInactiveSince := by
  and_intros <;> simp only [sweepWalk] <;> simp

@[simp] theorem resumeSweep_spd (s : State) :
    (resumeSweep s).spd.trays = s.spd.trays ∧ (resumeSweep s).spd.health = s.spd.health ∧
    (resumeSweep s).spd.jamThreshold = s.spd.jamThreshold ∧ (resumeSweep s).spd.rowOn = s.spd.rowOn ∧
    (resumeSweep s).spd.colsOn = s.spd.colsOn ∧ (resumeSweep s).spd.camOpen = s.spd.camOpen ∧
    (resumeSweep s).spd.turn = s.spd.turn ∧ (resumeSweep s).spd.lateDrop = s.spd.lateDrop ∧
    (resumeSweep s).spd.lateCounts = s.spd.lateCounts ∧ (resumeSweep s).spd.dropActive = s.spd.dropActive ∧
    (resumeSweep s).spd.dropInactiveSince = s.spd.dropInactiveSince := by
  and_intros <;> simp only [resumeSweep] <;> (repeat' split) <;> simp

@[simp] theorem stopSweep_spd (s : State) :
    (stopSweep s).spd.trays = s.spd.trays ∧ (stopSweep s).spd.health = s.spd.health ∧
    (stopSweep s).spd.jamThreshold = s.spd.jamThreshold ∧ (stopSweep s).spd.camOpen = s.spd.camOpen ∧
    (stopSweep s).spd.turn = s.spd.turn ∧ (stopSweep s).spd.lateDrop = s.spd.lateDrop ∧
    (stopSweep s).spd.lateCounts = s.spd.lateCounts ∧ (stopSweep s).spd.dropActive = s.spd.dropActive ∧
    (stopSweep s).spd.dropInactiveSince = s.spd.dropInactiveSince := by
  and_intros <;> simp only [stopSweep] <;> (repeat' split) <;> simp

@[simp] theorem energizeCheck_spd (s : State) :
    (energizeCheck s).spd.trays = s.spd.trays ∧ (energizeCheck s).spd.health = s.spd.health ∧
    (energizeCheck s).spd.jamThreshold = s.spd.jamThreshold ∧ (energizeCheck s).spd.camOpen = s.spd.camOpen ∧
    (energizeCheck s).spd.turn = s.spd.turn ∧ (energizeCheck s).spd.lateDrop = s.spd.lateDrop ∧
    (energizeCheck s).spd.lateCounts = s.spd.lateCounts ∧ (energizeCheck s).spd.dropActive = s.spd.dropActive ∧
    (energizeCheck s).spd.dropInactiveSince = s.spd.dropInactiveSince := by
  and_intros <;> simp only [energizeCheck] <;> (repeat' split) <;> simp

@[simp] theorem releaseCheck_spd (w : Sweep) (s : State) :
    (releaseCheck w s).spd.trays = s.spd.trays ∧ (releaseCheck w s).spd.health = s.spd.health ∧
    (releaseCheck w s).spd.jamThreshold = s.spd.jamThreshold ∧ (releaseCheck w s).spd.camOpen = s.spd.camOpen ∧
    (releaseCheck w s).spd.turn = s.spd.turn ∧ (releaseCheck w s).spd.lateDrop = s.spd.lateDrop ∧
    (releaseCheck w s).spd.lateCounts = s.spd.lateCounts ∧ (releaseCheck w s).spd.dropActive = s.spd.dropActive ∧
    (releaseCheck w s).spd.dropInactiveSince = s.spd.dropInactiveSince := by
  and_intros <;> simp only [releaseCheck] <;> simp

@[simp] theorem sweepLook_lds (n : Nat) (s : State) :
    (sweepLook n s).lds.vendUnits = s.lds.vendUnits ∧ (sweepLook n s).lds.payoutUnits = s.lds.payoutUnits ∧
    (sweepLook n s).lds.coilUnits = s.lds.coilUnits ∧ (sweepLook n s).lds.compUnits = s.lds.compUnits := by
  induction n generalizing s with
  | zero => simp [sweepLook]
  | succ n ih =>
    and_intros <;> simp only [sweepLook] <;> (repeat' split) <;> simp_all

@[simp] theorem sweepWalk_lds (s : State) :
    (sweepWalk s).lds.vendUnits = s.lds.vendUnits ∧ (sweepWalk s).lds.payoutUnits = s.lds.payoutUnits ∧
    (sweepWalk s).lds.coilUnits = s.lds.coilUnits ∧ (sweepWalk s).lds.compUnits = s.lds.compUnits := by
  and_intros <;> simp only [sweepWalk] <;> simp

@[simp] theorem resumeSweep_lds (s : State) :
    (resumeSweep s).lds.vendUnits = s.lds.vendUnits ∧ (resumeSweep s).lds.payoutUnits = s.lds.payoutUnits ∧
    (resumeSweep s).lds.coilUnits = s.lds.coilUnits ∧ (resumeSweep s).lds.compUnits = s.lds.compUnits := by
  and_intros <;> simp only [resumeSweep] <;> (repeat' split) <;> simp

@[simp] theorem endCheck_lds (s : State) :
    (endCheck s).lds.vendUnits = s.lds.vendUnits ∧ (endCheck s).lds.payoutUnits = s.lds.payoutUnits ∧
    (endCheck s).lds.compUnits = s.lds.compUnits := by
  and_intros <;> simp only [endCheck] <;> (repeat' split) <;> simp

@[simp] theorem pauseSweep_lds (s : State) :
    (pauseSweep s).lds.vendUnits = s.lds.vendUnits ∧ (pauseSweep s).lds.payoutUnits = s.lds.payoutUnits ∧
    (pauseSweep s).lds.compUnits = s.lds.compUnits := by
  and_intros <;> simp only [pauseSweep] <;> (repeat' split) <;> simp

@[simp] theorem stopSweep_lds (s : State) :
    (stopSweep s).lds.vendUnits = s.lds.vendUnits ∧ (stopSweep s).lds.payoutUnits = s.lds.payoutUnits ∧
    (stopSweep s).lds.compUnits = s.lds.compUnits := by
  and_intros <;> simp only [stopSweep] <;> (repeat' split) <;> simp

end Sys2Proof.Machine
end

