-- ==== Sys2Proof/Laws/Delivery.lean ====
section
/-! SUPPORT. What the delivery of a management frame or a transit does (R156, R179), and how frames compose. -/

namespace Sys2Proof.Machine

/-! ## Frames -/

theorem ChangesOnly.refl (bs : List Block) (s : State) : ChangesOnly bs s s := by
  constructor <;> exact Or.inl rfl

/-- One part over two changes. -/
theorem same_or_listed {α : Type} {a b c : α} {p : Prop} (h : b = a ∨ p) (k : c = b ∨ p) : c = a ∨ p :=
  k.elim (fun e => h.imp (e.trans ·) id) .inr

/-- Two changes, one after the other. -/
theorem ChangesOnly.trans {bs : List Block} {s t u : State} (h : ChangesOnly bs s t) (k : ChangesOnly bs t u) :
    ChangesOnly bs s u := by
  obtain ⟨h1, h2, h3, h4, h5, h6, h7, h8, h9, h10, h11, h12, h13, h14, h15, h16⟩ := h
  obtain ⟨k1, k2, k3, k4, k5, k6, k7, k8, k9, k10, k11, k12, k13, k14, k15, k16⟩ := k
  exact ⟨same_or_listed h1 k1, same_or_listed h2 k2, same_or_listed h3 k3, same_or_listed h4 k4, same_or_listed h5 k5,
    same_or_listed h6 k6, same_or_listed h7 k7, same_or_listed h8 k8, same_or_listed h9 k9, same_or_listed h10 k10,
    same_or_listed h11 k11, same_or_listed h12 k12, same_or_listed h13 k13, same_or_listed h14 k14,
    same_or_listed h15 k15, same_or_listed h16 k16⟩

/-- A frame with more parts allowed to change. -/
theorem ChangesOnly.mono {bs cs : List Block} {s t : State} (h : ChangesOnly bs s t) (hb : bs ⊆ cs) :
    ChangesOnly cs s t := by
  obtain ⟨h1, h2, h3, h4, h5, h6, h7, h8, h9, h10, h11, h12, h13, h14, h15, h16⟩ := h
  constructor <;> first
    | exact h1.imp id (@hb _) | exact h2.imp id (@hb _) | exact h3.imp id (@hb _) | exact h4.imp id (@hb _)
    | exact h5.imp id (@hb _) | exact h6.imp id (@hb _) | exact h7.imp id (@hb _) | exact h8.imp id (@hb _)
    | exact h9.imp id (@hb _) | exact h10.imp id (@hb _) | exact h11.imp id (@hb _) | exact h12.imp id (@hb _)
    | exact h13.imp id (@hb _) | exact h14.imp id (@hb _) | exact h15.imp id (@hb _) | exact h16.imp id (@hb _)

/-! ## Deliveries -/

/-- The state in which a delivered frame acts: U's receiver has been taken. -/
def State.taken (s : State) : State := { s with ulk := { s.ulk with rx := .readyAt s.now } }

@[simp] theorem taken_frame (s : State) :
    s.taken.now = s.now ∧ s.taken.pending = s.pending ∧ s.taken.freeIx = s.freeIx ∧ s.taken.sel = s.sel ∧
    s.taken.vnd = s.vnd ∧ s.taken.spd = s.spd ∧ s.taken.csh = s.csh ∧ s.taken.chg = s.chg ∧ s.taken.crd = s.crd ∧
    s.taken.clg = s.clg ∧ s.taken.lds = s.lds ∧ s.taken.cmn = s.cmn ∧ s.taken.dlk = s.dlk ∧ s.taken.mgt = s.mgt ∧
    s.taken.rpq = s.rpq ∧ s.taken.ulk = { s.ulk with rx := .readyAt s.now } := by
  and_intros <;> rfl

/-- A delivery that can be taken is the frame's own effect, with the answer beside it. -/
theorem deliver_eq (src k : Byte) (act : State → Answer × State) {s : State} (h : Deliverable s) :
    deliver src k act s = { (act s.taken).2 with ulk := { (act s.taken).2.ulk with
      answerState := .turnaround
      answer := some (answerFrame s src k (act s.taken).1)
      deliveredAt := s.now } } := by
  obtain ⟨h1, h2⟩ := h
  rw [deliver, if_neg (by simp [h1, h2])]
  rfl

/-- The answer of a delivery whose frame leaves ULK alone. -/
theorem deliver_answered (src k : Byte) (act : State → Answer × State) {s : State} (h : Deliverable s)
    (hu : (act s.taken).2.ulk = s.taken.ulk) : Answered src k (act s.taken).1 s (deliver src k act s) := by
  rw [deliver_eq _ _ _ h, Answered, hu]
  simp

/-- The blocks other than ULK after a delivery. -/
theorem deliver_blocks (src k : Byte) (act : State → Answer × State) {s : State} (h : Deliverable s) :
    (deliver src k act s).now = (act s.taken).2.now ∧ (deliver src k act s).pending = (act s.taken).2.pending ∧
    (deliver src k act s).freeIx = (act s.taken).2.freeIx ∧ (deliver src k act s).sel = (act s.taken).2.sel ∧
    (deliver src k act s).vnd = (act s.taken).2.vnd ∧ (deliver src k act s).spd = (act s.taken).2.spd ∧
    (deliver src k act s).csh = (act s.taken).2.csh ∧ (deliver src k act s).chg = (act s.taken).2.chg ∧
    (deliver src k act s).crd = (act s.taken).2.crd ∧ (deliver src k act s).clg = (act s.taken).2.clg ∧
    (deliver src k act s).lds = (act s.taken).2.lds ∧ (deliver src k act s).cmn = (act s.taken).2.cmn ∧
    (deliver src k act s).dlk = (act s.taken).2.dlk ∧ (deliver src k act s).mgt = (act s.taken).2.mgt ∧
    (deliver src k act s).rpq = (act s.taken).2.rpq := by
  rw [deliver_eq _ _ _ h]
  simp

/-- The frame of a delivery from the frame of what it does. -/
theorem deliver_only (src k : Byte) (act : State → Answer × State) {s : State} {bs : List Block} (h : Deliverable s)
    (hc : ChangesOnly bs s.taken (act s.taken).2) : ChangesOnly (.ulk :: bs) s (deliver src k act s) := by
  rw [deliver_eq _ _ _ h]
  obtain ⟨h1, h2, h3, h4, h5, h6, h7, h8, h9, h10, h11, h12, h13, h14, h15, h16⟩ := hc
  constructor <;> simp_all

/-- A frame that its owner refuses, leaving the state as it found it. -/
theorem deliver_refused (src k : Byte) (act : State → Answer × State) {s : State} {st : Status} (h : Deliverable s)
    (hr : act s.taken = (refuse st, s.taken)) : RefusedWith src k st s (deliver src k act s) := by
  have ha := deliver_answered src k act h (by rw [hr])
  have hc := deliver_only src k act (bs := []) h (by rw [hr]; exact .refl _ _)
  rw [hr] at ha
  exact ⟨ha, hc⟩

/-- A table write whose payload is read: what its owner does with it. -/
theorem ownedWrite_read {id : Nat} {p : List Byte} {w : Write} (h : readWrite id p = .ok w)
    (refusal : State → Write → Option Status) (store : Write → State → State) (s : State) :
    ownedWrite id refusal store p s =
      match refusal s w with
      | some st => (refuse st, s)
      | none => (entryAnswer (store w s) id w.index, store w s) := by
  cases hr : refusal s w <;> simp [ownedWrite, h, hr]

end Sys2Proof.Machine
end

