-- ==== Sys2Proof/Laws/State.lean ====
section
/-! SUPPORT. One lemma for each field that a named update of State changes; what it leaves is in the frames. -/

namespace Sys2Proof.Machine

/-! ## The clock -/

@[simp] theorem upTo_now (s : State) (d : Time) :
    (s.upTo d).now = max s.now d := rfl

/-! ## The report queue -/

@[simp] theorem reserve_queue (n : Nat) (s : State) :
    (reserve n s).rpq.queue = s.rpq.queue := rfl

@[simp] theorem reserve_reserved (n : Nat) (s : State) :
    (reserve n s).rpq.reserved = s.rpq.reserved + n := rfl

@[simp] theorem reserve_dirty (n : Nat) (s : State) :
    (reserve n s).rpq.dirty = s.rpq.dirty := rfl

@[simp] theorem reserve_partSent (n : Nat) (s : State) :
    (reserve n s).rpq.partSent = s.rpq.partSent := rfl

@[simp] theorem emptyReports_rpq (s : State) :
    (emptyReports s).rpq = Rpq.powerOn := rfl

@[simp] theorem clearDeferred_polls (s : State) :
    (clearDeferred s).dlk.polls = tmap (fun p => { p with deferred := false }) s.dlk.polls := rfl

@[simp] theorem clearDeferred_routes (s : State) :
    (clearDeferred s).dlk.routes = s.dlk.routes := rfl

@[simp] theorem clearDeferred_pointer (s : State) :
    (clearDeferred s).dlk.pointer = s.dlk.pointer := rfl

@[simp] theorem clearDeferred_own (s : State) :
    (clearDeferred s).dlk.own = s.dlk.own := rfl

@[simp] theorem clearDeferred_transits (s : State) :
    (clearDeferred s).dlk.transits = s.dlk.transits := rfl

@[simp] theorem clearDeferred_nextTag (s : State) :
    (clearDeferred s).dlk.nextTag = s.dlk.nextTag := rfl

@[simp] theorem clearDeferred_exchange (s : State) :
    (clearDeferred s).dlk.exchange = s.dlk.exchange := rfl

@[simp] theorem clearDeferred_sending (s : State) :
    (clearDeferred s).dlk.sending = s.dlk.sending := rfl

@[simp] theorem clearDeferred_seg (s : State) :
    (clearDeferred s).dlk.seg = s.dlk.seg := rfl

@[simp] theorem clearDeferred_requestWaiting (s : State) :
    (clearDeferred s).dlk.requestWaiting = s.dlk.requestWaiting := rfl

@[simp] theorem clearDeferred_sgr (s : State) :
    (clearDeferred s).dlk.sgr = s.dlk.sgr := rfl

@[simp] theorem clearDeferred_dde (s : State) :
    (clearDeferred s).dlk.dde = s.dlk.dde := rfl

@[simp] theorem clearDeferred_rx (s : State) :
    (clearDeferred s).dlk.rx = s.dlk.rx := rfl

@[simp] theorem clearDeferred_fastRate (s : State) :
    (clearDeferred s).dlk.fastRate = s.dlk.fastRate := rfl

@[simp] theorem clearDeferred_rxFast (s : State) :
    (clearDeferred s).dlk.rxFast = s.dlk.rxFast := rfl

@[simp] theorem clearDeferred_guardGap (s : State) :
    (clearDeferred s).dlk.guardGap = s.dlk.guardGap := rfl

/-! ## Claims and units -/

@[simp] theorem fileClaim_claims (k : ClaimKind) (n : Nat) (s : State) :
    (fileClaim k n s).lds.claims = s.lds.claims.filter (fun c => c.kind != k) ++ [⟨k, n, s.now, false⟩] := rfl

@[simp] theorem fileClaim_vendUnits (k : ClaimKind) (n : Nat) (s : State) :
    (fileClaim k n s).lds.vendUnits = s.lds.vendUnits := rfl

@[simp] theorem fileClaim_payoutUnits (k : ClaimKind) (n : Nat) (s : State) :
    (fileClaim k n s).lds.payoutUnits = s.lds.payoutUnits := rfl

@[simp] theorem fileClaim_coilUnits (k : ClaimKind) (n : Nat) (s : State) :
    (fileClaim k n s).lds.coilUnits = s.lds.coilUnits := rfl

@[simp] theorem fileClaim_compUnits (k : ClaimKind) (n : Nat) (s : State) :
    (fileClaim k n s).lds.compUnits = s.lds.compUnits := rfl

@[simp] theorem withdrawClaim_claims (k : ClaimKind) (s : State) :
    (withdrawClaim k s).lds.claims = s.lds.claims.filter fun c => c.kind != k := rfl

@[simp] theorem withdrawClaim_vendUnits (k : ClaimKind) (s : State) :
    (withdrawClaim k s).lds.vendUnits = s.lds.vendUnits := rfl

@[simp] theorem withdrawClaim_payoutUnits (k : ClaimKind) (s : State) :
    (withdrawClaim k s).lds.payoutUnits = s.lds.payoutUnits := rfl

@[simp] theorem withdrawClaim_coilUnits (k : ClaimKind) (s : State) :
    (withdrawClaim k s).lds.coilUnits = s.lds.coilUnits := rfl

@[simp] theorem withdrawClaim_compUnits (k : ClaimKind) (s : State) :
    (withdrawClaim k s).lds.compUnits = s.lds.compUnits := rfl

@[simp] theorem dropAllGrants_lds (s : State) :
    (dropAllGrants s).lds = Lds.powerOn := rfl

/-! ## The matrix -/

@[simp] theorem driversOff_rowOn (s : State) :
    (driversOff s).spd.rowOn = none := rfl

@[simp] theorem driversOff_colsOn (s : State) :
    (driversOff s).spd.colsOn = [] := rfl

@[simp] theorem driversOff_trays (s : State) :
    (driversOff s).spd.trays = s.spd.trays := rfl

@[simp] theorem driversOff_health (s : State) :
    (driversOff s).spd.health = s.spd.health := rfl

@[simp] theorem driversOff_jamThreshold (s : State) :
    (driversOff s).spd.jamThreshold = s.spd.jamThreshold := rfl

@[simp] theorem driversOff_camOpen (s : State) :
    (driversOff s).spd.camOpen = s.spd.camOpen := rfl

@[simp] theorem driversOff_turn (s : State) :
    (driversOff s).spd.turn = s.spd.turn := rfl

@[simp] theorem driversOff_sweep (s : State) :
    (driversOff s).spd.sweep = s.spd.sweep := rfl

@[simp] theorem driversOff_lateDrop (s : State) :
    (driversOff s).spd.lateDrop = s.spd.lateDrop := rfl

@[simp] theorem driversOff_lateCounts (s : State) :
    (driversOff s).spd.lateCounts = s.spd.lateCounts := rfl

@[simp] theorem driversOff_dropActive (s : State) :
    (driversOff s).spd.dropActive = s.spd.dropActive := rfl

@[simp] theorem driversOff_dropInactiveSince (s : State) :
    (driversOff s).spd.dropInactiveSince = s.spd.dropInactiveSince := rfl

@[simp] theorem startTurn_rowOn (v : VendCtx) (s : State) :
    (startTurn v s).spd.rowOn = some v.tray := rfl

@[simp] theorem startTurn_colsOn (v : VendCtx) (s : State) :
    (startTurn v s).spd.colsOn = v.col :: v.partner.toList := rfl

@[simp] theorem startTurn_trays (v : VendCtx) (s : State) :
    (startTurn v s).spd.trays = s.spd.trays := rfl

@[simp] theorem startTurn_health (v : VendCtx) (s : State) :
    (startTurn v s).spd.health = s.spd.health := rfl

@[simp] theorem startTurn_jamThreshold (v : VendCtx) (s : State) :
    (startTurn v s).spd.jamThreshold = s.spd.jamThreshold := rfl

@[simp] theorem startTurn_camOpen (v : VendCtx) (s : State) :
    (startTurn v s).spd.camOpen = s.spd.camOpen := rfl

@[simp] theorem startTurn_sweep (v : VendCtx) (s : State) :
    (startTurn v s).spd.sweep = s.spd.sweep := rfl

@[simp] theorem startTurn_lateDrop (v : VendCtx) (s : State) :
    (startTurn v s).spd.lateDrop = s.spd.lateDrop := rfl

@[simp] theorem startTurn_lateCounts (v : VendCtx) (s : State) :
    (startTurn v s).spd.lateCounts = s.spd.lateCounts := rfl

@[simp] theorem startTurn_dropActive (v : VendCtx) (s : State) :
    (startTurn v s).spd.dropActive = s.spd.dropActive := rfl

@[simp] theorem startTurn_dropInactiveSince (v : VendCtx) (s : State) :
    (startTurn v s).spd.dropInactiveSince = s.spd.dropInactiveSince := rfl

/-! ## The gate -/

@[simp] theorem openGate_gateOpen (b : Bool) (s : State) :
    (openGate b s).csh.gateOpen = true := rfl

@[simp] theorem openGate_gateSince (b : Bool) (s : State) :
    (openGate b s).csh.gateSince = s.now := rfl

@[simp] theorem openGate_diverterTube (b : Bool) (s : State) :
    (openGate b s).csh.diverterTube = b := rfl

@[simp] theorem openGate_credit (b : Bool) (s : State) :
    (openGate b s).csh.credit = s.csh.credit := rfl

@[simp] theorem openGate_audit (b : Bool) (s : State) :
    (openGate b s).csh.audit = s.csh.audit := rfl

@[simp] theorem closeGate_gateOpen (s : State) :
    (closeGate s).csh.gateOpen = false := rfl

/-! ## The payout drive -/

@[simp] theorem driveCoin_drive (t : Nat) (p : Payout) (s : State) :
    (driveCoin t p s).chg.drive = some t := rfl

@[simp] theorem driveCoin_payout (t : Nat) (p : Payout) (s : State) :
    (driveCoin t p s).chg.payout = some { p with tube := t, pulse := some s.now, window := some s.now, jammed := false } := rfl

@[simp] theorem driveCoin_tubes (t : Nat) (p : Payout) (s : State) :
    (driveCoin t p s).chg.tubes = s.chg.tubes := rfl

/-! ## The compressor -/

@[simp] theorem contactorOff_contactor (s : State) :
    (contactorOff s).clg.contactor = false := rfl

@[simp] theorem contactorOff_condFan (s : State) :
    (contactorOff s).clg.condFan = false := rfl

@[simp] theorem contactorOff_lastStop (s : State) :
    (contactorOff s).clg.lastStop = s.now := rfl

@[simp] theorem contactorOff_comp (s : State) :
    (contactorOff s).clg.comp = s.clg.comp := rfl

@[simp] theorem compStop_compUnits (s : State) :
    (compStop s).lds.compUnits = 0 := rfl

@[simp] theorem compStop_contactor (s : State) :
    (compStop s).clg.contactor = false := rfl

@[simp] theorem compStop_lastStop (s : State) :
    (compStop s).clg.lastStop = s.now := rfl

@[simp] theorem setFans_condFan (s : State) :
    (setFans s).clg.condFan = s.clg.contactor := rfl

@[simp] theorem setFans_evapFan (s : State) :
    (setFans s).clg.evapFan = (!s.cmn.doorOpen && s.clg.comp != .drip) := rfl

@[simp] theorem setFans_comp (s : State) :
    (setFans s).clg.comp = s.clg.comp := rfl

@[simp] theorem setFans_contactor (s : State) :
    (setFans s).clg.contactor = s.clg.contactor := rfl

/-! ## The links -/

@[simp] theorem setRx_upstream (r : Receiver) (s : State) :
    (setRx .upstream r s).ulk.rx = r := rfl

@[simp] theorem setRx_downstream (r : Receiver) (s : State) :
    (setRx .downstream r s).dlk.rx = r := rfl

@[simp] theorem setRx_upstream_dlk (r : Receiver) (s : State) :
    (setRx .upstream r s).dlk = s.dlk := rfl

@[simp] theorem setRx_downstream_ulk (r : Receiver) (s : State) :
    (setRx .downstream r s).ulk = s.ulk := rfl

@[simp] theorem setRoute_routes (i : Nat) (r : Route) (s : State) :
    (setRoute i r s).dlk.routes = tset s.dlk.routes i r := rfl

@[simp] theorem setRoute_polls (i : Nat) (r : Route) (s : State) :
    (setRoute i r s).dlk.polls = s.dlk.polls := rfl

@[simp] theorem setRoute_pointer (i : Nat) (r : Route) (s : State) :
    (setRoute i r s).dlk.pointer = s.dlk.pointer := rfl

@[simp] theorem setRoute_own (i : Nat) (r : Route) (s : State) :
    (setRoute i r s).dlk.own = s.dlk.own := rfl

@[simp] theorem setRoute_transits (i : Nat) (r : Route) (s : State) :
    (setRoute i r s).dlk.transits = s.dlk.transits := rfl

@[simp] theorem setRoute_nextTag (i : Nat) (r : Route) (s : State) :
    (setRoute i r s).dlk.nextTag = s.dlk.nextTag := rfl

@[simp] theorem setRoute_exchange (i : Nat) (r : Route) (s : State) :
    (setRoute i r s).dlk.exchange = s.dlk.exchange := rfl

@[simp] theorem setRoute_sending (i : Nat) (r : Route) (s : State) :
    (setRoute i r s).dlk.sending = s.dlk.sending := rfl

@[simp] theorem setRoute_seg (i : Nat) (r : Route) (s : State) :
    (setRoute i r s).dlk.seg = s.dlk.seg := rfl

@[simp] theorem setRoute_rx (i : Nat) (r : Route) (s : State) :
    (setRoute i r s).dlk.rx = s.dlk.rx := rfl

@[simp] theorem clearExchange_exchange (s : State) :
    (clearExchange s).dlk.exchange = none := rfl

@[simp] theorem clearExchange_routes (s : State) :
    (clearExchange s).dlk.routes = s.dlk.routes := rfl

@[simp] theorem clearExchange_polls (s : State) :
    (clearExchange s).dlk.polls = s.dlk.polls := rfl

@[simp] theorem clearExchange_pointer (s : State) :
    (clearExchange s).dlk.pointer = s.dlk.pointer := rfl

@[simp] theorem clearExchange_own (s : State) :
    (clearExchange s).dlk.own = s.dlk.own := rfl

@[simp] theorem clearExchange_transits (s : State) :
    (clearExchange s).dlk.transits = s.dlk.transits := rfl

@[simp] theorem clearExchange_nextTag (s : State) :
    (clearExchange s).dlk.nextTag = s.dlk.nextTag := rfl

@[simp] theorem clearExchange_sending (s : State) :
    (clearExchange s).dlk.sending = s.dlk.sending := rfl

@[simp] theorem clearExchange_seg (s : State) :
    (clearExchange s).dlk.seg = s.dlk.seg := rfl

@[simp] theorem clearExchange_rx (s : State) :
    (clearExchange s).dlk.rx = s.dlk.rx := rfl

@[simp] theorem removeTransit_transits (t : Nat) (s : State) :
    (removeTransit t s).dlk.transits = s.dlk.transits.filter fun q => q.tag != t := rfl

@[simp] theorem removeTransit_routes (t : Nat) (s : State) :
    (removeTransit t s).dlk.routes = s.dlk.routes := rfl

@[simp] theorem removeTransit_polls (t : Nat) (s : State) :
    (removeTransit t s).dlk.polls = s.dlk.polls := rfl

@[simp] theorem removeTransit_pointer (t : Nat) (s : State) :
    (removeTransit t s).dlk.pointer = s.dlk.pointer := rfl

@[simp] theorem removeTransit_own (t : Nat) (s : State) :
    (removeTransit t s).dlk.own = s.dlk.own := rfl

@[simp] theorem removeTransit_exchange (t : Nat) (s : State) :
    (removeTransit t s).dlk.exchange = s.dlk.exchange := rfl

@[simp] theorem removeTransit_nextTag (t : Nat) (s : State) :
    (removeTransit t s).dlk.nextTag = s.dlk.nextTag := rfl

@[simp] theorem removeTransit_sending (t : Nat) (s : State) :
    (removeTransit t s).dlk.sending = s.dlk.sending := rfl

@[simp] theorem removeTransit_seg (t : Nat) (s : State) :
    (removeTransit t s).dlk.seg = s.dlk.seg := rfl

@[simp] theorem removeTransit_rx (t : Nat) (s : State) :
    (removeTransit t s).dlk.rx = s.dlk.rx := rfl

/-! ## The mode -/

@[simp] theorem storeMode_mode (m : Mode) (s : State) :
    (storeMode m s).mgt.mode = m := rfl

@[simp] theorem storeMode_returnMode (m : Mode) (s : State) :
    (storeMode m s).mgt.returnMode = if m = .service then .online else s.mgt.returnMode := rfl

end Sys2Proof.Machine
end

