-- ==== Sys2Proof/Laws/Tables.lean ====
section
/-! SUPPORT. The tables: an entry read after a table is made, changed or written at one place. -/

namespace Sys2Proof.Machine

variable {α β : Type} {n : Nat}

/-! ## Reads -/

theorem tget_of_lt (v : Vector α n) (d : α) {i : Nat} (h : i < n) : tget v d i = v[i] := by
  simp [tget, List.getD, h]

theorem tget_of_le (v : Vector α n) (d : α) {i : Nat} (h : n ≤ i) : tget v d i = d := by
  simp [tget, List.getD, h]

theorem tget_replicate (x d : α) {i : Nat} (h : i < n) : tget (Vector.replicate n x) d i = x := by
  simp [tget, h]

theorem tget_replicate_same (x : α) (i : Nat) : tget (Vector.replicate n x) x i = x := by
  by_cases h : i < n
  · exact tget_replicate x x h
  · exact tget_of_le _ _ (by omega)

/-- R68, R58: an entry of a table made entry by entry. -/
theorem tget_tmk (f : Nat → α) (d : α) {i : Nat} (h : i < n) : tget (tmk n f) d i = f i := by
  simp [tget, tmk, h]

theorem tget_tmap (f : α → β) (v : Vector α n) (d : α) (i : Nat) : tget (tmap f v) (f d) i = f (tget v d i) := by
  by_cases h : i < n
  · simp [tget, tmap, h]
  · simp [tget, tmap, show n ≤ i by omega]

theorem tget_tmap_lt (f : α → β) (v : Vector α n) (d : α) (e : β) {i : Nat} (h : i < n) :
    tget (tmap f v) e i = f (tget v d i) := by
  simp [tget, tmap, h]

/-! ## Writes -/

theorem tget_tset_same (v : Vector α n) (d x : α) {i : Nat} (h : i < n) : tget (tset v i x) d i = x := by
  rw [tget_of_lt _ _ h]
  simp [tset]

theorem tget_tset_ne (v : Vector α n) (d x : α) {i j : Nat} (h : j ≠ i) : tget (tset v i x) d j = tget v d j := by
  by_cases hj : j < n
  · rw [tget_of_lt _ _ hj, tget_of_lt _ _ hj]
    simp [tset, Ne.symm h]
  · rw [tget_of_le _ _ (by omega), tget_of_le _ _ (by omega)]

theorem tset_beyond (v : Vector α n) (x : α) {i : Nat} (h : n ≤ i) : tset v i x = v := by
  ext j hj
  simp [tset, show i ≠ j by omega]

theorem tget_tset (v : Vector α n) (d x : α) (i j : Nat) :
    tget (tset v i x) d j = if j = i ∧ i < n then x else tget v d j := by
  by_cases h : j = i
  · subst h
    by_cases hj : j < n
    · simp [hj, tget_tset_same]
    · simp [hj, tset_beyond v x (Nat.le_of_not_lt hj)]
  · simp [h, tget_tset_ne v d x h]

/-- A table written with what it holds. -/
theorem tset_tget (v : Vector α n) (d : α) (i : Nat) : tset v i (tget v d i) = v := by
  by_cases h : i < n
  · ext j hj
    by_cases e : i = j
    · subst e; simp [tset, tget_of_lt v d h]
    · simp [tset, e]
  · exact tset_beyond _ _ (by omega)

/-- Two tables with the same entries are one. -/
theorem table_ext {v w : Vector α n} (d : α) (h : ∀ i < n, tget v d i = tget w d i) : v = w := by
  ext i hi
  simpa [tget_of_lt _ _ hi] using h i hi

end Sys2Proof.Machine
end

