-- ==== Sys2Proof/Laws/Reports.lean ====
section
/-! SUPPORT. Everything that each operation over the report queue, the credit and the claims can do, said once. -/

namespace Sys2Proof.Machine

/-! ## State reports (R195) -/

/-- R195: a report finds its entry queued, is appended, or sets its dirty flag. -/
theorem report_cases (k : StateKey) (s : State) :
    (.state k ∈ s.rpq.queue ∧ report k s = s) ∨
    (.state k ∉ s.rpq.queue ∧ s.rpq.queue.length + s.rpq.reserved < 32 ∧
      report k s = { s with rpq := { s.rpq with queue := s.rpq.queue ++ [.state k] } }) ∨
    (.state k ∉ s.rpq.queue ∧ 32 ≤ s.rpq.queue.length + s.rpq.reserved ∧
      report k s = { s with rpq := { s.rpq with dirty := insertKey k s.rpq.dirty } }) := by
  unfold report freeSlots
  split
  · exact .inl ⟨‹_›, rfl⟩
  · split
    · exact .inr (.inl ⟨‹_›, by omega, rfl⟩)
    · exact .inr (.inr ⟨‹_›, by omega, rfl⟩)

theorem mem_insertKey (k x : StateKey) (l : List StateKey) : x ∈ insertKey k l ↔ x = k ∨ x ∈ l := by
  induction l with
  | nil => simp [insertKey]
  | cons y l ih =>
    simp only [insertKey]
    split
    · subst_vars; simp
    · split
      · simp
      · simp [ih]; tauto

/-- A key that is reported stands in the queue or among the dirty keys. -/
theorem report_reported (k : StateKey) (s : State) : Reported k (report k s) := by
  obtain ⟨h, e⟩ | ⟨-, -, e⟩ | ⟨-, -, e⟩ := report_cases k s <;> rw [e, Reported]
  · exact .inl h
  · simp
  · simp [mem_insertKey]

/-- Another report keeps a key reported. -/
theorem Reported.report {k : StateKey} {s : State} (h : Reported k s) (j : StateKey) : Reported k (report j s) := by
  obtain ⟨-, e⟩ | ⟨-, -, e⟩ | ⟨-, -, e⟩ := report_cases j s <;> rw [e]
  · exact h
  · exact h.imp (by simp +contextual) id
  · exact h.imp id (by simp +contextual [mem_insertKey])

/-- No state report takes or frees a reserved slot, and none is removed from the queue. -/
theorem report_rpq (k : StateKey) (s : State) :
    (report k s).rpq.reserved = s.rpq.reserved ∧ (report k s).rpq.partSent = s.rpq.partSent ∧
      ∃ l, (report k s).rpq.queue = s.rpq.queue ++ l := by
  obtain ⟨-, e⟩ | ⟨-, -, e⟩ | ⟨-, -, e⟩ := report_cases k s <;> rw [e]
  · exact ⟨rfl, rfl, [], by simp⟩
  · exact ⟨rfl, rfl, [.state k], rfl⟩
  · exact ⟨rfl, rfl, [], by simp⟩

/-! ## Slots (R194, R196) -/

/-- R196: a slot that frees takes the lowest dirty key; with none dirty and one slot free, the deferred polls are eligible again. -/
theorem slotFreed_cases (s : State) :
    (32 ≤ s.rpq.queue.length + s.rpq.reserved ∧ slotFreed s = s) ∨
    (s.rpq.queue.length + s.rpq.reserved < 32 ∧ ∃ k ks, s.rpq.dirty = k :: ks ∧
      slotFreed s = { s with rpq := { s.rpq with queue := s.rpq.queue ++ [.state k], dirty := ks } }) ∨
    (s.rpq.queue.length + s.rpq.reserved = 31 ∧ s.rpq.dirty = [] ∧ slotFreed s = clearDeferred s) ∨
    (s.rpq.queue.length + s.rpq.reserved < 31 ∧ s.rpq.dirty = [] ∧ slotFreed s = s) := by
  unfold slotFreed freeSlots
  split
  · split
    · exact .inr (.inl ⟨by omega, _, _, ‹_›, rfl⟩)
    · split
      · exact .inr (.inr (.inl ⟨by omega, ‹_›, rfl⟩))
      · exact .inr (.inr (.inr ⟨by omega, ‹_›, rfl⟩))
  · exact .inl ⟨by omega, rfl⟩

/-- R194: an event report takes a reserved slot; with none reserved it takes a free one. -/
theorem consumeSlot_cases (ev : EventReport) (s : State) :
    (0 < s.rpq.reserved ∧ consumeSlot ev s =
      { s with rpq := { s.rpq with queue := s.rpq.queue ++ [.event ev], reserved := s.rpq.reserved - 1 } }) ∨
    (s.rpq.reserved = 0 ∧ s.rpq.queue.length < 32 ∧ consumeSlot ev s =
      { s with rpq := { s.rpq with queue := s.rpq.queue ++ [.event ev] } }) ∨
    (s.rpq.reserved = 0 ∧ 32 ≤ s.rpq.queue.length ∧ consumeSlot ev s = s) := by
  unfold consumeSlot appendEvent freeSlots
  split
  · exact .inl ⟨‹_›, rfl⟩
  · split
    · exact .inr (.inl ⟨by omega, by omega, rfl⟩)
    · exact .inr (.inr ⟨by omega, by omega, rfl⟩)

/-- R194: a released reservation frees its slot; with none there is nothing to release. -/
theorem releaseSlot_cases (s : State) :
    (0 < s.rpq.reserved ∧
      releaseSlot s = slotFreed { s with rpq := { s.rpq with reserved := s.rpq.reserved - 1 } }) ∨
    (s.rpq.reserved = 0 ∧ releaseSlot s = s) := by
  unfold releaseSlot
  split
  · exact .inl ⟨‹_›, rfl⟩
  · exact .inr ⟨by omega, rfl⟩

/-! ## The credit (R54) -/

/-- R54: an amount added to the credit, whose range ends at 65,535; beyond it the result is open (log entry 3). -/
theorem addCredit_cases (n : Nat) (s : State) :
    (n = 0 ∧ addCredit n s = s) ∨
    (s.csh.credit + n ≤ 65535 ∧
      addCredit n s = report .credit { s with csh := { s.csh with credit := s.csh.credit + n } }) ∨
    (65535 < s.csh.credit + n ∧ addCredit n s = report .credit
      { s with csh := { s.csh with credit := (Config.creditOverflow s.freeIx).toNat }, freeIx := s.freeIx + 1 }) := by
  unfold addCredit
  split
  · exact .inl ⟨‹_›, rfl⟩
  · split
    · exact .inr (.inl ⟨‹_›, rfl⟩)
    · exact .inr (.inr ⟨by omega, rfl⟩)

theorem takeCredit_credit (n : Nat) (s : State) : (takeCredit n s).csh.credit = s.csh.credit - n := by
  unfold takeCredit
  split
  · simp [*]
  · simp

/-! ## The Cash Unit's flags (R58, R68, R71) -/

/-- CSH evaluates its flags when an input of theirs has changed, and only then. -/
theorem settleCash_cases (before s : State) :
    (cashInputs before = cashInputs s ∧ settleCash before s = s) ∨
    (cashInputs before ≠ cashInputs s ∧ settleCash before s = cshRefresh s) := by
  unfold settleCash
  split
  · exact .inl ⟨‹_›, rfl⟩
  · exact .inr ⟨‹_›, rfl⟩

@[simp] theorem settleCash_self (s : State) : settleCash s s = s := by simp [settleCash]

/-! ## The claim list (R138) -/

@[simp] theorem evaluateClaims_nil {s : State} (h : s.lds.claims = []) : evaluateClaims s = s := by
  simp [evaluateClaims, h, evaluateUpTo]

/-- R141: in SAFE nothing is granted. -/
theorem nextGrant_safe {s : State} (h : s.mgt.mode = .safe) : nextGrant s = none := by simp [nextGrant, h]

theorem evaluateClaims_of_none {s : State} (h : nextGrant s = none) : evaluateClaims s = s := by
  unfold evaluateClaims
  cases s.lds.claims.length with
  | zero => rfl
  | succ n => simp [evaluateUpTo, h]

@[simp] theorem evaluateClaims_safe {s : State} (h : s.mgt.mode = .safe) : evaluateClaims s = s :=
  evaluateClaims_of_none (nextGrant_safe h)

/-- R138, R139: what is granted waits in the list and fits the free units. -/
theorem nextGrant_fits {s : State} {c : Claim} (h : nextGrant s = some c) :
    s.mgt.mode ≠ .safe ∧ c ∈ s.lds.claims ∧ c.units ≤ freeUnits s := by
  unfold nextGrant at h
  split at h
  · cases h
  refine ⟨‹_›, ?_⟩
  split at h
  · rename_i g hg
    split at h
    · cases h; exact ⟨List.mem_of_find?_eq_some hg, ‹_›⟩
    · cases h
  · obtain ⟨k, -, hk⟩ := List.exists_of_findSome?_eq_some h
    have := List.find?_some hk
    simp only [Bool.and_eq_true, decide_eq_true_eq] at this
    exact ⟨List.mem_of_find?_eq_some hk, this.2⟩

/-! ## Vendability (R3 to R5) -/

/-- A measured health that is stored already changes nothing (R28). -/
theorem storeHealth_same {s : State} {tray col : Nat} {h : Health} (e : healthAt s tray col = h) :
    storeHealth tray col h s = s := by simp [storeHealth, e]

end Sys2Proof.Machine
end

