-- ==== Sys2Proof/Laws/Sales.lean ====
section
/-! SUPPORT. Vendability: the test that SEL makes is R3's. -/

namespace Sys2Proof.Machine

theorem fit_iff (h : Health) : h.fit = true ↔ h = .unknown ∨ h = .ok := by cases h <;> simp [Health.fit]

theorem positionFit_iff (s : State) (e : Selection) :
    positionFit s e = true ↔ ∃ c q, positionOf s e = some (c, q) ∧
      ∀ k, k = c ∨ some k = q → healthAt s e.tray k = .unknown ∨ healthAt s e.tray k = .ok := by
  unfold positionFit
  rcases positionOf s e with _ | ⟨c, _ | q⟩ <;> simp [fit_iff]

/-- R3. -/
theorem isVendable_iff (s : State) (e : Selection) : isVendable s e = true ↔ OnSale s e := by
  have held : isHeld s e = false ↔ ¬(e.chilled = true ∧ e.perishable = true ∧ s.clg.hold = true) := by
    simp [isHeld, ← Bool.not_eq_true, and_assoc]
  simp only [OnSale, isVendable, ← held, ← positionFit_iff, Bool.and_eq_true, Bool.not_eq_true', beq_iff_eq, bne_iff_ne, and_assoc]

end Sys2Proof.Machine
end

