-- ==== Sys2Proof/WellFormed.lean ====
section
/-! DEFINITION. Which commands the hardware can meet: payloads that a frame can carry, and samples within their converters'
ranges. -/

namespace Sys2Proof

/-- R154: a frame's payload has at most 48 characters. -/
def payloadFits (p : List Byte) : Bool := decide (p.length ≤ 48)

/-- What follows a table id or a command code has at most 47 characters (R192). -/
def tailFits (p : List Byte) : Bool := decide (p.length ≤ 47)

/-- R30: a current sample is 0 to 5,000 mA. -/
def currentFits (n : Nat) : Bool := decide (n ≤ 5000)

/-- R143: a voltage sample is 0 to 400 tenths of a volt. -/
def voltsFit (n : Nat) : Bool := decide (n ≤ 400)

/-- The row TABLE_WRITE stands for the tables that have no write rule of their own: not 1 to 10. -/
def unownedTable (p : List Byte) : Bool :=
  match p with
  | id :: _ => decide (id.toNat = 0 ∨ 10 < id.toNat)
  | [] => true

/-- A command the hardware can meet. -/
def Instr.wellFormed : Instr → Bool
  | .powerOnReset l => voltsFit l.volts
  | .reset _ p | .ping _ p | .tableRead _ p | .reportPoll _ p => payloadFits p
  | .tableWrite _ p => payloadFits p && unownedTable p
  | .selectionWrite _ p | .trayWrite _ p | .coinTableWrite _ p | .billTableWrite _ p | .tubeTableWrite _ p
  | .routeTableWrite _ p | .vendSettingsWrite _ p | .coolingSettingsWrite _ p | .calibrationWrite _ p
  | .driveAndLinkSettingsWrite _ p => tailFits p
  | .goOnline _ p | .goOffline _ p | .vend _ p | .vendCancel _ p | .refund _ p | .payout _ p | .tubeCount _ p
  | .hostBillMask _ p | .economyOn _ p | .economyOff _ p | .holdRelease _ p | .sweep _ p | .sweepStop _ p
  | .auditClear _ p => tailFits p
  | .transit _ _ _ p | .reply _ _ p => payloadFits p
  | .supplyLow v | .supplyGood v | .supplySample v => voltsFit v
  | .openTest _ c | .motorShort _ c | .motorJam _ c | .coilCheckEnd c | .coilCheckShort c | .driveJam c => currentFits c
  | .endOfFrame _ | .responseTimeout | .lineBreak _ | .breakEnd _ | .answerStart | .answerSent | .exchangeStart
  | .downstreamFrameSent | .pollDue _ | .serviceRequestChange _ | .doorChange _ | .classReport _ | .clearReport
  | .gateTimeout | .leverPress | .escrowExpiry | .approvalDeadlineExpiry | .camChange .. | .stuckAtHome _ | .noHome _
  | .dropEvent | .dropWindowClose | .payoutPulseEnd | .payoutCoinSeen | .sensorWindowExpiry | .lowSensorChange ..
  | .fullSensorChange .. | .coolingSample .. | .startEnd | .guardExpiry | .minimumRunEnd | .forcedDefrost
  | .defrostMaximum | .dripEnd | .blindOnEnd | .blindOffEnd | .graceWindowEnd | .starvationGuard
  | .characterTaken .. | .leverRelease | .dropCurtainClear | .payoutSensorInactive => true

end Sys2Proof
end

