-- ==== Sys2Proof/Tests/Slice0.lean ====
section
/-! SUPPORT. Tests: ill-formed commands that WellFormed refuses, figures the manual works out, one step for some commands, and for each
statement with hypotheses a witness that meets them. -/

set_option Elab.async false

namespace Sys2Proof.Tests

open Sys2Proof.Machine

/-! ## WellFormed refuses -/

theorem test_payload_of_49_refused : (Instr.ping 1 (List.replicate 49 0)).wellFormed = false := by decide
theorem test_payload_of_48_taken : (Instr.ping 1 (List.replicate 48 0)).wellFormed = true := by decide
theorem test_parameters_of_48_refused : (Instr.vend 1 (List.replicate 48 0)).wellFormed = false := by decide
theorem test_table_1_has_its_own_row : (Instr.tableWrite 1 [1, 0]).wellFormed = false := by decide
theorem test_table_11_has_no_row : (Instr.tableWrite 1 [11, 0]).wellFormed = true := by decide
theorem test_current_of_5001_refused : (Instr.motorJam 0 5001).wellFormed = false := by decide
theorem test_voltage_of_401_refused : (Instr.supplySample 401).wellFormed = false := by decide
theorem test_transit_of_49_refused : (Instr.transit 1 0x20 5 (List.replicate 49 0)).wellFormed = false := by decide

/-! ## Figures of the manual -/

/-- R85, the tubes of the worked figures. -/
def figures : List PlanTube := [⟨0, 200, 3⟩, ⟨1, 100, 1⟩, ⟨2, 50, 4⟩, ⟨3, 20, 5⟩, ⟨4, 10, 0⟩]

theorem test_plan_of_360 : bestPlan figures 360 100 = [1, 1, 0, 3, 0] := by decide +kernel
theorem test_plan_of_375 : bestPlan figures 375 100 = [1, 1, 1, 1, 0] := by decide +kernel
theorem test_470_is_change_safe : canPay figures 470 100 = true := by decide +kernel
theorem test_plan_of_65535 : bestPlan figures 65535 100 = [3, 1, 4, 5, 0] := by decide +kernel
theorem test_tie_on_coin_count :
    bestPlan [⟨0, 50, 9⟩, ⟨1, 25, 9⟩, ⟨2, 20, 9⟩, ⟨3, 10, 9⟩, ⟨4, 5, 9⟩] 30 100 = [0, 1, 0, 0, 1] := by decide +kernel
theorem test_coin_cap : canPay [⟨0, 10, 150⟩] 1200 100 = false ∧ bestPlan [⟨0, 10, 150⟩] 1200 100 = [100] := by
  decide +kernel

/-- R113, the conversions of the default table. -/
theorem test_conversions : [430, 200, 72, 64, 960, 63, 961, 1023].map (convert Clg.powerOn.points) =
    [some 48, some (-196), some (-388), some (-400), some 800, none, none, none] := by decide +kernel

/-- R117, the filter's steps. -/
theorem test_filter_steps : (filterStep 30 48, filterStep 30 20, filterStep 30 27, filterStep 30 31, filterStep (-12) (-60)) =
    (32, 29, 29, 31, -18) := by decide

/-- R26, the mapping examples: tray 5 with 8 columns, mirrored. -/
def mirrored : State := { State.reset with spd := { Spd.powerOn with trays := tset Spd.powerOn.trays 5 ⟨true, 8, true⟩ } }

/-- A selection of tray 5. -/
def onTray5 (column : Nat) (twin : Bool) : Selection := { Selection.powerOn with tray := 5, column := column, twin := twin }

theorem test_mapping : [(2, false), (2, true), (6, true), (7, false), (7, true), (9, false)].map
      (fun p => positionOf mirrored (onTray5 p.1 p.2)) =
    [some (5, none), some (5, some 4), some (1, some 0), some (0, none), none, none] := by decide +kernel

/-- Section 8.6: an answer of 20 characters lasts 239 bit-times, 49,791 reference periods. -/
theorem test_answer_duration : frameTicks true 20 1 = 2 * 49791 := by decide

/-- Section 3.3: the coin of class 5 that its own routing makes safe, and the same coin routed to the cashbox. -/
def routed (route : Option Nat) : State :=
  { State.reset with
    csh := { Csh.powerOn with
      credit := 100, strict := true, coins := tset Csh.powerOn.coins 5 ⟨50, route, true⟩ }
    chg := { Chg.powerOn with tubes := #v[
      { Tube.powerOn with denom := 200, capacity := 60, count := 3 }, { Tube.powerOn with denom := 100, capacity := 60, count := 1 },
      { Tube.powerOn with denom := 50, capacity := 80, count := 2, reserve := 2 },
      { Tube.powerOn with denom := 20, capacity := 80, count := 10, reserve := 5 },
      { Tube.powerOn with denom := 10, capacity := 80 }, Tube.powerOn] } }

theorem test_own_routing_makes_safe : coinSafeNow (routed (some 2)) 5 = true := by decide +kernel
theorem test_cashbox_coin_is_not_safe : coinSafeNow (routed none) 5 = false := by decide +kernel

/-- R158: 22 bit-times are 1.146 ms at 19,200 bit/s and 2.292 ms at 9,600 bit/s, in whole patterns and one place. -/
theorem test_break_durations : bitTimes true 22 = 2 * (7 * 625 + 208) ∧ bitTimes false 22 = 2 * (7 * 1250 + 417) := by decide

/-- R150: 0x07 has three marks, so that its parity bit is a mark; sampled at space it is a parity error. -/
theorem test_parity_of_a_character : lineBits 0x07 = sampledBits 0x07 true ∧
    charOfSamples (sampledBits 0x07 true) true = ⟨0x07, false, false⟩ ∧
    charOfSamples (sampledBits 0x07 false) true = ⟨0x07, true, false⟩ ∧
    charOfSamples (sampledBits 0x07 true) false = ⟨0x07, false, true⟩ := by decide +kernel

/-! ## One step -/

/-- R180: the PING answer of the machine right after reset. -/
theorem test_ping : ∃ t, exec (.ping 0x01 []) State.reset = .next t ∧
    t.ulk.answer = some (frame 0x01 0x08 0x16 [0x00, 0x10, 0x40, 0x06, 0x01, 0x00, 0x00]) := by
  exact ⟨_, rfl, by decide +kernel⟩

/-- R181: the last selection is read, and the index after it is none. -/
theorem test_table_read_bounds :
    ((managementAnswer 0x11 [1, 79] State.reset).1.status, (managementAnswer 0x11 [1, 80] State.reset).1.status,
      (managementAnswer 0x11 [13, 0] State.reset).1.status, (managementAnswer 0x11 [14, 0] State.reset).1.status) =
    (.ok, .badIndex, .ok, .noTable) := by decide +kernel

/-- R6: a write of state and price. -/
theorem test_selection_write : ∃ t, exec (.selectionWrite 1 [79, 0x41, 0, 2, 0x0F, 0x27]) State.reset = .next t ∧
    selOf t 79 = { Selection.powerOn with state := .disabled, price := 9999 } := by
  exact ⟨_, rfl, by decide +kernel⟩

/-- R147: the door opens, is counted and reported. -/
theorem test_door : ∃ t, exec (.doorChange true) State.reset = .next t ∧ t.cmn.openings = 1 ∧
    t.rpq.queue = [.state .door] ∧ t.mgt.mode = .setup := by
  exact ⟨_, rfl, by decide +kernel⟩

/-- R120: in SETUP with no demand the guard time leads to IDLE. -/
theorem test_guard_ends : ∃ t, exec .guardExpiry State.reset = .next t ∧ t.clg.comp = .idle ∧ t.now = 180 * 8000000 := by
  exact ⟨_, rfl, by decide +kernel⟩

/-- R59: a coin in SETUP is returned. -/
theorem test_coin_returned : exec (.classReport (some 0)) State.reset = .next State.reset := by rfl

/-- R158: a break on U cannot come before 22 bit-times, 4,583 reference periods, of space. -/
theorem test_break_takes_22_bit_times : ∃ t, exec (.lineBreak .upstream) State.reset = .next t ∧ t.now = 2 * 4583 ∧
    t.ulk.rx.line = .brk := by
  exact ⟨_, rfl, by decide +kernel⟩

/-- R151, R158: a character of zeros with its stop bit at space is the first of a break, which then comes 22 bit-times after its
start edge. -/
theorem test_break_after_its_first_character :
    (∃ t, exec (.characterTaken .upstream 0 false false) State.reset = .next t ∧ t.now = 2 * 2083 + 208 ∧ t.ulk.rx.markAt = 0) ∧
    ∃ t, exec (.characterTaken .upstream 0 false true) State.reset = .next t ∧ t.ulk.rx.markAt = 2 * 2083 + 208 := by
  exact ⟨⟨_, rfl, by decide +kernel⟩, _, rfl, by decide +kernel⟩

/-- R153, R158: a READY receiver takes its first character 10.5 bit-times after it became READY at the earliest, and a break of
space that begins there 22. -/
theorem test_ready_character : ∃ s t u, exec (.endOfFrame .upstream) State.reset = .next s ∧ s.now = 5000 ∧
    exec (.characterTaken .upstream 0 false false) s = .next t ∧ t.now = 5000 + (2 * 2083 + 208) ∧ t.ulk.rx.markAt = 5000 ∧
    exec (.lineBreak .upstream) t = .next u ∧ u.now = 5000 + 2 * 4583 := by
  exact ⟨_, _, _, rfl, by decide +kernel, rfl, by decide +kernel, by decide +kernel, rfl, by decide +kernel⟩

/-- R66: a bill stacked at a credit of 65,535 adds nothing and is reported. -/
theorem test_bill_stacked_at_the_limit :
    let t := takeEvent 0x20 (.billStacked 7) { State.reset with csh := { Csh.powerOn with credit := 65535 } }
    t.csh.credit = 65535 ∧ t.rpq.queue = [.state .credit, .state (.billAnomaly 0x20)] ∧
      (anomalyOf t 0x20).uncredited = 1 := by decide +kernel

/-- R58, R69: a bill in escrow made into a record equal to the one that stood is a recomputation all the same: an ENABLE follows. -/
theorem test_equal_escrow_is_a_recomputation :
    let r : Route := { Route.powerOn with inUse := true, role := .bill, presence := .present }
    let s := { State.reset with
      csh := { Csh.powerOn with escrow := some ⟨0, false, 0, 0⟩ }
      dlk := { Dlk.powerOn with routes := tset Dlk.powerOn.routes 0 r } }
    (takeEvent 0x20 (.billEscrow 0) s).dlk.own =
      [⟨0x20, .escrowAction 0 false 1⟩, ⟨0x20, .enable (Vector.replicate 8 false)⟩] := by decide +kernel

/-- The queue: the front command runs and the rest stays. -/
theorem test_step_takes_the_front : ∃ t,
    step { State.reset with pending := [.leverPress, .leverRelease] } = .next t ∧ t.pending = [.leverRelease] ∧
      t.csh.leverPressed = true := by
  exact ⟨_, rfl, by decide +kernel⟩

/-! ## Witnesses: the machine in each mode, and the records the premises name -/

/-- The machine after reset in a mode. -/
def inMode (m : Mode) : State := { State.reset with mgt := ⟨m, .setup⟩ }

/-- One ACTIVE selection of price 50 on a present tray. -/
def onSale (s : State) : State :=
  { s with
    sel := { s.sel with table := tset s.sel.table 0 { Selection.powerOn with state := .active, price := 50, stock := some 1 } }
    spd := { s.spd with trays := tset s.spd.trays 0 ⟨true, 10, false⟩ } }

/-- A credit. -/
def withCredit (n : Nat) (s : State) : State := { s with csh := { s.csh with credit := n } }

/-- Reserved report slots. -/
def withSlots (n : Nat) (s : State) : State := { s with rpq := { s.rpq with reserved := n } }

/-- A vend of selection 0 at tray 0, column 0. -/
def vendOf (p : Payment) (st : Stage) : VendCtx :=
  { selection := 0, payment := p, price := 50, stage := st, dropSeen := false, slots := 1, outcome := none, tray := 0, col := 0,
    partner := none }

def withVend (v : VendCtx) (s : State) : State := { s with vnd := ⟨some v⟩ }

/-- A BILL and a CARD node, both PRESENT. -/
def withNodes (s : State) : State :=
  let bill : Route := { Route.powerOn with inUse := true, role := .bill, presence := .present }
  let card : Route := { Route.powerOn with inUse := true, base := 0x21, role := .card, presence := .present }
  { s with dlk := { s.dlk with routes := tset (tset s.dlk.routes 0 bill) 1 card } }

/-- A session in a state. -/
def withSession (st : SessionState) (s : State) : State := { s with crd := { s.crd with state := st } }

/-- A motor of column 0. -/
def motor (opened : Bool) : Motor := { col := 0, opened := opened, stop := .running, openTested := false }

/-- A turn of tray 0 on columns 0 and, for a twin, 1. -/
def turnOf (ms : List Motor) (done : Option (TurnResult × Time)) (drop : Bool) : Turn :=
  { selection := 0, tray := 0, start := 0, motors := ms, completed := done, dropSeen := drop }

def withTurn (t : Turn) (s : State) : State :=
  { s with spd := { s.spd with turn := some t, rowOn := some 0, colsOn := t.motors.map (·.col) } }

/-- A sweep of the whole window. -/
def sweepOfAll (c : CoilCheck) : Sweep :=
  { trayFirst := 0, trayLast := 7, colFirst := 0, colLast := 9, columnsFirst := false, revTrays := false, revCols := false,
    cursorTray := 7, cursorCol := 9, paused := false, check := c, okCount := 0, openCount := 0, shortCount := 0, lastChecked := none }

def withSweep (w : Sweep) (s : State) : State := { s with spd := { s.spd with sweep := some w } }

/-- Tubes of 100 and 50. -/
def withTubes (s : State) : State :=
  let hundreds : Tube := { Tube.powerOn with denom := 100, count := 3 }
  let fifties : Tube := { Tube.powerOn with denom := 50, count := 2 }
  { s with chg := { s.chg with tubes := tset (tset s.chg.tubes 0 hundreds) 1 fifties } }

/-- A payout of 150 whose first coin is under way at tube 0. -/
def payoutOf (f : PayoutForm) (pulse window : Option Time) : Payout :=
  { source := .refund, form := f, requested := 150, paying := true, plan := some (tset (Vector.replicate 6 0) 0 1), paid := 0,
    coins := [], replans := 0, tube := 0, pulse := pulse, window := window, jammed := false, cut := false }

def withPayout (p : Payout) (s : State) : State :=
  { s with chg := { s.chg with payout := some p, drive := p.pulse.map fun _ => p.tube }, lds := { s.lds with payoutUnits := 1 } }

/-- A poll in flight to node 0x20, awaited since time 0. -/
def awaiting (k : ExchKind) : Exchange := ⟨k, 0x20, 0, 50, false, some 0, false⟩

def withExchange (x : Exchange) (s : State) : State := { s with dlk := { s.dlk with exchange := some x } }

/-- The compressor in a state, the contactor as said. -/
def cooling (c : CompState) (on : Bool) (s : State) : State :=
  { s with clg := { s.clg with comp := c, contactor := on }, lds := { s.lds with compUnits := if on then 1 else 0 } }

/-! ## Witnesses: the step, frames and tables -/

theorem witness_StepRunsTheFrontCommand :
    ({ State.reset with pending := [.clearReport] } : State).pending = .clearReport :: [] := rfl

/-- VEND CANCEL with no vend, and a transit to a node no route covers. -/
theorem witness_RefusedFramesChangeNothing : (managementAnswer 0x13 [4] State.reset).1.status ≠ .ok ∧
    (transitCommand 0x20 5 [] State.reset).1.status ≠ .ok := by decide +kernel

theorem witness_PingAndReadsAnswerWhatStands : Deliverable State.reset ∧
    ((0 : Byte) = 0 ∨ 10 < (0 : Byte).toNat) ∧ ((11 : Byte) = 0 ∨ 10 < (11 : Byte).toNat) ∧
      ((14 : Byte) = 0 ∨ 10 < (14 : Byte).toNat) := by
  exact ⟨⟨rfl, rfl⟩, by decide⟩

/-- A KIND of no management frame, a command code and a form that name nothing, a mask that names three value characters, one that
names a field too many, and a value off its list. -/
theorem witness_PingAndReadsAnswerWhatStands_forms : (0x16 : Byte) ∉ ([0x10, 0x11, 0x12, 0x13, 0x14, 0x15] : List Byte) ∧
    14 < (15 : Byte).toNat ∧ 1 < (2 : Byte).toNat ∧ namedLength (tableForms 1) 0x41 = 3 ∧
    2 ^ (tableForms 1).length ≤ (0 : Byte).toNat + 256 * (8 : Byte).toNat ∧
    ([some 2, none, none] : List (Option Int)).length = (tableForms 2).length ∧
    (∀ p ∈ (tableForms 2).zip ([some 2, none, none] : List (Option Int)), ∀ v, p.2 = some v → p.1.carries v) ∧
    ∃ p ∈ (tableForms 2).zip ([some 2, none, none] : List (Option Int)), ∃ allowed v,
      p = (.code allowed, some v) ∧ v.toNat ∉ allowed := by
  refine ⟨by decide, by decide, by decide, by decide, by decide, by decide, ?_, _, .head _, [0, 1], 2, rfl, by decide⟩
  simp [tableForms, FieldForm.yesNo, FieldForm.carries]

/-- The queue empty, a short head, and a head of two parts. -/
def queued (q : List Report) : State := { State.reset with rpq := { Rpq.powerOn with queue := q } }

theorem witness_ReportPollAnswersTheHead :
    Deliverable (queued []) ∧ (queued []).rpq.queue.length + (queued []).rpq.reserved ≤ 32 ∧
    Deliverable (queued (List.replicate 32 (.state .credit))) ∧
      (queued (List.replicate 32 (.state .credit))).rpq.queue.length +
        (queued (List.replicate 32 (.state .credit))).rpq.reserved ≤ 32 ∧
    45 < (recordOf State.reset (.event (.transitReply 0 0x20 5 (List.replicate 48 0)))).length := by
  exact ⟨⟨rfl, rfl⟩, by decide, ⟨rfl, rfl⟩, by decide, by decide +kernel⟩

/-- No route covers 0x20 after reset; with the nodes one does, and the BILL entry is the first. -/
theorem witness_TransitsAreTaggedAndQueued :
    Deliverable State.reset ∧ coveringEntry State.reset 0x20 = none ∧
    (coveringEntry (withNodes State.reset) 0x20).isSome ∧ coveringEntry (withNodes State.reset) 0x22 = none ∧
    (entryOf .bill (withNodes State.reset)).map (·.1) = some 0 := by
  exact ⟨⟨rfl, rfl⟩, by decide +kernel⟩

theorem witness_TableWritePayloadsAreReadBack :
    ([some 255, none, some 0] : List (Option Int)).length = (tableForms 4).length + 1 ∧
    ([some 20000, some 1] : List (Option Int)).length = (tableForms 4).length ∧
    (FieldForm.holds .word 65535 ∧ FieldForm.holds .sword (-32768) ∧ FieldForm.holds .byte 255 ∧ FieldForm.holds (.code [0, 1]) 1) ∧
    (∃ g ∈ ([some 20000, some 1] : List (Option Int)), g.isSome) := by
  refine ⟨by decide, by decide, ?_, _, .head _, rfl⟩
  simp [FieldForm.holds]

theorem witness_SelectionWriteChecksThenStores : Deliverable State.reset ∧
    (∃ w, readWrite 1 [79, 1, 0, 2] = .ok w ∧ w.index = 79) ∧ (∃ w, readWrite 1 [80, 1, 0, 2] = .ok w ∧ w.index = 80) ∧
    (∃ w, readWrite 1 [0, 0x40, 0, 0x0F, 0x27] = .ok w ∧ w.nat 6 0 = 9999) ∧
    ∃ w, readWrite 1 [0, 0x40, 0, 0x10, 0x27] = .ok w ∧ w.nat 6 0 = 10000 :=
  ⟨⟨rfl, rfl⟩, ⟨_, rfl, rfl⟩, ⟨_, rfl, rfl⟩, ⟨_, rfl, by decide⟩, ⟨_, rfl, by decide⟩⟩

/-- A selection and a tray that are stored in SETUP. -/
theorem witness_StoredEntriesSetVendability : Deliverable State.reset ∧
    (∃ w t, readWrite 1 [0, 1, 0, 1] = .ok w ∧ selectionRefusal State.reset w = none ∧
      exec (.selectionWrite 1 [0, 1, 0, 1]) State.reset = .next t) ∧
    ∃ w t, readWrite 2 [0, 1, 0, 1] = .ok w ∧ trayRefusal State.reset w = none ∧
      exec (.trayWrite 1 [0, 1, 0, 1]) State.reset = .next t :=
  ⟨⟨rfl, rfl⟩, ⟨_, _, rfl, by decide +kernel, rfl⟩, ⟨_, _, rfl, by decide +kernel, rfl⟩⟩

/-- One selection on sale, with the flags as SEL keeps them. -/
def selling : State :=
  let s := onSale State.reset
  { s with
    pending := [.clearReport]
    sel := { s.sel with vendable := tset s.sel.vendable 0 true, pMin := some 50 } }

/-- A step from a state whose flags are current. -/
theorem witness_SalesCurrent : SalesCurrent selling ∧ tget selling.sel.vendable false 0 = true ∧ ∃ t, step selling = .next t := by
  have sale : ∀ i < 80, tget selling.sel.vendable false i = isVendable selling (selOf selling i) := by decide +kernel
  have price : (∃ i < 80, tget selling.sel.vendable false i = true ∧ (selOf selling i).price = 50) ∧
      ∀ i < 80, tget selling.sel.vendable false i = true → 50 ≤ (selOf selling i).price := by decide +kernel
  refine ⟨⟨fun i h => by rw [sale i h, isVendable_iff], ?_, ?_, ?_, ?_⟩, by decide +kernel, _, rfl⟩
  · rintro m ⟨⟩; exact price
  all_goals decide +kernel

theorem witness_TrayCoinAndBillWritesStore : Deliverable State.reset ∧
    (∃ w, readWrite 2 [7, 2, 0, 10] = .ok w ∧ w.index = 7 ∧ w.nat 1 0 = 10) ∧
    (∃ w, readWrite 3 [15, 1, 0, 0x0F, 0x27] = .ok w ∧ w.index = 15 ∧ w.nat 0 0 = 9999) ∧
    ∃ w, readWrite 4 [7, 1, 0, 0x20, 0x4E] = .ok w ∧ w.index = 7 ∧ w.nat 0 0 = 20000 :=
  ⟨⟨rfl, rfl⟩, ⟨_, rfl, rfl, by decide⟩, ⟨_, rfl, rfl, by decide⟩, ⟨_, rfl, rfl, by decide⟩⟩

theorem witness_TubeWriteChecksThenStores : Deliverable State.reset ∧
    ∃ w, readWrite 5 [5, 2, 0, 200] = .ok w ∧ w.index = 5 ∧ w.nat 1 0 = 200 :=
  ⟨⟨rfl, rfl⟩, _, rfl, rfl, by decide⟩

/-- A write of timings alone, and one that re-homes the entry. -/
theorem witness_RouteWriteChecksThenStores : Deliverable State.reset ∧
    (∃ w, readWrite 6 [7, 0x10, 0, 20, 0] = .ok w ∧ w.index = 7) ∧
    (∃ w, readWrite 6 [0, 7, 0, 1, 0x58, 8] = .ok w ∧ w.nat 1 0 = 0x58 ∧ w.nat 2 0 = 8) ∧
    (withExchange (awaiting (.poll false)) (withNodes State.reset)).dlk.exchange = some (awaiting (.poll false)) ∧
    (routeOf (withNodes State.reset) 0).covers 0x20 = true :=
  ⟨⟨rfl, rfl⟩, ⟨_, rfl, rfl⟩, ⟨_, rfl, by decide, by decide⟩, rfl, by decide +kernel⟩

/-- An own frame that waits for the node of an entry in use, whose owners have nothing to act on. -/
def ownWaits (s : State) : State := { s with dlk := { s.dlk with own := [⟨0x20, .sessionEnd⟩, ⟨0x21, .sessionEnd⟩] } }

theorem witness_OwnFramesDropped :
    let s := ownWaits (withNodes State.reset)
    (routeOf s 0).inUse = true ∧ (routeOf s 7).inUse = false ∧ s.crd.state = .none ∧ s.crd.owed = none ∧ s.csh.escrow = none ∧
      (s.dlk.own.filter fun f => f.node != (routeOf s 0).base) = [⟨0x21, .sessionEnd⟩] := by decide +kernel

theorem witness_SettingsWritesCheckThenStore : Deliverable State.reset ∧
    (∃ w, readWrite 7 [0, 1, 0, 0xD0, 0x07] = .ok w ∧ w.nat 0 0 = 2000) ∧
    (∃ w, readWrite 9 [8, 1, 0, 0xFF, 0x03] = .ok w ∧ w.index = 8 ∧ w.nat 0 0 = 1023) ∧
    ∃ w, readWrite 10 [0, 5, 0, 0xF4, 0x01, 4] = .ok w ∧ w.nat 0 0 = 500 ∧ w.nat 2 0 = 4 :=
  ⟨⟨rfl, rfl⟩, ⟨_, rfl, by decide⟩, ⟨_, rfl, rfl, by decide⟩, ⟨_, rfl, by decide, by decide⟩⟩

/-- Cooling disabled, and enabled again in the guard time. -/
theorem witness_CoolingSettingsWriteChecksThenStores : Deliverable State.reset ∧
    (∃ w, readWrite 8 [0, 0, 4, 0] = .ok w ∧ w.bool 10 true = false) ∧
    (∃ w, readWrite 8 [0, 0, 4, 1] = .ok w ∧ w.bool 10 false = true) ∧
    (cooling .disabled false State.reset).clg.comp = .disabled ∧ DisabledUnclaimed (cooling .disabled false State.reset) ∧
    (cooling .disabled false State.reset).now < (cooling .disabled false State.reset).clg.lastStop + seconds 180 :=
  ⟨⟨rfl, rfl⟩, ⟨_, rfl, by decide⟩, ⟨_, rfl, by decide⟩, rfl, nofun, by decide⟩

/-- Cooling disabled, its guard time past, in BLIND or with demand, and with or without a unit granted. -/
def pastGuard (blind demand : Bool) (units : Nat) : State :=
  { State.reset with
    now := seconds 180
    clg := { Clg.powerOn with comp := .disabled, blind := blind, demand := demand }
    lds := { Lds.powerOn with payoutUnits := units } }

theorem witness_CoolingEnabledPastTheGuardTime :
    ∀ blind ∈ [true, false], ∀ demand ∈ [true, false], ∀ units ∈ [0, 1],
      let s := pastGuard blind demand units
      s.clg.comp = .disabled ∧ s.clg.lastStop + seconds 180 ≤ s.now ∧ s.clg.hot = false ∧ s.clg.blind = blind ∧
        s.clg.demand = demand ∧ s.lds.claims = [] ∧ unitsGranted s = units ∧ s.mgt.mode ≠ .safe := by decide +kernel

/-! ## Witnesses: modes and small commands -/

theorem witness_GoOnlineAndGoOfflineSetTheMode : Deliverable State.reset ∧ State.reset.mgt.mode = .setup ∧
    Deliverable (inMode .online) ∧ (inMode .online).mgt.mode ≠ .setup ∧
    (∀ i < 80, (selOf State.reset i).state ≠ .active) ∧ (∀ i < 6, (tubeOf State.reset i).denom = 0) ∧
    (∀ i < 16, (coinOf State.reset i).enabled = false) ∧ (∀ i < 8, (billOf State.reset i).enabled = false) ∧
    (∀ i < 8, (routeOf State.reset i).inUse = false) := by
  exact ⟨⟨rfl, rfl⟩, rfl, ⟨rfl, rfl⟩, by decide, by decide +kernel, by decide +kernel, by decide +kernel, by decide +kernel,
    by decide +kernel⟩

/-- Section 10.2, taking a cabinet online: ACTIVE selections 5 and 6 on tray 3, tubes 1 and 2 of 100 and 50, coin class 2 of 50 and
bill class 3 of 2,000 enabled, a limit of 1,000. -/
def cabinet (present active6 : Bool) (route : Nat) : State :=
  let on (column : Nat) (twin : Bool) (st : SelState) : Selection :=
    { Selection.powerOn with state := st, tray := 3, column := column, twin := twin }
  let table := tset (tset Sel.powerOn.table 5 (on 9 false .active)) 6 (on 8 true (if active6 then .active else .disabled))
  let coins := tset Csh.powerOn.coins 2 ⟨50, some route, true⟩
  let bills := tset Csh.powerOn.bills 3 ⟨2000, true⟩
  let tubes := tset (tset Chg.powerOn.tubes 1 { Tube.powerOn with denom := 100 }) 2 { Tube.powerOn with denom := 50 }
  { State.reset with
    sel := { Sel.powerOn with table := table }
    spd := { Spd.powerOn with trays := tset Spd.powerOn.trays 3 ⟨present, 10, false⟩ }
    csh := { Csh.powerOn with creditLimit := 1000, coins := coins, bills := bills }
    chg := { Chg.powerOn with tubes := tubes } }

/-- Each of the six checks fails somewhere first, with those before it passed. -/
theorem witness_GoOnline_inconsistent :
    (let s := cabinet false true 1
     (selOf s 5).state = .active ∧ (trayOf s (selOf s 5).tray).present = false ∧ ∀ j < 5, (selOf s j).state ≠ .active) ∧
    (let s := cabinet true true 1
     (∀ i < 80, (selOf s i).state = .active → (trayOf s (selOf s i).tray).present = true ∧ (positionOf s (selOf s i)).isSome) ∧
      (3, 9) ∈ positionsOf s 6 ∧ (3, 9) ∈ positionsOf s 5 ∧ (∀ j < 6, (selOf s j).state = .active → j = 5)) ∧
    (let s := cabinet true false 1
     (∀ i < 80, (selOf s i).state = .active → i = 5) ∧ (∀ i < 6, (tubeOf s i).denom ≠ 0 → i = 1 ∨ i = 2) ∧
      (coinOf s 2).route = some 1 ∧ (coinOf s 2).value ≠ (tubeOf s 1).denom ∧
      (let u := { s with chg := { s.chg with tubes := tset s.chg.tubes 3 { Tube.powerOn with denom := 100 } } }
       (tubeOf u 3).denom ≠ 0 ∧ (tubeOf u 1).denom = (tubeOf u 3).denom)) ∧
    (let s := cabinet true false 2
     (coinOf s 2).value = (tubeOf s 2).denom ∧ (∀ i < 16, (coinOf s i).enabled = true → i = 2) ∧
      (∀ i < 8, (routeOf s i).inUse = false) ∧ (billOf s 3).enabled = true ∧ s.csh.creditLimit < (billOf s 3).value ∧
      (let u := { s with dlk := { s.dlk with routes := tmap (fun r => { r with inUse := true, role := .bill }) s.dlk.routes } }
       (routeOf u 1).role ≠ .passive ∧ (routeOf u 0).role = (routeOf u 1).role)) := by decide +kernel

/-- Section 10.2: the answers of that sequence. -/
theorem test_taking_a_cabinet_online :
    ((goOnlineCommand (cabinet true true 1)).1, (goOnlineCommand (cabinet true false 1)).1, (goOnlineCommand (cabinet true false 2)).1) =
    (⟨.inconsistent, [1, 6]⟩, ⟨.inconsistent, [3, 2]⟩, ⟨.inconsistent, [7, 0]⟩) := by decide +kernel

/-- GO OFFLINE with an OPEN session and with a waiting service request. -/
theorem witness_GoOffline_clauses :
    (withSession .opened (inMode .online)).crd.state = .opened ∧ (withSession .opened (inMode .online)).mgt.mode = .online ∧
    ({ inMode .online with dlk := { Dlk.powerOn with requestWaiting := true } } : State).dlk.seg = .owned := by decide

theorem witness_SmallCommandsSetTheirState : Deliverable (inMode .online) ∧ (inMode .online).mgt.mode ≠ .safe ∧
    (inMode .online).clg.blind = false ∧ ¬(0 < (inMode .online).csh.credit) ∧ (inMode .online).vnd.ctx = none ∧
    ({ State.reset with clg := { Clg.powerOn with filtered := some 70, hold := true } } : State).clg.filtered.all
      (fun f => (70 : Int) < f) = false := by
  exact ⟨⟨rfl, rfl⟩, by decide, rfl, by decide, rfl, by decide⟩

theorem witness_TubeCountsAreCorrected : Deliverable (withTubes State.reset) ∧ (tubeOf (withTubes State.reset) 0).denom ≠ 0 ∧
    (tubeOf State.reset 5).lowCovered ≠ true ∧ (tubeOf State.reset 5).fullCovered ≠ true := by
  exact ⟨⟨rfl, rfl⟩, by decide +kernel, by decide +kernel, by decide +kernel⟩

/-! ## Witnesses: vends and turns -/

/-- Accepted CASH, CARD and FREE vends. -/
theorem witness_VendChecksInOrder : Deliverable (withCredit 50 (onSale (inMode .online))) ∧
    vendRefusal (withCredit 50 (onSale (inMode .online))) 0 .cash = none ∧
    vendRefusal (withCredit 49 (onSale (inMode .online))) 0 .cash = some .creditShort ∧
    vendRefusal (onSale (inMode .service)) 0 .free = none ∧
    vendRefusal (onSale (inMode .service)) 80 .free = some .notVendable := by
  exact ⟨⟨rfl, rfl⟩, by decide +kernel⟩

theorem witness_AcceptedVendsFileTheirClaim : Deliverable (withCredit 50 (onSale (inMode .online))) ∧
    vendRefusal (withCredit 50 (onSale (inMode .online))) 0 .cash = none ∧
    positionOf (withCredit 50 (onSale (inMode .online))) (selOf (onSale (inMode .online)) 0) = some (0, none) ∧
    vendRefusal (onSale (inMode .service)) 0 .free = none ∧
    positionOf (onSale (inMode .service)) (selOf (onSale (inMode .service)) 0) = some (0, none) := by
  exact ⟨⟨rfl, rfl⟩, by decide +kernel⟩

theorem witness_AcceptedCardVendsAskForApproval :
    let s := withNodes (withSession .opened (onSale (inMode .online)))
    Deliverable s ∧ vendRefusal s 0 .card = none ∧ (entryOf .card s).map (·.1) = some 1 ∧
      (∀ p ∈ entryOf .card s, p.2.presence = .present) ∧ s.dlk.own.length < 4 ∧ s.lds.claims = [] := by
  exact ⟨⟨rfl, rfl⟩, by decide +kernel⟩

/-- A twin vend waiting with a payout's unit and a start claim beside it; a start claim that waits while a unit is out. -/
def waitingVend : State :=
  { withVend { vendOf .free .loadWait with partner := some 1 } (inMode .service) with
    lds := { Lds.powerOn with claims := [⟨.compressor, 4, 0, false⟩, ⟨.vend, 2, 0, false⟩], payoutUnits := 1 } }

theorem witness_ClaimsAreGrantedInOrder :
    waitingVend.mgt.mode ≠ .safe ∧ waitingVend.vnd.ctx.isSome ∧
    (∀ c ∈ waitingVend.lds.claims, c.guarding = false ∧ c.kind ≠ .coilCheck ∧ (c.kind = .vend → c.units = 2)) ∧
    (∃ c ∈ waitingVend.lds.claims, c.kind = .vend) ∧ 2 + unitsGranted waitingVend ≤ 4 ∧
    (⟨.compressor, 4, 0, false⟩ : Claim) ∈ waitingVend.lds.claims ∧ 0 < unitsGranted waitingVend ∧
    (∀ k ∈ waitingVend.lds.claims, (k.kind = .compressor → k = ⟨.compressor, 4, 0, false⟩) ∧
      (k.kind ≠ .compressor → k.guarding = false)) := by decide +kernel

/-- Claims of every kind with all units free, with two and with none, and a guarding start that fits and one that does not. -/
theorem witness_ClaimsAreGrantedInOrder_kinds :
    (∀ n ∈ [0, 2, 4], ∀ guard ∈ [true, false],
      let cs : List Claim := [⟨.compressor, 4, 0, guard⟩, ⟨.coilCheck, 1, 0, false⟩, ⟨.payout, 1, 0, false⟩]
      let s := withSweep (sweepOfAll .claimed) { inMode .service with lds := { Lds.powerOn with claims := cs, vendUnits := n } }
      s.mgt.mode ≠ .safe ∧ (∀ c ∈ cs, ∀ k ∈ cs, k.kind = c.kind → k = c) ∧
        ((1 ≤ 4 - unitsGranted s) ↔ n ≠ 4) ∧ ((4 ≤ 4 - unitsGranted s) ↔ n = 0) ∧
        (∀ k ∈ cs, k.guarding = true → k = ⟨.compressor, 4, 0, true⟩) ∧ s.spd.sweep = some (sweepOfAll .claimed)) ∧
    ([ClaimKind.vend, .payout, .coilCheck, .compressor].map
      ([ClaimKind.vend, .payout, .coilCheck, .compressor].idxOf ·)) = [0, 1, 2, 3] := by decide +kernel

/-- A CARD vend that waits for its approval, one that waits for its load, and one whose session has gone. -/
theorem witness_VendCancelEndsAWaitingVend_card :
    ∀ p ∈ [(Stage.approvalWait, SessionState.approvalWait), (.loadWait, .vending), (.loadWait, .none)],
      let s := withSession p.2 (withSlots 1 (withVend (vendOf .card p.1) (withNodes (inMode .online))))
      s.ulk.answerState = .free ∧ s.ulk.rx.overrun = false ∧ s.vnd.ctx = some (vendOf .card p.1) ∧
        (vendOf .card p.1).outcome = none ∧ (vendOf .card p.1).slots = 1 ∧ s.crd.state = p.2 ∧ (entryOf .card s).isSome ∧
        (∀ e ∈ entryOf .card s, e.2.presence = .present) ∧ s.dlk.own.length < 3 ∧ s.chg.payout = none ∧
        1 ≤ s.rpq.reserved := by decide +kernel

/-- No vend, a vend in its turn, and a CASH vend that waits. -/
theorem witness_VendCancelEndsAWaitingVend : Deliverable State.reset ∧ State.reset.vnd.ctx = none ∧
    (withVend (vendOf .free .turn1) State.reset).vnd.ctx.any (fun v => v.stage == .turn1) ∧
    (let s := withSlots 1 (withVend (vendOf .cash .loadWait) (inMode .online))
     Deliverable s ∧ s.vnd.ctx = some (vendOf .cash .loadWait) ∧ (if s.chg.payout.isSome then 2 else 1) ≤ s.rpq.reserved ∧
      s.csh.credit + heldPrice s + moneyOwed s ≤ 65535) := by
  exact ⟨⟨rfl, rfl⟩, rfl, rfl, ⟨rfl, rfl⟩, rfl, by decide, by decide⟩

/-- Each outcome with its premise. -/
theorem witness_OutcomesMarkTheSelection :
    (VendOutcome.interrupted = .interrupted ∧ ({ vendOf .cash .turn1 with dropSeen := true } : VendCtx).dropSeen = true) ∧
    ¬(VendOutcome.interrupted = .success ∨ (VendOutcome.interrupted = .interrupted ∧ (vendOf .cash .turn1).dropSeen = true)) := by
  decide

/-- One running motor, closed and opened, and a twin whose partner runs or has stopped. -/
theorem witness_CamChangesStopTheMotors :
    (∀ ms ∈ [[motor false], [motor true], [motor true, { motor true with col := 1 }],
        [motor true, { motor true with col := 1, stop := .normal }]],
      (withTurn (turnOf ms none false) State.reset).spd.turn = some (turnOf ms none false) ∧
      ((turnOf ms none false).motorAt 0).any (fun m => m.stop == .running) = true) ∧
    (∃ n ∈ [motor true, { motor true with col := 1 }], n.col ≠ 0 ∧ n.stop = .running) ∧
    (∀ n ∈ [motor true, { motor true with col := 1, stop := .normal }], n.col ≠ 0 → n.stop = .normal) := by decide +kernel

/-- Each fault's boundary: 39 and 40 mA, 3,001 mA, and one above the jam threshold. -/
theorem witness_MotorFaultsEndTheTurn :
    (∀ m ∈ [motor false, motor true], (withTurn (turnOf [m] none false) State.reset).spd.turn = some (turnOf [m] none false) ∧
      (turnOf [m] none false).motorAt 0 = some m ∧ m.openTested = false) ∧
    (turnOf [motor false] none false).tray < 8 ∧ 39 < 40 ∧ 3000 < 3001 ∧ State.reset.spd.jamThreshold < 1201 := by
  decide +kernel

/-- A close with a drop, without one, and one that leads to a second turn. -/
theorem witness_ClosedWindowsDecideTheVend :
    (∀ drop ∈ [true, false],
      let w := turnOf [{ motor true with stop := .normal }] (some (.complete, 0)) drop
      let s := withSlots 1 (withVend (vendOf .cash .turn1) (withTurn w (inMode .online)))
      s.spd.turn = some w ∧ s.vnd.ctx = some (vendOf .cash .turn1) ∧ (if s.chg.payout.isSome then 2 else 1) ≤ s.rpq.reserved ∧
        turnOutcome s (vendOf .cash .turn1) .complete drop = some (if drop then .success else .noDrop) ∧
        s.csh.credit + heldPrice s + moneyOwed s ≤ 65535) ∧
    (let s := { State.reset with sel := { Sel.powerOn with
        table := tset Sel.powerOn.table 0 { Selection.powerOn with secondTurn := true } } }
     turnOutcome s (vendOf .cash .turn1) .complete false = none) := by decide +kernel

/-- A CARD vend whose window closes without a drop in its first turn and with one in its second, and the one that waits for the
end of its VEND RESULT, the reader's session closed or not. -/
theorem witness_ClosedWindowsDecideTheVend_card :
    (∀ p ∈ [(Stage.turn1, false), (.turn2, true)],
      let w := turnOf [{ motor true with stop := .normal }] (some (.complete, 0)) p.2
      let s := withSession .vending (withVend (vendOf .card p.1) (withTurn w (withNodes (inMode .online))))
      s.spd.turn = some w ∧ s.vnd.ctx = some (vendOf .card p.1) ∧ s.crd.state = .vending ∧ (entryOf .card s).isSome ∧
        (∀ e ∈ entryOf .card s, e.2.presence = .present) ∧ s.dlk.own.length < 3 ∧
        turnOutcome s (vendOf .card p.1) .complete p.2 = some (if p.2 then .success else .noDrop)) ∧
    (∀ m ∈ [Mode.online, .service], ∀ closing ∈ [true, false],
      let v := { vendOf .card .settling with outcome := some .success }
      let s := withSlots 1 (withVend v (withNodes (inMode m)))
      let s := { s with crd := { s.crd with
        state := .vending, owed := some ⟨true, 50, 0, true⟩, closePending := closing } }
      s.crd.owed = some ⟨true, 50, 0, true⟩ ∧ s.vnd.ctx = some v ∧ v.outcome = some .success ∧ v.payment = .card ∧ v.slots = 1 ∧
        1 ≤ s.rpq.reserved ∧ s.crd.closePending = closing ∧ s.mgt.mode = m ∧ (entryOf .card s).isSome ∧
        s.dlk.own.length < 3) := by decide +kernel

/-- A drop in a window, a late one at 10 s, and one a tick after. -/
def lateAfter (t : Time) : State :=
  { State.reset with now := t, spd := { Spd.powerOn with lateDrop := some (79, 0) } }

theorem witness_LevelsAndDropsAreRecorded :
    (withTurn (turnOf [motor false] none false) State.reset).spd.dropActive = false ∧
    (lateAfter (seconds 10)).spd.lateDrop = some (79, 0) ∧
    max (lateAfter (seconds 10)).now ((lateAfter (seconds 10)).spd.dropInactiveSince + ms 20) ≤ 0 + seconds 10 ∧
    0 + seconds 10 < max (lateAfter (seconds 10 + 1)).now ((lateAfter (seconds 10 + 1)).spd.dropInactiveSince + ms 20) ∧
    ({ State.reset with clg := { Clg.powerOn with grace := some ⟨0, minutes 45⟩ } } : State).clg.grace = some ⟨0, minutes 45⟩ ∧
    ({ State.reset with csh := { Csh.powerOn with escrow := some ⟨0, true, 0, 1⟩ } } : State).csh.escrow = some ⟨0, true, 0, 1⟩ := by
  exact ⟨rfl, rfl, by decide, by decide, rfl, rfl⟩

theorem witness_SweepsBeginAndStop : Deliverable State.reset ∧ State.reset.spd.sweep = none ∧ State.reset.lds.claims = [] ∧
    Deliverable (withSlots 1 (withSweep (sweepOfAll (.energized 0)) State.reset)) ∧
    (withSlots 1 (withSweep (sweepOfAll (.energized 0)) State.reset)).spd.sweep = some (sweepOfAll (.energized 0)) ∧
    (sweepOfAll .claimed).check = .claimed :=
  ⟨⟨rfl, rfl⟩, rfl, rfl, ⟨rfl, rfl⟩, rfl, rfl⟩

/-- The last position, with the samples where one health meets the next. -/
theorem witness_CoilChecksFindTheHealth :
    (withSweep (sweepOfAll (.energized 0)) State.reset).spd.sweep = some (sweepOfAll (.energized 0)) ∧
    (sweepOfAll (.energized 0)).check = .energized 0 ∧ (withSweep (sweepOfAll (.energized 0)) State.reset).lds.claims = [] ∧
    (sweepOfAll (.energized 0)).paused = false ∧ (sweepOfAll (.energized 0)).cursorTray ≤ 7 ∧
    (sweepOfAll (.energized 0)).cursorCol ≤ 9 ∧ 3000 ≤ 3000 ∧ 3000 < 3001 ∧
    (sweepOfAll (.energized 0)).cursorTray = (sweepOfAll (.energized 0)).trayLast ∧
    (sweepOfAll (.energized 0)).cursorCol = (sweepOfAll (.energized 0)).colLast ∧
    1 ≤ (withSlots 1 (withSweep (sweepOfAll (.energized 0)) State.reset)).rpq.reserved := by decide

/-! ## Witnesses: money -/

/-- Class 0 of value 100, enabled and routed to tube 0. -/
def withCoin (s : State) : State :=
  { s with csh := { s.csh with
    coins := tset s.csh.coins 0 ⟨100, some 0, true⟩, coinSafe := Vector.replicate 16 true } }

theorem witness_CoinsAreAcceptedOrReturned :
    (let s := withCoin (withTubes (inMode .online))
     s.mgt.mode = .online ∧ (coinOf s 0).enabled = true ∧ s.chg.payout = none ∧
      committed s + (coinOf s 0).value ≤ s.csh.creditLimit ∧ tget s.csh.coinSafe false 0 = true ∧ s.csh.creditLimit ≤ 65535) ∧
    (let s := withCoin (withTubes (inMode .service))
     s.mgt.mode = .service ∧ routedTube s 0 = some 0 ∧ (coinOf s 0).value = (tubeOf s 0).denom ∧ s.chg.payout = none) ∧
    (inMode .setup).mgt.mode = .setup ∧
    ({ State.reset with csh := { Csh.powerOn with gateOpen := true } } : State).csh.gateOpen = true := by decide +kernel

theorem witness_BillsAreDecidedAndCredited :
    (let s := withNodes (inMode .online)
     (entryOf .bill s).map (·.1) = some 0 ∧ (∀ p ∈ entryOf .bill s, p.2.presence = .present) ∧ s.dlk.own.length < 4 ∧
      s.csh.credit ≤ 65535 ∧ s.csh.escrow.any (fun e => e.stack && e.cls == 7) = false) ∧
    ({ State.reset with csh := { Csh.powerOn with escrow := some ⟨7, true, 0, 1⟩ } } : State).csh.escrow.any
      (fun e => e.stack && e.cls == 7) = true := by decide +kernel

/-- A CARD vend that waits for approval. -/
def approving : State :=
  let s := withSlots 1 (withVend (vendOf .card .approvalWait) (withNodes (inMode .online)))
  { s with crd := { s.crd with state := .approvalWait, deadline := some 0, lastRequest := some (0, 50) } }

theorem witness_CardEventsMoveTheSession :
    (inMode .online).crd.state = .none ∧ (inMode .service).mgt.mode ≠ .online ∧
    (withSession .opened (inMode .online)).crd.state = .opened ∧ (withSession .vending (inMode .online)).crd.state = .vending ∧
    approving.crd.state = .approvalWait ∧ approving.vnd.ctx = some (vendOf .card .approvalWait) ∧
    approving.crd.lastRequest = some (0, 50) ∧ approving.crd.deadline = some 0 ∧ approving.mgt.mode = .online ∧
    approving.chg.payout = none ∧ 1 ≤ approving.rpq.reserved ∧ approving.dlk.own = [] ∧
    (∀ p ∈ entryOf .card approving, p.2.presence = .present) ∧ (entryOf .card approving).isSome := by decide +kernel

/-- A vend whose reader may deny, be short, close, miss the request or be lost, in ONLINE and in SERVICE; a session OPEN with and
without a last request; and a result owed for a vend and for none. -/
theorem witness_CardEventsMoveTheSession_denials :
    (∀ m ∈ [Mode.online, .service, .safe],
      let s := { approving with mgt := ⟨m, .setup⟩ }
      s.crd.state = .approvalWait ∧ s.vnd.ctx = some (vendOf .card .approvalWait) ∧ (vendOf .card .approvalWait).payment = .card ∧
        (vendOf .card .approvalWait).slots = 1 ∧ s.chg.payout = none ∧ 1 ≤ s.rpq.reserved ∧ s.crd.lastRequest = some (0, 50) ∧
        49 < 50 ∧ s.mgt.mode = m ∧ s.dlk.own.length < 3) ∧
    (withSession .opened approving).crd.lastRequest = some (0, 50) ∧ (withSession .opened approving).dlk.own.length < 4 ∧
    (withSession .opened State.reset).crd.lastRequest = none ∧
    (∀ linked ∈ [true, false],
      let v := { vendOf .card .settling with outcome := some .success }
      let s := withVend v approving
      let s := { s with crd := { s.crd with state := .vending, owed := some ⟨true, 50, 0, linked⟩ } }
      s.crd.state = .vending ∧ s.crd.owed = some ⟨true, 50, 0, linked⟩ ∧ s.vnd.ctx = some v ∧ v.outcome = some .success ∧
        1 ≤ s.rpq.reserved) := by decide +kernel

theorem witness_RefundsMoveTheWholeCredit :
    (let s := withCredit 50 (inMode .online)
     Deliverable s ∧ (s.mgt.mode = .online ∨ s.mgt.mode = .service) ∧ 0 < s.csh.credit ∧ s.chg.payout = none ∧
      s.vnd.ctx.any (fun v => v.payment = .cash) = false ∧ s.csh.leverPressed = false) := by
  exact ⟨⟨rfl, rfl⟩, by decide⟩

theorem witness_ServicePayoutsBegin : Deliverable (withTubes (inMode .service)) ∧
    (tubeOf (withTubes (inMode .service)) 0).denom ≠ 0 := by
  exact ⟨⟨rfl, rfl⟩, by decide +kernel⟩

theorem witness_CanPayMeansAnExactPlan : ∀ u ∈ figures, 0 < u.denom := by decide

/-- Flags that hold, with a class that is safe and one that is not; and rows that answer a next state. -/
theorem witness_FlagsCurrent :
    (let s := cshRefresh (routed (some 2))
     (∀ i < 16, tget s.csh.coinSafe false i = coinSafeNow s i) ∧
      (∀ i < 8, tget s.csh.billSafe false i = billSafeNow s i ∧ tget s.csh.effMask false i = effectiveFlag s i) ∧
      s.csh.exactChange = exactChangeNow s ∧ tget s.csh.coinSafe false 5 = true ∧ tget s.csh.coinSafe false 4 = false) ∧
    (∃ t, exec (.classReport (some 5)) (cshRefresh (routed (some 2))) = .next t) ∧
    (∃ t, exec (.lowSensorChange 2 true) (cshRefresh (routed (some 2))) = .next t) ∧
    (∃ t, exec .escrowExpiry (cshRefresh (routed (some 2))) = .next t) ∧
    ∃ t, exec (.hostBillMask 1 [0xFF]) (cshRefresh (routed (some 2))) = .next t := by
  exact ⟨by decide +kernel, ⟨_, rfl⟩, ⟨_, rfl⟩, ⟨_, rfl⟩, _, rfl⟩

theorem witness_ThePlanIsTheBest : ∀ u ∈ figures, 0 < u.denom := by decide

/-- A payout with coins to plan, and one with none. -/
def waitingPayout : Payout := { payoutOf .amount none none with paying := false, plan := none }

theorem witness_GrantedPayoutsMakeTheirPlan :
    (let s := withPayout waitingPayout (withTubes State.reset)
     s.chg.payout = some waitingPayout ∧ waitingPayout.form = .amount ∧ waitingPayout.paid = 0 ∧
      ((planTubes false s.chg.tubes).find? (fun u => decide (0 < tget (makePlan false s.chg.tubes 150 100) 0 u.tube))).isSome) ∧
    (let s := withSlots 1 (withPayout waitingPayout State.reset)
     (∀ u ∈ planTubes false s.chg.tubes, tget (makePlan false s.chg.tubes 150 100) 0 u.tube = 0) ∧ 1 ≤ s.rpq.reserved ∧
      s.csh.credit + 150 ≤ 65535) := by decide +kernel

/-- The form TUBE payout of two coins from a tube that is JAMMED. -/
theorem witness_GrantedPayoutsMakeTheirPlan_tube :
    (let p := { waitingPayout with source := .service, form := .tube 1, requested := 100 }
     let s := withPayout p { withTubes State.reset with chg := { (withTubes State.reset).chg with
       tubes := tset (withTubes State.reset).chg.tubes 1 { Tube.powerOn with denom := 50, state := .jammed } } }
     s.chg.payout = some p ∧ p.form = .tube 1 ∧ 0 < (tubeOf s 1).denom ∧ p.requested = 2 * (tubeOf s 1).denom) := by
  decide +kernel

/-- A coin in its window with the pulse on; the pulse on after the last coin was seen. -/
def lastCoinSeen : Payout := { payoutOf .amount (some 0) none with plan := some (Vector.replicate 6 0), paid := 150 }

theorem witness_CoinsSeenArePaid :
    (let p := payoutOf .amount (some 0) (some 0)
     let s := withPayout p (withTubes State.reset)
     s.chg.payout = some p ∧ p.window = some 0 ∧ p.tube < 6 ∧ s.chg.sensorActive = false ∧ p.pulse = some 0 ∧ s.lds.claims = [] ∧
      p.plan.isSome ∧ 0 < (tubeOf s p.tube).count) ∧
    (let s := withSlots 1 (withPayout lastCoinSeen (withTubes State.reset))
     s.chg.payout = some lastCoinSeen ∧ lastCoinSeen.pulse = some 0 ∧ lastCoinSeen.window = none ∧ 1 ≤ s.rpq.reserved ∧
      s.lds.claims = [] ∧ (∀ k ∈ lastCoinSeen.plan, ∀ u ∈ planTubes false s.chg.tubes, tget k 0 u.tube = 0) ∧
      s.csh.credit + (lastCoinSeen.requested - lastCoinSeen.paid) ≤ 65535) := by decide +kernel

/-- A coin seen after its pulse: with a coin still planned, with a planned tube found empty, and with none. -/
theorem witness_CoinsSeenArePaid_next :
    ∀ k ∈ [#v[2, 0, 0, 0, 0, 0], #v[1, 0, 1, 0, 0, 0], #v[1, 0, 0, 0, 0, 0]],
      let p := { payoutOf .amount none (some 0) with plan := some k }
      let s := withPayout p { State.reset with chg := { Chg.powerOn with
        tubes := (routed none).chg.tubes.set 2 { Tube.powerOn with denom := 50, reserve := 2, count := 2 } } }
      s.chg.payout = some p ∧ p.window = some 0 ∧ p.tube < 6 ∧ s.chg.sensorActive = false ∧ p.pulse = none ∧ p.cut = false ∧
        p.jammed = false ∧ p.plan = some k ∧ s.lds.claims = [] := by decide +kernel

/-- Windows of form AMOUNT with replans left and used up, jammed or cut, and a jam found after the coin was seen. -/
theorem witness_EmptyAndJammedTubesAreFound_replans :
    (∀ n ∈ [0, 2], ∀ jammed ∈ [true, false], ∀ cut ∈ [true, false], ∀ f ∈ [PayoutForm.amount, .tube 0],
      let p := { payoutOf f none (some 0) with replans := n, jammed := jammed, cut := cut }
      let s := withSlots 1 (withPayout p (withTubes State.reset))
      s.chg.payout = some p ∧ p.tube < 6 ∧ p.window = some 0 ∧ p.jammed = jammed ∧ p.cut = cut ∧ p.form = f ∧ p.replans = n ∧
        p.pulse = none ∧ p.plan.isSome ∧ s.chg.sensorActive = false ∧ s.lds.claims = [] ∧ 1 ≤ s.rpq.reserved) ∧
    (∀ f ∈ [PayoutForm.amount, .tube 0],
      let p := payoutOf f (some 0) none
      let s := withPayout p (withTubes State.reset)
      s.chg.payout = some p ∧ p.window = none ∧ p.pulse = some 0 ∧ p.cut = false ∧ p.jammed = false ∧
        s.spd.jamThreshold < 1201) := by decide +kernel

theorem witness_EmptyAndJammedTubesAreFound :
    (let p := payoutOf (.tube 0) (some 0) (some 0)
     let s := withSlots 1 (withPayout p (withTubes State.reset))
     s.chg.payout = some p ∧ p.tube < 6 ∧ p.cut = false ∧ p.jammed = false ∧ p.window = some 0 ∧ p.form = .tube 0 ∧
      s.lds.claims = [] ∧ 1 ≤ s.rpq.reserved ∧ p.pulse = some 0 ∧ s.spd.jamThreshold < 1201) := by decide +kernel

/-! ## Witnesses: the cabinet and cooling -/

theorem witness_DoorChangesMoveTheMode : (inMode .online).cmn.doorOpen ≠ true ∧ (inMode .online).mgt.mode = .online ∧
    (let s := { inMode .service with cmn := { Cmn.powerOn with doorOpen := true } }
     s.cmn.doorOpen ≠ false ∧ s.mgt.mode = .service) ∧
    (let s := { State.reset with cmn := { Cmn.powerOn with doorOpen := true }, clg := { Clg.powerOn with grace := some ⟨0, 0⟩ } }
     s.cmn.doorOpen ≠ false ∧ s.clg.grace = some ⟨0, 0⟩ ∧ s.now ≤ 0) := by decide

/-- A LOW supply one sample before its end. -/
def lowSupply (r : ReturnMode) : State :=
  { State.reset with mgt := ⟨.safe, r⟩, cmn := { Cmn.powerOn with supplyLow := true, goodRun := 199, volts := 215 } }

theorem witness_SupplySamplesAndTheEndOfSafe :
    (State.reset.cmn.supplyLow = true ∨ 190 ≤ 190 ∨ State.reset.cmn.lowRun < 3) ∧
    (State.reset.cmn.supplyLow = false ∨ 214 < 215 ∨ State.reset.cmn.goodRun < 199) ∧
    (∀ r ∈ [ReturnMode.setup, .online, .service], (lowSupply r).cmn.supplyLow = true ∧ 199 ≤ (lowSupply r).cmn.goodRun ∧
      (lowSupply r).mgt.mode = .safe) ∧
    (withVend (vendOf .cash .loadWait) (lowSupply .online)).vnd.ctx = some (vendOf .cash .loadWait) := by
  exact ⟨by decide, by decide, by decide, rfl⟩

/-- The fourth low sample, with a vend in its turn, a coin in its window, and a vend that waits. -/
def failing (s : State) : State := { s with cmn := { s.cmn with lowRun := 3 } }

theorem drivesOwned_of_off {s : State} (h : s.spd.rowOn = none) (k : s.spd.colsOn = []) (p : s.chg.drive = none) : DrivesOwned s := by
  simp [DrivesOwned, h, k, p]

theorem witness_ALowSupplyMakesTheMachineSafe :
    (let s := failing (withTurn (turnOf [motor false] none false) (withVend (vendOf .cash .turn1) (inMode .online)))
     s.cmn.supplyLow = false ∧ 3 ≤ s.cmn.lowRun ∧ s.mgt.mode ≠ .safe ∧ DrivesOwned s ∧ CompressorCovered s ∧
      s.vnd.ctx = some (vendOf .cash .turn1)) ∧
    (let p := payoutOf .amount (some 0) (some 0)
     let s := failing (withPayout p (inMode .online))
     DrivesOwned s ∧ CompressorCovered s ∧ s.chg.payout = some p ∧ p.paying = true ∧ p.window.isSome) ∧
    (let s := failing (withVend (vendOf .cash .loadWait) (withPayout waitingPayout (inMode .online)))
     DrivesOwned s ∧ CompressorCovered s ∧ waitingPayout.paying = false ∧ s.vnd.ctx = some (vendOf .cash .loadWait)) := by
  refine ⟨⟨rfl, by decide, by decide, ⟨fun _ => .inl ⟨_, rfl, rfl⟩, nofun⟩, ?_, rfl⟩,
    ⟨⟨fun h => absurd h (by decide), fun _ => rfl⟩, ?_, rfl, rfl, rfl⟩, drivesOwned_of_off rfl rfl rfl, ?_, rfl, rfl⟩ <;>
  exact ⟨nofun, nofun⟩

/-- Vends of each payment in a turn, with and without a drop, the reader there or gone. -/
theorem witness_ALowSupplyMakesTheMachineSafe_interrupted :
    ∀ pay ∈ [Payment.cash, .card, .free], ∀ drop ∈ [true, false], ∀ st ∈ [SessionState.vending, .none],
      let s := withSession st (withSlots 1 (failing (withTurn (turnOf [motor false] none drop)
        (withVend (vendOf pay .turn1) (withNodes (inMode .online))))))
      s.cmn.supplyLow = false ∧ 3 ≤ s.cmn.lowRun ∧ s.mgt.mode ≠ .safe ∧ s.vnd.ctx = some (vendOf pay .turn1) ∧
        (vendOf pay .turn1).outcome = none ∧ s.spd.turn.any (·.dropSeen) = drop ∧ 1 ≤ s.rpq.reserved ∧ s.crd.state = st ∧
        s.csh.credit + heldPrice s + moneyOwed s ≤ 65535 ∧ (entryOf .card s).isSome ∧
        (∀ e ∈ entryOf .card s, e.2.presence = .present) ∧ s.dlk.own.length < 3 := by decide +kernel

theorem witness_SamplesAreConvertedAndFiltered :
    (∀ i < 8, (tget Clg.powerOn.points (0, 0) i).1 < (tget Clg.powerOn.points (0, 0) (i + 1)).1) ∧
    (tget Clg.powerOn.points (0, 0) 0).1 ≤ 64 ∧ 959 < (tget Clg.powerOn.points (0, 0) 8).1 := by decide +kernel

/-- The state after a sample. -/
def sampled (air coil condenser : BitVec 10) (s : State) : State :=
  match exec (.coolingSample air air coil condenser) s with
  | .next t => t
  | _ => s

/-- A Cooling Unit whose air sensors are one sample from losing or from regaining their status. -/
def airSensors (fault : Bool) (run : Nat) (c : Clg) : Clg :=
  let x : Sensor := { Sensor.powerOn with fault := fault, outRun := if fault then 0 else run, inRun := if fault then run else 0 }
  { c with sensors := tset (tset c.sensors 0 x) 1 x, blind := fault }

/-- R14: the 1,800th warm second, with a FREE vend of a chilled perishable selection that waits. -/
def warmVend : State :=
  let s := withSlots 1 (withVend (vendOf .free .loadWait) (inMode .service))
  { s with
    clg := { s.clg with warmTime := 1799, filtered := some 100 }
    sel := { s.sel with table := tset s.sel.table 0 { Selection.powerOn with chilled := true, perishable := true } } }

theorem witness_TheSampleUpdatesTheCompartment_hold : warmVend.clg.hold = false ∧ (sampled 430 430 430 warmVend).clg.hold = true ∧
    warmVend.vnd.ctx = some (vendOf .free .loadWait) ∧ warmVend.clg.comp = .guard ∧ warmVend.lds.claims = [] ∧
    (selOf warmVend 0).chilled = true ∧ (selOf warmVend 0).perishable = true ∧
    (if warmVend.chg.payout.isSome then 2 else 1) ≤ warmVend.rpq.reserved := by decide +kernel

/-- R125: 80.0 and 4.8 degrees at the condenser, with and without the hot flag; R124: the same at the coil in DEFROST. -/
theorem witness_TheSampleUpdatesTheCompartment_sensors :
    (let s := cooling .run true State.reset
     (sensorOf (sampled 430 430 960 s) 3).value = some 800 ∧ (sampled 430 430 960 s).clg.blind = s.clg.blind ∧
      s.clg.settings.condenserTrip ≤ 800) ∧
    (let s := { State.reset with clg := { Clg.powerOn with hot := true } }
     (sensorOf (sampled 430 430 430 s) 3).value = some 48 ∧ 48 ≤ s.clg.settings.condenserTrip - 100 ∧
      s.clg.settings.condenserTrip - 100 < 800) ∧
    (let s := cooling .defrost false State.reset
     (sensorOf (sampled 430 960 430 s) 2).value = some 800 ∧ s.clg.termInForce ≤ 800 ∧ 48 < s.clg.termInForce ∧
      0 < s.clg.settings.dripTime) := by decide +kernel

/-- R126: BLIND begins and ends. -/
theorem witness_TheSampleUpdatesTheCompartment_blind :
    (let s := { cooling .run true State.reset with clg := airSensors false 3 (cooling .run true State.reset).clg }
     s.clg.blind = false ∧ (sampled 0 430 430 s).clg.blind = true) ∧
    (let s := { State.reset with clg := airSensors false 3 { Clg.powerOn with comp := .idle } }
     s.clg.comp = .idle ∧ (sampled 0 430 430 s).clg.blind = true ∧ (sampled 0 430 430 s).clg.hot = false ∧ s.mgt.mode ≠ .safe) ∧
    (∀ c ∈ [CompState.blindOn, .blindOff],
      let s := { State.reset with clg := airSensors true 3 (cooling c true State.reset).clg }
      s.clg.blind = true ∧ (sampled 430 430 430 s).clg.blind = false ∧ s.clg.contactor = true ∧
        (sampled 430 430 430 s).now < s.clg.lastStop + seconds 180) := by decide +kernel

/-- R121, R122: demand off and on, in RUN before and after 60 s, in IDLE and in WAIT_SUPPLY. -/
def demanding (c : CompState) (on : Bool) (warmth : Int) : State :=
  let s := cooling c on State.reset
  { s with clg := { s.clg with filtered := some warmth } }

theorem witness_TheSampleUpdatesTheCompartment_demand :
    ((sampled 430 430 430 (demanding .run true 0)).clg.demand = false ∧
      (sampled 430 430 430 (demanding .run true 0)).now < (demanding .run true 0).clg.startedAt + seconds 60) ∧
    (let s := { demanding .run true 0 with now := seconds 60 }
     (sampled 430 430 430 s).clg.demand = false ∧ s.clg.startedAt + seconds 60 ≤ (sampled 430 430 430 s).now) ∧
    (sampled 430 430 430 (demanding .run true 100)).clg.demand = true ∧
    (sampled 430 430 430 (demanding .idle false 0)).clg.demand = false ∧
    (let s := demanding .idle false 100
     (sampled 430 430 430 s).clg.demand = true ∧ (sampled 430 430 430 s).clg.hot = false ∧ s.mgt.mode ≠ .safe ∧ s.lds.claims = [] ∧
      (sampled 430 430 430 s).clg.hold = s.clg.hold ∧ unitsGranted s = 0 ∧
      0 < unitsGranted { s with lds := { s.lds with payoutUnits := 1 } }) ∧
    (sampled 430 430 430 (demanding .waitSupply false 0)).clg.demand = false ∧
    (sampled 430 430 430 (demanding .waitSupply false 0)).clg.blind = false := by decide +kernel

/-- Each clause: the compressor's state, its demand, and the units. -/
theorem witness_CompressorTimesMoveTheCompressor :
    (cooling .guard false State.reset).clg.demand = false ∧
    (let s := { cooling .guard false State.reset with clg := { Clg.powerOn with demand := true } }
     s.clg.comp = .guard ∧ s.clg.hot = false ∧ s.mgt.mode ≠ .safe ∧ unitsGranted s = 0 ∧
      0 < unitsGranted { s with lds := { s.lds with payoutUnits := 1 } }) ∧
    (let s := { cooling .start true State.reset with lds := { Lds.powerOn with compUnits := 4 } }
     s.clg.comp = .start ∧ s.clg.contactor = true ∧ s.lds.compUnits = 4 ∧ s.lds.claims = []) ∧
    (cooling .run true State.reset).clg.comp = .run ∧ (cooling .run true State.reset).clg.contactor = true ∧
    (cooling .defrost false State.reset).clg.comp = .defrost ∧ 0 < State.reset.clg.settings.dripTime ∧
    (let s := cooling .drip false State.reset
     max s.now (s.clg.stateSince + seconds s.clg.dripInForce) < s.clg.lastStop + seconds 180) ∧
    (let s := { cooling .drip false State.reset with now := seconds 180 }
     s.clg.demand = false ∧ s.clg.lastStop + seconds 180 ≤ max s.now (s.clg.stateSince + seconds s.clg.dripInForce)) ∧
    (cooling .blindOn true State.reset).clg.contactor = true ∧
    (let s := cooling .blindOff false State.reset
     s.mgt.mode ≠ .safe ∧ unitsGranted s = 0 ∧ 0 < unitsGranted { s with lds := { s.lds with payoutUnits := 1 } }) := by
  decide +kernel

/-! ## Witnesses: the Cabinet Bus -/

/-- A receiver of the upstream segment in a line state. -/
def receiving (l : LineState) (buf : List RxChar) : State :=
  { State.reset with ulk := { Ulk.powerOn with rx := { Receiver.powerOn with line := l, buffer := buf, count := buf.length } } }

theorem witness_ReceiversTakeCharactersAndBreaks : State.reset.dlk.dde = false ∧
    (∀ l ∈ [LineState.waitIdle, .ready, .receiving, .brk], (rxOf .upstream (receiving l [])).line = l) ∧
    (rxOf .upstream (receiving .receiving (List.replicate 53 ⟨0, false, false⟩))).buffer.length = 53 ∧
    awaitingExchange (withExchange (awaiting (.poll false)) State.reset) = some (awaiting (.poll false), 0) ∧
    (withExchange (awaiting (.poll false)) State.reset).dlk.seg ≠ .released := by decide +kernel

/-- A good frame from node 0x20 and a bad one. -/
def answered (chars : List Byte) : State :=
  { State.reset with dlk := { Dlk.powerOn with
    rx := { Receiver.powerOn with
      line := .receiving, buffer := chars.map fun b => charOfSamples (lineBits b) true, count := chars.length } } }

theorem witness_TwelveBitTimesOfMarkEndAFrame : (rxOf .upstream (receiving .waitIdle [])).line = .waitIdle ∧
    (receiving .receiving [⟨0, false, false⟩]).ulk.rx.line = .receiving ∧
    goodFrame (answered (frame 8 0x20 0x21 [])).dlk.rx = some (ownNode State.reset, 0x20, 0x21, []) ∧
    goodFrame (answered [8]).dlk.rx = none ∧ awaitingExchange (answered [8]) = none := by decide +kernel

theorem witness_GoodFramesAreTheFramesSent : (List.replicate 48 (0 : Byte)).length ≤ 48 ∧
    (answered (frame 8 0x20 0x21 [1])).dlk.rx.count = (answered (frame 8 0x20 0x21 [1])).dlk.rx.buffer.length ∧
    53 < ({ Receiver.powerOn with count := 54 } : Receiver).count := by decide +kernel

theorem witness_AnswersAreSentOnceAndInFull :
    (let s := { State.reset with ulk := { Ulk.powerOn with answerState := .turnaround, answer := some [0] } }
     s.ulk.answerState = .turnaround ∧ s.ulk.answer = some [0]) ∧
    ({ State.reset with ulk := { Ulk.powerOn with answerState := .sending } } : State).ulk.answerState = .sending := by decide

/-- An own frame, a transit that has its route and one that has lost it, a poll that is due with and without a slot. -/
def polling : State :=
  { withNodes State.reset with dlk := { (withNodes State.reset).dlk with
    polls := tset Dlk.powerOn.polls 1 ⟨0, true, false⟩ } }

theorem witness_ExchangesStartInTheirOrder :
    State.reset.dlk.seg = .owned ∧ State.reset.dlk.exchange = none ∧ State.reset.dlk.sending = none ∧
    (coveringEntry (withNodes State.reset) 0x20).isSome ∧ coveringEntry (withNodes State.reset) 0x22 = none ∧
    ([⟨0, 0x22, 5, [], false⟩] : List TransitRec).find? (fun u => !u.sent) = some ⟨0, 0x22, 5, [], false⟩ ∧
    (∀ i < 8, (routeOf State.reset i).inUse = false) ∧
    ((routeOf polling 1).inUse = true ∧ (pollOf polling 1).due = true ∧ (pollOf polling 1).deferred = false ∧
      (pollOf polling 0).due = false ∧ actsPassive polling 1 = false ∧ polling.rpq.queue.length + polling.rpq.reserved < 32 ∧
      32 ≤ (withSlots 32 polling).rpq.queue.length + (withSlots 32 polling).rpq.reserved) ∧
    ((routeOf polling 0).inUse = true ∧ polling.dlk.seg ≠ .released) := by decide +kernel

/-- A poll of a PASSIVE entry that is due and finds no slot. -/
theorem witness_ExchangesStart_deferral :
    (let r : Route := { Route.powerOn with inUse := true }
     let s := withSlots 32 { State.reset with dlk := { Dlk.powerOn with
       routes := tset Dlk.powerOn.routes 0 r, polls := tset Dlk.powerOn.polls 0 ⟨0, true, false⟩ } }
     (∀ i < 8, (routeOf s i).inUse = true → (pollOf s i).due = true → actsPassive s i = true) ∧ (routeOf s 0).inUse = true ∧
      (pollOf s 0).due = true ∧ s.dlk.own = [] ∧ 32 ≤ s.rpq.queue.length + s.rpq.reserved) := by decide +kernel

/-- A frame being sent with its exchange, and the rest of a frame whose exchange has ended. -/
theorem witness_DownstreamFrameSent :
    (let s := { withExchange { awaiting (.poll false) with awaiting := none } State.reset with
        dlk := { Dlk.powerOn with sending := some ⟨[0], 0⟩, exchange := some { awaiting (.poll false) with awaiting := none } } }
     s.dlk.sending = some ⟨[0], 0⟩ ∧ s.dlk.exchange.any (fun x => x.awaiting == none)) ∧
    ({ State.reset with dlk := { Dlk.powerOn with sending := some ⟨[0], 0⟩ } } : State).dlk.exchange = none := by decide +kernel

/-- A reply to each kind of exchange. -/
theorem witness_RepliesEndTheExchange :
    (∀ k ∈ [ExchKind.poll true, .transit 3, .own ⟨0x20, .enable (Vector.replicate 8 true)⟩],
      let s := withSlots 1 (withExchange (awaiting k) (withNodes State.reset))
      awaitingExchange s = some (awaiting k, 0) ∧ s.dlk.seg ≠ .released ∧ (0x20 : Byte).toNat = (awaiting k).dest ∧
        1 ≤ s.rpq.reserved ∧ (entryOf .bill s).isSome ∧ (coveringEntry s 0x20).isSome) ∧
    (0x21 : Byte).toNat ≠ (awaiting (.poll true)).dest ∧ (awaiting (.poll true)).expired = false := by decide +kernel

/-- Event replies that CSH and CRD take, one that fills the poll's slot, and one that is discarded. -/
theorem witness_RepliesEndTheExchange_events :
    (let s := withSlots 1 (withExchange (awaiting (.poll true)) (withNodes State.reset))
     awaitingExchange s = some (awaiting (.poll true), 0) ∧ s.dlk.seg = .owned ∧ (entryOf .bill s).map (·.1) = some 0 ∧
      1 ≤ s.rpq.reserved ∧ consumedEvent s 0 1 [5] = some (.billEscrow 5) ∧ consumedEvent s 0 1 [] = none) ∧
    (let x := { awaiting (.poll false) with dest := 0x21, entry := 1 }
     let s := withExchange x (withNodes State.reset)
     awaitingExchange s = some (x, 0) ∧ (entryOf .card s).map (·.1) = some x.entry ∧ x.entry < 8 ∧
      consumedEvent s 1 0x0A [50, 0] = some (.approved 50) ∧ consumedEvent s 1 1 [5] = none ∧
      (routeOf s x.entry).discarded < 255) := by decide +kernel

/-- The loss of the CARD node, and an own frame that is not answered. -/
theorem witness_TimeoutsEndTheExchangeMissed_owners :
    (let r : Route := { Route.powerOn with inUse := true, role := .card, presence := .present, missed := 2 }
     let s := withExchange (awaiting (.poll false)) { State.reset with dlk := { Dlk.powerOn with routes := tset Dlk.powerOn.routes 0 r } }
     coveringEntry s 0x20 = some (0, r) ∧ entryOf .card s = some (0, r) ∧ entryOf .bill s = none ∧ s.dlk.own = [] ∧
      s.dlk.seg = .owned ∧ s.dlk.rx.line ≠ .receiving) ∧
    (let k := ExchKind.own ⟨0x20, .enable (Vector.replicate 8 true)⟩
     let s := withExchange (awaiting k) (withNodes State.reset)
     awaitingExchange s = some (awaiting k, 0) ∧ s.dlk.seg = .owned ∧ ∀ e ∈ coveringEntry s 0x20, e.2.missed < 2) := by
  decide +kernel

theorem witness_TimeoutsEndTheExchangeMissed :
    (let s := withSlots 1 (withExchange (awaiting (.transit 3)) (withNodes State.reset))
     awaitingExchange s = some (awaiting (.transit 3), 0) ∧ (awaiting (.transit 3)).expired = false ∧ s.dlk.rx.line ≠ .receiving ∧
      1 ≤ s.rpq.reserved ∧ (∀ p ∈ coveringEntry s 0x20, p.2.presence = .present ∧ p.2.missed < 2)) ∧
    (let s := withExchange (awaiting (.poll false)) (answered [8])
     awaitingExchange s = some (awaiting (.poll false), 0) ∧ s.dlk.rx.line = .receiving) ∧
    (let r : Route := { Route.powerOn with inUse := true, presence := .present, missed := 2 }
     let s := withExchange (awaiting (.poll false)) { State.reset with dlk := { Dlk.powerOn with routes := tset Dlk.powerOn.routes 0 r } }
     ∀ p ∈ coveringEntry s 0x20, p.2.presence = .present ∧ 2 ≤ p.2.missed) := by decide +kernel

theorem witness_TheServiceToolGetsTheSegment : State.reset.cmn.srqActive ≠ true ∧ State.reset.dlk.seg = .owned ∧
    (inMode .online).mgt.mode = .online ∧ State.reset.mgt.mode ≠ .online ∧
    (∀ g ∈ [SegState.owned, .releasePending, .released],
      let s := { State.reset with cmn := { Cmn.powerOn with srqActive := true }, dlk := { Dlk.powerOn with seg := g } }
      s.cmn.srqActive ≠ false ∧ s.dlk.seg = g) ∧
    (withExchange (awaiting (.poll false)) State.reset).dlk.exchange.isSome := by decide +kernel

/-! ## Witnesses: management reset and the invariants -/

/-- A vend that waits beside a payout, a turn with and without a drop, and a start claim that waits with and without a unit granted. -/
theorem witness_ManagementResetEndsTheWork : Deliverable State.reset ∧ State.reset.vnd.ctx = none ∧
    (let s := withVend (vendOf .cash .loadWait) (withPayout waitingPayout (inMode .online))
     s.vnd.ctx = some (vendOf .cash .loadWait) ∧ s.chg.payout = some waitingPayout ∧ s.chg.drive = none ∧
      s.csh.credit + heldPrice s + moneyOwed s = 200) ∧
    (∀ drop ∈ [true, false],
      let s := withTurn (turnOf [motor false] none drop) (withVend (vendOf .cash .turn1) (inMode .online))
      s.vnd.ctx = some (vendOf .cash .turn1) ∧ s.spd.turn.any (fun w => w.dropSeen) = drop) ∧
    ((vendOf .cash .loadWait).stage = .settling ↔ (vendOf .cash .loadWait).outcome.isSome) ∧
    (∀ on ∈ [true, false], (cooling .waitSupply on State.reset).clg.comp = .waitSupply ∧
      (cooling .waitSupply on State.reset).lds.compUnits = if on then 1 else 0) ∧
    State.reset.cmn.supplyLow = false ∧ State.reset.clg.comp ≠ .waitSupply := by
  exact ⟨⟨rfl, rfl⟩, rfl, by decide +kernel, by decide +kernel, by decide, by decide +kernel, rfl, by decide⟩

/-- A state that meets every invariant and is not the one after reset: a payout whose coin is under way. -/
def busy : State := { withPayout (payoutOf .amount (some 0) (some 0)) (inMode .online) with pending := [.clearReport] }

theorem witness_EveryStepKeepsUnitsAndDrivesSafe : UnitsSafe busy ∧ PayoutDriveCovered busy ∧ CompressorCovered busy ∧
    DisabledUnclaimed busy ∧ CheckCovered busy ∧ MatrixSafe busy ∧ ∃ t, step busy = .next t := by
  refine ⟨⟨by decide, nofun⟩, ⟨fun _ => ⟨rfl, rfl⟩, ?_⟩, ⟨nofun, nofun⟩, nofun, nofun, ⟨by decide, by decide⟩, _, rfl⟩
  intro p _
  exact ⟨fun _ => rfl, fun _ => .inr rfl⟩

theorem witness_EveryStepKeepsTheReportsSafe : ReportsSafe { busy with rpq := { Rpq.powerOn with
    queue := .state .credit :: List.replicate 31 (.event (.transitLost 0)), dirty := [.tube 0, .tube 1] } } where
  bound := by decide
  drained := by decide
  once k := by by_cases h : k = .credit <;> simp [h, Ne.symm]
  apart := by decide
  ordered := by decide

/-- SAFE with a LOW supply, and a payout cut with its window open. -/
def safe : State :=
  { State.reset with
    pending := [.supplySample 100], mgt := ⟨.safe, .online⟩, cmn := { Cmn.powerOn with supplyLow := true }
    chg := { Chg.powerOn with payout := some { payoutOf .amount none (some 0) with cut := true } } }

theorem witness_EveryStepKeepsSafeQuiet : SafeIffLow safe ∧ SafeIsQuiet safe ∧ DrivesOwned safe ∧ CoilClaimOwned safe ∧
    CompressorCovered safe ∧ ∃ t, step safe = .next t := by
  refine ⟨⟨fun _ => rfl, fun _ => rfl⟩, fun _ => ⟨rfl, rfl, ⟨rfl, rfl, rfl, rfl⟩, rfl, nofun, .inr (.inl rfl), ?_⟩,
    drivesOwned_of_off rfl rfl rfl, nofun, ⟨nofun, nofun⟩, _, rfl⟩
  rintro p ⟨⟩
  exact ⟨rfl, rfl, rfl⟩

end Sys2Proof.Tests
end

section
/-! SUPPORT. VEND at its frame: its checks as one chain, and the answer they give (R10). -/

namespace Sys2Proof.Machine

/-! ## Payment characters (R190) -/

theorem paymentOf_eq_none_iff (n : Nat) : paymentOf n = none ↔ 2 < n := by
  rcases n with _ | _ | _ | n <;> simp [paymentOf]

/-- The payment kind that a character names tells which of the three characters it is. -/
theorem payment_char_iff {p : Byte} {pay : Payment} (h : paymentOf p.toNat = some pay) :
    (p = 0 ↔ pay = .cash) ∧ (p = 1 ↔ pay = .card) ∧ (p = 2 ↔ pay = .free) := by
  have hp : p.toNat ≤ 2 := by
    by_contra hn
    simp [(paymentOf_eq_none_iff _).2 (by omega : 2 < p.toNat)] at h
  have named : p = 0 ∨ p = 1 ∨ p = 2 := by bv_omega
  rcases named with rfl | rfl | rfl <;> cases h <;> decide

/-! ## The checks of VEND (R10) -/

/-- R10, check 7: funds that are not known (R97) do not fall short. -/
theorem fundsSuffice_iff (funds : Option Nat) (price : Nat) :
    (funds.map fun f => decide (price ≤ f)).getD true = true ↔ ¬funds.any (fun f => f < price) = true := by
  cases funds <;> simp

/-- Check 7 before the checks that follow it. -/
theorem paymentRefusal_or (s : State) (pay : Payment) (price : Nat) (rest : Option Status) :
    (paymentRefusal s pay price).or rest =
      if pay = .cash ∧ s.csh.credit < price then some .creditShort
      else if pay = .cash ∧ s.chg.payout.isSome then some .payoutBusy
      else if pay = .card ∧ s.crd.state ≠ .opened then some .noSession
      else if pay = .card ∧ s.csh.credit ≠ 0 then some .cashPresent
      else if pay = .card ∧ s.crd.funds.any (fun f => f < price) = true then some .creditShort
      else rest := by
  cases pay with
  | cash => simp [paymentRefusal, apply_ite (Option.or · rest)]
  | card =>
    by_cases short : s.crd.funds.any (fun f => f < price) = true <;>
      simp [paymentRefusal, apply_ite (Option.or · rest), fundsSuffice_iff, short]
  | free => simp [paymentRefusal]

theorem isHeld_iff (s : State) (e : Selection) :
    isHeld s e = true ↔ e.chilled = true ∧ e.perishable = true ∧ s.clg.hold = true := by
  simp [isHeld, and_assoc]

/-- R194: `n` slots do not fit. -/
theorem canReserve_eq_false_iff {n : Nat} (hn : 0 < n) (s : State) :
    canReserve n s = false ↔ 32 < s.rpq.queue.length + s.rpq.reserved + n := by
  rw [canReserve, decide_eq_false_iff_not, freeSlots]
  omega

theorem vendSlots_pos (s : State) (pay : Payment) : 0 < vendSlots s pay := by
  unfold vendSlots
  split <;> decide

/-- R10: the checks, as one chain. -/
theorem vendRefusal_eq (s : State) (i : Nat) (pay : Payment) :
    vendRefusal s i pay =
      if ¬((s.mgt.mode = .online ∧ pay ≠ .free) ∨ (s.mgt.mode = .service ∧ pay = .free)) then some .wrongMode
      else if s.vnd.ctx.isSome then some .vendBusy
      else if ¬(i < 80 ∧ (selOf s i).state = .active) then some .notVendable
      else if (selOf s i).stock = some 0 then some .soldOut
      else if (selOf s i).chilled = true ∧ (selOf s i).perishable = true ∧ s.clg.hold = true then some .held
      else if (trayOf s (selOf s i).tray).present = false ∨ positionFit s (selOf s i) = false then some .notVendable
      else if pay = .cash ∧ s.csh.credit < (selOf s i).price then some .creditShort
      else if pay = .cash ∧ s.chg.payout.isSome then some .payoutBusy
      else if pay = .card ∧ s.crd.state ≠ .opened then some .noSession
      else if pay = .card ∧ s.csh.credit ≠ 0 then some .cashPresent
      else if pay = .card ∧ s.crd.funds.any (fun f => f < (selOf s i).price) = true then some .creditShort
      else if 32 < s.rpq.queue.length + s.rpq.reserved + vendSlots s pay then some .queueFull
      else none := by
  have mode : (!((s.mgt.mode == .online && pay != .free) || (s.mgt.mode == .service && pay == .free))) = true ↔
      ¬((s.mgt.mode = .online ∧ pay ≠ .free) ∨ (s.mgt.mode = .service ∧ pay = .free)) := by
    simp only [Bool.not_eq_true', ← Bool.not_eq_true, Bool.or_eq_true, Bool.and_eq_true, beq_iff_eq, bne_iff_ne]
  have fit : (!((trayOf s (selOf s i).tray).present && positionFit s (selOf s i))) = true ↔
      (trayOf s (selOf s i).tray).present = false ∨ positionFit s (selOf s i) = false := by
    rw [Bool.not_eq_true', Bool.and_eq_false_iff]
  simp only [vendRefusal, mode, fit, isHeld_iff, ← paymentRefusal_or, ← canReserve_eq_false_iff (vendSlots_pos s pay)]
  cases paymentRefusal s pay (selOf s i).price <;> cases canReserve (vendSlots s pay) s <;> rfl

/-! ## The answer (R10, R179) -/

/-- The answer that a refusal, or its absence, gives to a VEND. -/
def VendAnswered (src : Byte) (r : Option Status) (s t : State) : Prop :=
  match r with
  | some st => RefusedWith src kCommand st s t
  | none => Answered src kCommand (okAnswer []) s t

/-- A chain of refusals is a chain of answers. -/
theorem vendAnswered_ite (src : Byte) (c : Prop) [Decidable c] (st : Status) (r : Option Status) (s t : State) :
    VendAnswered src (if c then some st else r) s t ↔
      if c then RefusedWith src kCommand st s t else VendAnswered src r s t := by
  split <;> rfl

/-- The checks look at nothing that the delivery of their frame has changed. -/
theorem vendRefusal_taken (s : State) (i : Nat) (pay : Payment) : vendRefusal s.taken i pay = vendRefusal s i pay := rfl

/-- A VEND frame whose payment character names a kind is answered by its checks. -/
theorem deliver_vendFrame (src i : Byte) {p : Byte} {pay : Payment} {s : State} (h : Deliverable s)
    (hp : paymentOf p.toNat = some pay) :
    VendAnswered src (vendRefusal s i.toNat pay) s (deliver src kCommand (vendFrame [i, p]) s) := by
  have frame : vendFrame [i, p] s.taken = vendCommand i.toNat pay s.taken := by simp [vendFrame, hp]
  cases hr : vendRefusal s i.toNat pay with
  | some st =>
    exact deliver_refused src kCommand _ h (by rw [frame, vendCommand, vendRefusal_taken, hr])
  | none =>
    have accepted : vendFrame [i, p] s.taken = (okAnswer [], acceptVend i.toNat pay s.taken) := by
      rw [frame, vendCommand, vendRefusal_taken, hr]
    have answered := deliver_answered src kCommand (vendFrame [i, p]) h (by rw [accepted]; simp)
    rwa [accepted] at answered

/-- A payment character that names no kind (R190). -/
theorem deliver_vendFrame_badValue (src i : Byte) {p : Byte} {s : State} (h : Deliverable s) (hp : 2 < p.toNat) :
    RefusedWith src kCommand .badValue s (deliver src kCommand (vendFrame [i, p]) s) :=
  deliver_refused src kCommand _ h (by simp [vendFrame, (paymentOf_eq_none_iff _).2 hp])

/-- Settles O20: the checks as one chain, each refusal delivered as its answer. -/
theorem vendChecksInOrder : Obligations.VendChecksInOrder := by
  intro src i p s h
  refine ⟨_, rfl, ?_⟩
  cases hp : paymentOf p.toNat with
  | none =>
    have above := (paymentOf_eq_none_iff _).1 hp
    rw [if_pos above]
    exact deliver_vendFrame_badValue src i h above
  | some pay =>
    have below : ¬2 < p.toNat := by simp [← paymentOf_eq_none_iff, hp]
    obtain ⟨cash, card, free⟩ := payment_char_iff hp
    have answered := deliver_vendFrame src i h hp
    simp only [vendRefusal_eq, vendAnswered_ite] at answered
    simp only [if_neg below, cash, card, free, ne_eq]
    exact answered

end Sys2Proof.Machine
end

section
/-! SUPPORT. Writes of the tray, coin and bill tables: their checks as one chain, the answer they give, and what they store
(R25, R52, R182). -/

namespace Sys2Proof.Machine

/-! ## The fields of a write (R178, R192) -/

/-- The fields read are those of the table's layout. -/
theorem readFields_length {fs : List FieldForm} {mask : Nat} {vals : List Byte} {gs : List (Option Int)}
    (h : readFields fs mask vals = some gs) : gs.length = fs.length := by
  induction fs generalizing mask vals gs with
  | nil =>
    simp only [readFields, Option.ite_none_right_eq_some, Option.some.injEq] at h
    simp [← h.2]
  | cons f fs ih =>
    simp only [readFields] at h
    split at h
    · split at h
      · obtain ⟨rest, hrest, rfl⟩ := Option.map_eq_some_iff.1 h
        simp [ih hrest]
      · cases h
    · obtain ⟨rest, hrest, rfl⟩ := Option.map_eq_some_iff.1 h
      simp [ih hrest]

theorem readWrite_length {id : Nat} {p : List Byte} {w : Write} (h : readWrite id p = .ok w) :
    w.given.length = (tableForms id).length := by
  unfold readWrite at h
  split at h
  · split at h
    · cases h
    · split at h
      · cases h
      · rename_i gs read
        have stored : w.given = gs := by
          split at h
          · cases h
          · split at h
            · cases h; rfl
            · cases h
        rw [stored, readFields_length read]
  · cases h

/-- A field beyond the layout is not given. -/
theorem has_eq_false_of_le {w : Write} {i : Nat} (h : w.given.length ≤ i) : w.has i = false := by
  simp [Write.has, Write.get, h]

theorem only_iff (w : Write) (allowed : List Nat) : w.only allowed = true ↔ ∀ i, w.has i = true → i ∈ allowed := by
  simp only [Write.only, List.all_eq_true, List.mem_range, Bool.or_eq_true, Bool.not_eq_true', List.contains_iff_mem]
  constructor
  · intro h i given
    by_cases hi : i < w.given.length
    · exact (h i hi).resolve_left (by simp [given])
    · simp [has_eq_false_of_le (Nat.le_of_not_lt hi)] at given
  · intro h i _
    cases given : w.has i with
    | false => exact .inl rfl
    | true => exact .inr (h i given)

/-- In a layout of three fields, only the last is given. -/
theorem only_two_iff {w : Write} (h : w.given.length = 3) :
    w.only [2] = true ↔ ¬(w.has 0 = true ∨ w.has 1 = true) := by
  rw [only_iff, not_or]
  constructor
  · intro only
    exact ⟨fun given => by simpa using only 0 given, fun given => by simpa using only 1 given⟩
  · rintro ⟨no0, no1⟩ i given
    match i with
    | 0 => exact absurd given no0
    | 1 => exact absurd given no1
    | 2 => simp
    | i + 3 => simp [has_eq_false_of_le (show w.given.length ≤ i + 3 by omega)] at given

/-- In a layout of two fields, only the last is given. -/
theorem only_one_iff {w : Write} (h : w.given.length = 2) : w.only [1] = true ↔ ¬w.has 0 = true := by
  rw [only_iff]
  constructor
  · exact fun only given => by simpa using only 0 given
  · intro no0 i given
    match i with
    | 0 => exact absurd given no0
    | 1 => simp
    | i + 2 => simp [has_eq_false_of_le (show w.given.length ≤ i + 2 by omega)] at given

/-- A field that is not given keeps the value held. -/
theorem nat_of_not_has {w : Write} {i : Nat} (h : ¬w.has i = true) (held : Nat) : w.nat i held = held := by
  rw [Write.has, Option.not_isSome_iff_eq_none] at h
  simp [Write.nat, h]

/-! ## The answer to a write (R178, R182) -/

/-- The outcome of a table write's checks: the refusal of the first that fails, or what the stored write leaves. -/
def WriteOutcome (src : Byte) (r : Option Status) (stored : Prop) (s t : State) : Prop :=
  match r with
  | some st => RefusedWith src kTableWrite st s t
  | none => stored

/-- A chain of refusals is a chain of answers. -/
theorem writeOutcome_ite (src : Byte) (c : Prop) [Decidable c] (st : Status) (r : Option Status) (stored : Prop) (s t : State) :
    WriteOutcome src (if c then some st else r) stored s t ↔
      if c then RefusedWith src kTableWrite st s t else WriteOutcome src r stored s t := by
  split <;> rfl

/-- No table reads the Upstream Link. -/
theorem entryFields_ulk (u : State) (x : Ulk) (id ix : Nat) : entryFields { u with ulk := x } id ix = entryFields u id ix := by
  unfold entryFields
  split <;> rfl

/-- A delivered write whose payload is read, by an owner whose checks leave ULK out: the owner's refusal, or the
answer with the entry stored. -/
theorem deliver_ownedWrite (src : Byte) {id : Nat} {p : List Byte} {w : Write} {s : State}
    {refusal : State → Write → Option Status} {store : Write → State → State} (h : Deliverable s) (hr : readWrite id p = .ok w) (hs : refusal s.taken w = refusal s w)
    (hu : (store w s.taken).ulk = s.taken.ulk) :
    let t := deliver src kTableWrite (ownedWrite id refusal store p) s
    WriteOutcome src (refusal s w) (StoredAnswer src id w.index s t ∧ t = { store w s.taken with ulk := t.ulk }) s t := by
  have read := ownedWrite_read hr refusal store s.taken
  rw [hs] at read
  intro t
  cases hc : refusal s w with
  | some st =>
    rw [hc] at read
    exact deliver_refused src kTableWrite _ h read
  | none =>
    rw [hc] at read
    have beside : t = { store w s.taken with ulk := t.ulk } := by
      simp only [t, deliver_eq _ _ _ h, read]
    have answered : Answered src kTableWrite (entryAnswer (store w s.taken) id w.index) s t := by
      have := deliver_answered src kTableWrite (ownedWrite id refusal store p) h (by rw [read]; exact hu)
      rwa [read] at this
    refine ⟨?_, beside⟩
    rw [StoredAnswer, beside, entryFields_ulk, ← beside]
    exact answered

/-- The last branch of a chain of answers, replaced by what follows from it. -/
theorem else_imp {c a b d : Prop} [Decidable c] (k : ¬c → b → d) (h : if c then a else b) : if c then a else d := by
  split at h
  · rwa [if_pos ‹_›]
  · rw [if_neg ‹_›]; exact k ‹_› h

/-! ## What the refreshed flags leave (R58, R68, R71, R135) -/

/-- Only CSH of the state before counts. -/
theorem SameAccount.of_csh {s u t : State} (h : SameAccount u t) (e : u.csh = s.csh) : SameAccount s t := by
  unfold SameAccount at h ⊢
  rwa [e] at h

/-- Only DLK of the state before counts. -/
theorem SameLink.of_dlk {s u t : State} (h : SameLink u t) (e : u.dlk = s.dlk) : SameLink s t := by
  unfold SameLink at h ⊢
  rwa [e] at h

/-- Only CLG of the state before counts. -/
theorem SameCooling.of_clg {s u t : State} (h : SameCooling u t) (e : u.clg = s.clg) : SameCooling s t := by
  unfold SameCooling at h ⊢
  rwa [e] at h

theorem cshRefresh_sameAccount (s : State) : SameAccount s (cshRefresh s) := by
  simp [SameAccount, cshRefresh]

theorem settleCash_sameAccount (before s : State) : SameAccount s (settleCash before s) := by
  obtain ⟨-, same⟩ | ⟨-, refreshed⟩ := settleCash_cases before s
  · rw [same]; rfl
  · rw [refreshed]; exact cshRefresh_sameAccount s

theorem handFrame_sameLink (role : Role) (k : OwnKind) (s : State) : SameLink s (handFrame role k s).1 := by
  unfold handFrame
  repeat' split
  all_goals rfl

theorem sendEnable_sameLink (s : State) : SameLink s (sendEnable s) := by
  unfold sendEnable
  split
  · split
    · exact handFrame_sameLink ..
    · rfl
  · rfl

theorem cshRefresh_sameLink (s : State) : SameLink s (cshRefresh s) := by
  unfold cshRefresh
  exact (sendEnable_sameLink _).of_dlk (by simp)

theorem settleCash_sameLink (before s : State) : SameLink s (settleCash before s) := by
  obtain ⟨-, same⟩ | ⟨-, refreshed⟩ := settleCash_cases before s
  · rw [same]; rfl
  · rw [refreshed]; exact cshRefresh_sameLink s

theorem ecoRefresh_sameCooling (s : State) : SameCooling s (ecoRefresh s) := by
  simp only [ecoRefresh]
  split
  · rfl
  · simp [SameCooling]

theorem selRefresh_sameCooling (s : State) : SameCooling s (selRefresh s) := by
  unfold selRefresh
  exact (ecoRefresh_sameCooling _).of_clg (by simp)

/-! ## Table 2 (R25) -/

/-- R25: the checks of a tray write, as one chain. -/
theorem trayRefusal_eq (s : State) (w : Write) :
    trayRefusal s w =
      if 8 ≤ w.index then some .badIndex
      else if s.vnd.ctx.any (fun v => (selOf s v.selection).tray = w.index) = true then some .entryBusy
      else if s.mgt.mode ≠ .setup then some .wrongMode
      else if w.nat 1 1 = 0 ∨ 10 < w.nat 1 1 then some .badValue
      else none := by
  have busy : (s.vnd.ctx.map fun v => (selOf s v.selection).tray == w.index).getD false =
      s.vnd.ctx.any fun v => (selOf s v.selection).tray = w.index := by
    cases s.vnd.ctx <;> rfl
  have columns : ¬(1 ≤ w.nat 1 1 ∧ w.nat 1 1 ≤ 10) ↔ w.nat 1 1 = 0 ∨ 10 < w.nat 1 1 := by omega
  simp only [trayRefusal, busy, columns]

/-- What a stored tray write leaves (R24, R25). -/
structure TrayStored (w : Write) (s t : State) : Prop where
  entry : trayOf t w.index = trayWritten w (trayOf s w.index)
  others : ∀ j, j ≠ w.index → trayOf t j = trayOf s j
  spd : t.spd = { s.spd with trays := t.spd.trays }
  table : t.sel.table = s.sel.table
  only : ChangesOnly (.ulk :: .spd :: Block.sales) s t
  account : SameAccount s t
  link : SameLink s t
  cooling : SameCooling s t

theorem storeTrayWrite_stored {w : Write} (s : State) (x : Ulk) (h : w.index < 8) :
    TrayStored w s { storeTrayWrite w s.taken with ulk := x } where
  entry := by simp [storeTrayWrite, trayOf, tget_tset_same _ _ _ h]
  others j hj := by simp [storeTrayWrite, trayOf, tget_tset_ne _ _ _ hj]
  spd := by simp [storeTrayWrite]
  table := by simp [storeTrayWrite]
  only := by constructor <;> simp [Block.sales]
  account := (settleCash_sameAccount _ _).of_csh (by simp)
  link := (settleCash_sameLink _ _).of_dlk (by simp)
  cooling := by
    simp only [SameCooling, storeTrayWrite, settleCash_frame]
    exact selRefresh_sameCooling _

/-! ## Table 3 (R52) -/

/-- R52: in a layout whose last field is the enabled flag, the mode permits the write unless it is SAFE, or other than SETUP with
a field before the flag given. -/
theorem cashPermitted_iff {m : Mode} {enabled : Nat} {w : Write} {early : Prop} (h : w.only [enabled] = true ↔ ¬early) :
    (!cashPermitted m enabled w) = true ↔ m = .safe ∨ (m ≠ .setup ∧ early) := by
  cases m <;> simp [cashPermitted, h, ← Bool.not_eq_true]

/-- R52: check 4 is reached only in SETUP or by a write that gives no field before the flag. -/
theorem classRefusal_congr {outside early range p q : Prop} [Decidable outside] [Decidable early] [Decidable range]
    [Decidable p] [Decidable q] (m : Mode) (h : ¬early → (p ↔ q)) :
    (if outside then some Status.badIndex
      else if m = .safe ∨ (m ≠ .setup ∧ early) then some .wrongMode
      else if range then some .badValue
      else if m ≠ .setup ∧ p then some .badValue
      else none) =
    if outside then some .badIndex
    else if m = .safe ∨ (m ≠ .setup ∧ early) then some .wrongMode
    else if range then some .badValue
    else if m ≠ .setup ∧ q then some .badValue
    else none := by
  by_cases given : early
  · cases m <;> simp [given]
  · simp only [h given]

/-- The route a coin write stores is the one its field names. -/
theorem coinWritten_eq (w : Write) (c : CoinClass) :
    coinWritten w c =
      { value := w.nat 0 c.value
        route := if w.has 1 then (if w.nat 1 0 = 255 then none else some (w.nat 1 0)) else c.route
        enabled := w.bool 2 c.enabled } := by
  have cashbox (v : Int) : v = 255 ↔ v.toNat = 255 := by omega
  cases hv : w.get 1 with
  | none => simp [coinWritten, Write.has, hv]
  | some v => simp [coinWritten, Write.has, Write.nat, hv, cashbox]

/-- A coin write that gives neither value nor route keeps both. -/
theorem coinWritten_kept {w : Write} (h : ¬(w.has 0 = true ∨ w.has 1 = true)) (c : CoinClass) :
    coinWritten w c = { c with enabled := w.bool 2 c.enabled } := by
  obtain ⟨no0, no1⟩ := not_or.1 h
  rw [coinWritten_eq, nat_of_not_has no0, if_neg no1]

/-- R52, check 4 of a coin write. -/
theorem coinConsistent_iff (s : State) (w : Write) :
    (!coinConsistent s w) = true ↔
      let c := coinWritten w (coinOf s w.index)
      s.mgt.mode ≠ .setup ∧ w.get 2 = some 1 ∧
        (s.csh.creditLimit < c.value ∨ c.route.any (fun tube => c.value ≠ (tubeOf s tube).denom) = true) := by
  have routed (v : Nat) (r : Option Nat) : (r.map fun t => v == (tubeOf s t).denom).getD true = false ↔
      r.any (fun tube => v ≠ (tubeOf s tube).denom) = true := by
    cases r <;> simp
  simp only [coinConsistent, Bool.not_eq_true', Bool.or_eq_false_iff, Bool.and_eq_false_iff, beq_eq_false_iff_ne,
    bne_eq_false_iff_eq, decide_eq_false_iff_not, Nat.not_le, routed, and_assoc]

/-- R52: the checks of a coin write, as one chain. Check 4 is reached only by writes that keep value and route. -/
theorem coinRefusal_eq (s : State) {w : Write} (h : w.given.length = 3) :
    coinRefusal s w =
      let c := coinOf s w.index
      if 16 ≤ w.index then some .badIndex
      else if s.mgt.mode = .safe ∨ (s.mgt.mode ≠ .setup ∧ (w.has 0 = true ∨ w.has 1 = true)) then some .wrongMode
      else if w.nat 0 1 = 0 ∨ 9999 < w.nat 0 1 then some .badValue
      else if s.mgt.mode ≠ .setup ∧ w.get 2 = some 1 ∧
          (s.csh.creditLimit < c.value ∨ c.route.any (fun tube => c.value ≠ (tubeOf s tube).denom) = true) then
        some .badValue
      else none := by
  have range : ¬(1 ≤ w.nat 0 1 ∧ w.nat 0 1 ≤ 9999) ↔ w.nat 0 1 = 0 ∨ 9999 < w.nat 0 1 := by omega
  simp only [coinRefusal, cashPermitted_iff (only_two_iff h), range, coinConsistent_iff]
  exact classRefusal_congr _ fun kept => by rw [coinWritten_kept kept]

/-- What a stored coin write leaves (R52). -/
structure CoinStored (w : Write) (s t : State) : Prop where
  entry : coinOf t w.index = coinWritten w (coinOf s w.index)
  others : ∀ j, j ≠ w.index → coinOf t j = coinOf s j
  account : SameAccount { s with csh := { s.csh with coins := t.csh.coins } } t
  only : ChangesOnly (.ulk :: Block.cash) s t
  link : SameLink s t

theorem storeCoinWrite_stored {w : Write} (s : State) (x : Ulk) (h : w.index < 16) :
    CoinStored w s { storeCoinWrite w s.taken with ulk := x } where
  entry := by simp [storeCoinWrite, coinOf, tget_tset_same _ _ _ h]
  others j hj := by simp [storeCoinWrite, coinOf, tget_tset_ne _ _ _ hj]
  account := (settleCash_sameAccount _ _).of_csh (by simp [storeCoinWrite])
  only := by constructor <;> simp [Block.cash]
  link := (settleCash_sameLink _ _).of_dlk (by simp)

/-! ## Table 4 (R52) -/

/-- A bill write that does not give the value keeps it. -/
theorem billWritten_kept {w : Write} (h : ¬w.has 0 = true) (b : BillClass) :
    billWritten w b = { b with enabled := w.bool 1 b.enabled } := by
  rw [billWritten, nat_of_not_has h]

/-- R52, check 4 of a bill write. -/
theorem billConsistent_iff (s : State) (w : Write) :
    (!billConsistent s w) = true ↔
      s.mgt.mode ≠ .setup ∧ w.get 1 = some 1 ∧ s.csh.creditLimit < (billWritten w (billOf s w.index)).value := by
  simp [billConsistent, and_assoc]

/-- R52: the checks of a bill write, as one chain. Check 4 is reached only by writes that keep the value. -/
theorem billRefusal_eq (s : State) {w : Write} (h : w.given.length = 2) :
    billRefusal s w =
      let b := billOf s w.index
      if 8 ≤ w.index then some .badIndex
      else if s.mgt.mode = .safe ∨ (s.mgt.mode ≠ .setup ∧ w.has 0 = true) then some .wrongMode
      else if w.nat 0 1 = 0 ∨ 20000 < w.nat 0 1 then some .badValue
      else if s.mgt.mode ≠ .setup ∧ w.get 1 = some 1 ∧ s.csh.creditLimit < b.value then some .badValue
      else none := by
  have range : ¬(1 ≤ w.nat 0 1 ∧ w.nat 0 1 ≤ 20000) ↔ w.nat 0 1 = 0 ∨ 20000 < w.nat 0 1 := by omega
  simp only [billRefusal, cashPermitted_iff (only_one_iff h), range, billConsistent_iff]
  exact classRefusal_congr _ fun kept => by rw [billWritten_kept kept]

/-- What a stored bill write leaves (R52). -/
structure BillStored (w : Write) (s t : State) : Prop where
  entry : billOf t w.index = billWritten w (billOf s w.index)
  others : ∀ j, j ≠ w.index → billOf t j = billOf s j
  account : SameAccount { s with csh := { s.csh with bills := t.csh.bills } } t
  only : ChangesOnly (.ulk :: Block.cash) s t
  link : SameLink s t

theorem storeBillWrite_stored {w : Write} (s : State) (x : Ulk) (h : w.index < 8) :
    BillStored w s { storeBillWrite w s.taken with ulk := x } where
  entry := by simp [storeBillWrite, billOf, tget_tset_same _ _ _ h]
  others j hj := by simp [storeBillWrite, billOf, tget_tset_ne _ _ _ hj]
  account := (settleCash_sameAccount _ _).of_csh (by simp [storeBillWrite])
  only := by constructor <;> simp [Block.cash]
  link := (settleCash_sameLink _ _).of_dlk (by simp)

/-! ## The three writes (R25, R52, R182) -/

/-- Settles O12: for each table, the checks as one chain of answers, and at its end what the stored entry leaves. -/
theorem trayCoinAndBillWritesStore : Obligations.TrayCoinAndBillWritesStore := by
  refine ⟨fun src p w s h hr => ⟨_, rfl, ?_⟩, fun src p w s h hr => ⟨_, rfl, ?_⟩, fun src p w s h hr => ⟨_, rfl, ?_⟩⟩
  · have outcome := deliver_ownedWrite src (refusal := trayRefusal) (store := storeTrayWrite) h hr rfl (by simp)
    simp only [trayRefusal_eq, writeOutcome_ite] at outcome
    refine else_imp (fun inTable => else_imp fun _ => else_imp fun _ => else_imp fun _ => ?_) outcome
    rintro ⟨answered, beside⟩
    obtain ⟨entry, others, spd, table, only, account, link, cooling⟩ :=
      beside ▸ storeTrayWrite_stored (w := w) s _ (Nat.lt_of_not_le inTable)
    exact ⟨answered, entry, others, spd, table, only, account, link, cooling⟩
  · have outcome := deliver_ownedWrite src (refusal := coinRefusal) (store := storeCoinWrite) h hr rfl (by simp)
    simp only [coinRefusal_eq s (readWrite_length hr), writeOutcome_ite] at outcome
    refine else_imp (fun inTable => else_imp fun _ => else_imp fun _ => else_imp fun _ => ?_) outcome
    rintro ⟨answered, beside⟩
    obtain ⟨entry, others, account, only, link⟩ := beside ▸ storeCoinWrite_stored (w := w) s _ (Nat.lt_of_not_le inTable)
    exact ⟨answered, entry.trans (coinWritten_eq _ _), others, account, only, link⟩
  · have outcome := deliver_ownedWrite src (refusal := billRefusal) (store := storeBillWrite) h hr rfl (by simp)
    simp only [billRefusal_eq s (readWrite_length hr), writeOutcome_ite] at outcome
    refine else_imp (fun inTable => else_imp fun _ => else_imp fun _ => else_imp fun _ => ?_) outcome
    rintro ⟨answered, beside⟩
    obtain ⟨entry, others, account, only, link⟩ := beside ▸ storeBillWrite_stored (w := w) s _ (Nat.lt_of_not_le inTable)
    exact ⟨answered, entry, others, account, only, link⟩

end Sys2Proof.Machine
end

section
/-! SUPPORT. HOST BILL MASK, ECONOMY ON and OFF, HOLD RELEASE and AUDIT CLEAR at their frames: the checks, the answer, and what an
accepted command leaves (R73, R134, R135, R186). -/

namespace Sys2Proof.Machine

/-! ## Masks as characters (R192) -/

theorem testBit_foldr_bits (l : List Bool) (k : Nat) :
    (l.foldr (fun (b : Bool) acc => (if b then 1 else 0) + 2 * acc) 0).testBit k = l.getD k false := by
  induction l generalizing k with
  | nil => simp
  | cons b l ih =>
    cases k with
    | zero => cases b <;> simp [Nat.testBit_zero]
    | succ k =>
      rw [List.foldr_cons, Nat.testBit_succ, List.getD_cons_succ, ← ih]
      congr 1
      split <;> omega

theorem getLsbD_maskByte (m : Vector Bool 8) {k : Nat} (h : k < 8) : (maskByte m).getLsbD k = tget m false k := by
  simp only [maskByte, ch, BitVec.getLsbD_ofNat, testBit_foldr_bits, decide_eq_true h, Bool.true_and, tget]

theorem maskByte_maskOf (m : Byte) : maskByte (maskOf m) = m :=
  BitVec.eq_of_getLsbD_eq fun k h => by rw [getLsbD_maskByte _ h, maskOf, tget_tmk _ _ h]

/-! ## An accepted command (R156, R179) -/

/-- A delivered frame that acts: what it leaves, with its answer beside it. -/
theorem deliver_acted (src k : Byte) (act : State → Answer × State) {a : Answer} {s u : State} (h : Deliverable s)
    (acts : act s.taken = (a, u)) (hu : u.ulk = s.taken.ulk) : AnsweredAfter src k a s u (deliver src k act s) := by
  have answered := deliver_answered src k act h (by rw [acts]; exact hu)
  rw [acts] at answered
  refine ⟨answered, ?_⟩
  simp only [deliver_eq _ _ _ h, acts]

theorem noParams_nil (f : State → Answer × State) (s : State) : noParams f [] s = f s := if_pos rfl

/-! ## Reports that stand (R195) -/

/-- Only RPQ counts. -/
theorem Reported.of_rpq {k : StateKey} {s t : State} (h : Reported k s) (e : t.rpq = s.rpq) : Reported k t := by
  unfold Reported at h ⊢
  rwa [e]

theorem Reported.reportIf {k : StateKey} {s : State} (h : Reported k s) (c : Bool) (j : StateKey) :
    Reported k (reportIf c j s) := by
  unfold Machine.reportIf
  split
  · exact h.report j
  · exact h

theorem Reported.reports {α : Type} {k : StateKey} (key : α → StateKey) (l : List α) {s : State} (h : Reported k s) :
    Reported k (l.foldl (fun a i => Machine.report (key i) a) s) := by
  induction l generalizing s with
  | nil => exact h
  | cons i l ih => exact ih (h.report (key i))

theorem Reported.ecoRefresh {k : StateKey} {s : State} (h : Reported k s) : Reported k (ecoRefresh s) := by
  simp only [Machine.ecoRefresh]
  split
  · exact h
  · apply Reported.report; exact h

theorem Reported.selRefresh {k : StateKey} {s : State} (h : Reported k s) : Reported k (selRefresh s) :=
  Reported.ecoRefresh (Reported.reports _ _ h)

theorem Reported.sendEnable {k : StateKey} {s : State} (h : Reported k s) : Reported k (sendEnable s) :=
  h.of_rpq (by simp)

theorem Reported.cshRefresh {k : StateKey} {s : State} (h : Reported k s) : Reported k (cshRefresh s) := by
  apply Reported.sendEnable
  apply Reported.reportIf
  exact h

theorem Reported.settleCash {k : StateKey} {s : State} (h : Reported k s) (before : State) :
    Reported k (settleCash before s) := by
  obtain ⟨-, same⟩ | ⟨-, refreshed⟩ := settleCash_cases before s
  · rwa [same]
  · rw [refreshed]; exact h.cshRefresh

/-! ## HOST BILL MASK (R186, R68, R70) -/

/-- The refreshed flags leave the committed credit as it was (R56). -/
theorem cshRefresh_committed (s : State) : committed (cshRefresh s) = committed s := by
  simp [committed, heldPrice, escrowValue, billOf]

/-- R68: the effective mask as CSH evaluates it, its change-safe flags beside it. -/
theorem cshRefresh_effMask (s : State) {i : Nat} (h : i < 8) :
    tget (cshRefresh s).csh.effMask false i = true ↔
      tget s.csh.hostMask false i = true ∧ (billOf s i).enabled = true ∧ s.mgt.mode = .online ∧
        committed s + (billOf s i).value ≤ s.csh.creditLimit ∧ tget (cshRefresh s).csh.billSafe false i = true := by
  have eff : tget (cshRefresh s).csh.effMask false i = effectiveFlag s i := by simp [cshRefresh, tget_tmk _ _ h]
  have safe : tget (cshRefresh s).csh.billSafe false i = billSafeNow s i := by simp [cshRefresh, tget_tmk _ _ h]
  simp only [eff, safe, effectiveFlag, Bool.and_eq_true, beq_iff_eq, decide_eq_true_eq, and_assoc]

/-- R186: the mask is replaced, and CSH looks at its inputs. -/
def storeHostMask (m : Byte) (s : State) : State := settleCash s { s with csh := { s.csh with hostMask := maskOf m } }

/-- A mask that differs from the one held is a change of CSH's inputs. -/
theorem storeHostMask_changed {m : Byte} {s : State} (h : maskOf m ≠ s.csh.hostMask) :
    storeHostMask m s = cshRefresh { s with csh := { s.csh with hostMask := maskOf m } } := by
  obtain ⟨same, -⟩ | ⟨-, refreshed⟩ := settleCash_cases s { s with csh := { s.csh with hostMask := maskOf m } }
  · exact absurd (congrArg CashInputs.hostMask same).symm h
  · exact refreshed

theorem storeHostMask_hostMask (m : Byte) (s : State) : (storeHostMask m s).csh.hostMask = maskOf m := by
  simp [storeHostMask]

theorem hostBillMaskCommand_eq (m : Byte) (s : State) :
    hostBillMaskCommand m s =
      if s.mgt.mode = .safe then (refuse .wrongMode, s)
      else (okAnswer [m, maskByte (storeHostMask m s).csh.effMask], storeHostMask m s) := by
  simp only [hostBillMaskCommand, storeHostMask, settleCash_csh, maskByte_maskOf]

/-- R68: a mask that differs from the one held is in the effective mask at once. -/
theorem storeHostMask_effMask {m : Byte} {s : State} (changed : maskOf m ≠ s.csh.hostMask) {i : Nat} (h : i < 8) :
    let t := storeHostMask m s
    tget t.csh.effMask false i = true ↔
      m.getLsbD i = true ∧ (billOf t i).enabled = true ∧ t.mgt.mode = .online ∧
        committed t + (billOf t i).value ≤ t.csh.creditLimit ∧ tget t.csh.billSafe false i = true := by
  have named : tget (maskOf m) false i = m.getLsbD i := by rw [maskOf, tget_tmk _ _ h]
  simp only [storeHostMask_changed changed, cshRefresh_effMask _ h, cshRefresh_committed, billOf, cshRefresh_csh,
    cshRefresh_frame, named]

/-- What a HOST BILL MASK that is accepted leaves. -/
structure HostMaskStored (m : Byte) (s t : State) : Prop where
  mask : ∀ i < 8, tget t.csh.hostMask false i = m.getLsbD i
  effective : t.csh.hostMask ≠ s.csh.hostMask → ∀ i < 8, tget t.csh.effMask false i = true ↔
    m.getLsbD i = true ∧ (billOf t i).enabled = true ∧ t.mgt.mode = .online ∧
      committed t + (billOf t i).value ≤ t.csh.creditLimit ∧ tget t.csh.billSafe false i = true
  account : SameAccount { s with csh := { s.csh with hostMask := t.csh.hostMask } } t
  only : ChangesOnly (.ulk :: Block.cash) s t
  link : SameLink s t

theorem storeHostMask_stored (m : Byte) (s : State) (x : Ulk) :
    HostMaskStored m s { storeHostMask m s.taken with ulk := x } where
  mask i h := by rw [storeHostMask_hostMask, maskOf, tget_tmk _ _ h]
  effective changed i h := by
    rw [storeHostMask_hostMask] at changed
    exact storeHostMask_effMask (s := s.taken) changed h
  account := (settleCash_sameAccount _ _).of_csh (by simp [storeHostMask])
  only := by constructor <;> simp [storeHostMask, Block.cash]
  link := (settleCash_sameLink _ _).of_dlk (by simp)

/-! ## ECONOMY ON and ECONOMY OFF (R135) -/

/-- R135: economy's effective flag as CLG evaluates it. -/
theorem ecoRefresh_effective (s : State) :
    (ecoRefresh s).clg = { s.clg with ecoEffective := s.clg.ecoRequested && !s.clg.hold && !s.sel.chilledOnSale } := by
  simp only [ecoRefresh]
  split
  · next same => rw [same]
  · simp

/-- R135: a change of the effective flag is reported. -/
theorem ecoRefresh_reported {s : State} (h : (ecoRefresh s).clg ≠ s.clg) : Reported .economy (ecoRefresh s) := by
  simp only [ecoRefresh] at h ⊢
  split at h
  · exact absurd rfl h
  · rw [if_neg ‹_›]; exact report_reported _ _

/-- What an accepted ECONOMY ON or ECONOMY OFF leaves. -/
structure EconomyRequested (on : Bool) (s t : State) : Prop where
  flags : t.clg = { s.clg with ecoRequested := on, ecoEffective := on && !s.clg.hold && !s.sel.chilledOnSale }
  reported : t.clg ≠ s.clg → Reported .economy t
  only : ChangesOnly [.ulk, .clg, .rpq] s t

theorem requestEconomy_flags (on : Bool) (s : State) : (requestEconomy on s).clg =
    { s.clg with ecoRequested := on, ecoEffective := on && !s.clg.hold && !s.sel.chilledOnSale } := by
  simp [requestEconomy, ecoRefresh_effective]

/-- R135: a change of either flag is reported. -/
theorem requestEconomy_reported {on : Bool} {s : State} (h : (requestEconomy on s).clg ≠ s.clg) :
    Reported .economy (requestEconomy on s) := by
  by_cases same : s.clg.ecoRequested = on
  · have kept : requestEconomy on s = ecoRefresh s := by simp [requestEconomy, reportIf, ← same]
    rw [kept] at h ⊢
    exact ecoRefresh_reported h
  · have changed : requestEconomy on s = ecoRefresh (report .economy { s with clg := { s.clg with ecoRequested := on } }) := by
      simp [requestEconomy, reportIf, same]
    rw [changed]
    exact (report_reported _ _).ecoRefresh

theorem requestEconomy_requested (on : Bool) (s : State) (x : Ulk) :
    EconomyRequested on s { requestEconomy on s.taken with ulk := x } where
  flags := requestEconomy_flags on s.taken
  reported changed := (requestEconomy_reported (s := s.taken) changed).of_rpq rfl
  only := by constructor <;> simp

theorem economyCommand_eq (on : Bool) (s : State) :
    economyCommand on s =
      if s.mgt.mode = .safe then (refuse .wrongMode, s)
      else (okAnswer [flag on, flag (on && !s.clg.hold && !s.sel.chilledOnSale)], requestEconomy on s) := by
  simp only [economyCommand, requestEconomy_flags]

/-! ## HOLD RELEASE (R134) -/

/-- R134: the compartment is not seen cool while BLIND, or with the last filtered value above the safe limit or absent. -/
theorem not_seenCool_iff (s : State) :
    ¬seenCool s = true ↔ s.clg.blind = true ∨ s.clg.filtered.all (fun f => s.clg.settings.safeLimit < f) = true := by
  unfold seenCool
  cases s.clg.filtered with
  | none => simp
  | some f => simp [← Bool.not_eq_true, or_iff_not_imp_left]

theorem holdReleaseCommand_eq (s : State) :
    holdReleaseCommand s =
      if s.mgt.mode = .safe then (refuse .wrongMode, s)
      else if s.clg.blind = true ∨ s.clg.filtered.all (fun f => s.clg.settings.safeLimit < f) = true then (refuse .warm, s)
      else (okAnswer [], clearHold s) := by
  simp only [holdReleaseCommand, ← not_seenCool_iff, ite_not]

/-- What an accepted HOLD RELEASE leaves. -/
structure HoldCleared (s t : State) : Prop where
  hold : t.clg = { s.clg with hold := false, warmTime := 0, ecoEffective := t.clg.ecoEffective }
  reported : s.clg.hold = true → Reported .safetyHold t
  only : ChangesOnly (.ulk :: Block.sales) s t
  account : SameAccount s t
  link : SameLink s t

theorem clearHold_cleared (s : State) (x : Ulk) : HoldCleared s { clearHold s.taken with ulk := x } := by
  by_cases held : s.clg.hold = true
  · have cleared : clearHold s.taken = settleCash s.taken (selRefresh (report .safetyHold
        { s.taken with clg := { s.clg with hold := false, warmTime := 0 } })) := if_pos held
    rw [cleared]
    exact {
      hold := by
        simp only [settleCash_frame]
        exact (selRefresh_sameCooling _).trans (by simp)
      reported := fun _ => (((report_reported _ _).selRefresh).settleCash _).of_rpq rfl
      only := by constructor <;> simp [Block.sales]
      account := (settleCash_sameAccount _ _).of_csh (by simp)
      link := (settleCash_sameLink _ _).of_dlk (by simp) }
  · have cleared : clearHold s.taken = { s.taken with clg := { s.clg with warmTime := 0 } } := if_neg held
    rw [cleared]
    exact {
      hold := by simp [held]
      reported := fun h => absurd h held
      only := by constructor <;> simp [Block.sales]
      account := rfl
      link := rfl }

/-! ## The five commands -/

/-- Settles O18: for each command its refusals, and at the end of them what the accepted command leaves. -/
theorem smallCommandsSetTheirState : Obligations.SmallCommandsSetTheirState := by
  refine ⟨fun src m s h => ⟨_, rfl, ?_⟩, fun src on s h => ?_, fun src s h => ⟨_, rfl, ?_⟩, fun src s h => ⟨_, rfl, ?_⟩⟩
  · have acts : hostBillMaskFrame [m] s.taken = _ := hostBillMaskCommand_eq m s.taken
    split
    · exact deliver_refused src kCommand _ h (by rw [acts, if_pos ‹_›])
    · obtain ⟨answered, beside⟩ := deliver_acted src kCommand _ h (acts.trans (if_neg ‹_›)) (by simp [storeHostMask])
      obtain ⟨mask, effective, account, only, link⟩ := beside ▸ storeHostMask_stored m s _
      exact ⟨beside ▸ answered, mask, effective, account, only, link⟩
  · refine ⟨deliver src kCommand (noParams (economyCommand on) []) s, by cases on <;> rfl, ?_⟩
    have acts := (noParams_nil (economyCommand on) s.taken).trans (economyCommand_eq on s.taken)
    split
    · exact deliver_refused src kCommand _ h (by rw [acts, if_pos ‹_›])
    · obtain ⟨answered, beside⟩ := deliver_acted src kCommand _ h (acts.trans (if_neg ‹_›)) (by simp)
      obtain ⟨flags, reported, only⟩ := beside ▸ requestEconomy_requested on s _
      exact ⟨answered, flags, reported, only⟩
  · have acts := (noParams_nil holdReleaseCommand s.taken).trans (holdReleaseCommand_eq s.taken)
    split
    · exact deliver_refused src kCommand _ h (by rw [acts, if_pos ‹_›])
    split
    · exact deliver_refused src kCommand _ h (by rw [acts, if_neg ‹_›, if_pos ‹_›])
    · obtain ⟨answered, beside⟩ := deliver_acted src kCommand _ h (acts.trans ((if_neg ‹_›).trans (if_neg ‹_›))) (by simp)
      obtain ⟨hold, reported, only, account, link⟩ := beside ▸ clearHold_cleared s _
      exact ⟨answered, hold, reported, only, account, link⟩
  · have acts := noParams_nil auditClearCommand s.taken
    split
    · exact deliver_refused src kCommand _ h (by rw [acts]; exact if_pos ‹_›)
    split
    · exact deliver_refused src kCommand _ h (by rw [acts]; exact (if_neg ‹_›).trans (if_pos ‹_›))
    · obtain ⟨answered, beside⟩ :=
        deliver_acted src kCommand _ h (acts.trans ((if_neg ‹_›).trans (if_neg ‹_›))) rfl
      refine ⟨answered, ?_, ?_⟩
      · rw [beside]; constructor <;> simp
      · rw [beside]; rfl

end Sys2Proof.Machine
end

section
/-! SUPPORT. Commands that their owner checks: the refusal of the first check that fails, or the answer to an accepted command
(R179). -/

namespace Sys2Proof.Machine

/-- The outcome of a command's checks: the refusal of the first that fails, or what the accepted command leaves. -/
def CommandOutcome (src : Byte) (r : Option Status) (accepted : Prop) (s t : State) : Prop :=
  r.elim accepted fun st => RefusedWith src kCommand st s t

/-- A chain of refusals is a chain of answers. -/
theorem commandOutcome_ite (src : Byte) (c : Prop) [Decidable c] (st : Status) (r : Option Status) (accepted : Prop)
    (s t : State) :
    CommandOutcome src (if c then some st else r) accepted s t ↔
      if c then RefusedWith src kCommand st s t else CommandOutcome src r accepted s t := by
  split <;> rfl

/-- A delivered command: the refusal that its checks find, or its answer beside what it does. -/
theorem deliver_checked (src : Byte) {act : State → Answer × State} {r : Option Status} {a : Answer} {s u : State}
    (h : Deliverable s) (acts : act s.taken = r.elim (a, u) fun st => (refuse st, s.taken))
    (hu : u.ulk = s.taken.ulk) :
    let t := deliver src kCommand act s
    CommandOutcome src r (AnsweredAfter src kCommand a s u t) s t := by
  cases r with
  | some st => exact deliver_refused src kCommand act h acts
  | none => exact deliver_acted src kCommand act h acts hu

/-- The receiver apart, a frame acts in the state that it was delivered in. -/
theorem ChangesOnly.of_taken {bs : List Block} {s u : State} (h : ChangesOnly bs s.taken u) :
    ChangesOnly (.ulk :: bs) s u :=
  have receiver : ChangesOnly (.ulk :: bs) s s.taken := by constructor <;> simp
  receiver.trans (h.mono (List.subset_cons_self _ _))

/-- The answer apart, an answered frame leaves what it does. -/
theorem AnsweredAfter.only {src k : Byte} {a : Answer} {bs : List Block} {s u t : State}
    (h : AnsweredAfter src k a s u t) (only : ChangesOnly bs s.taken u) : ChangesOnly (.ulk :: bs) s t := by
  obtain ⟨-, beside⟩ := h
  have answer : ChangesOnly (.ulk :: bs) u t := by rw [beside]; constructor <;> simp
  exact only.of_taken.trans answer

/-- R194: one slot does not fit. -/
theorem canReserve_one_ite {α : Type} (s : State) (x y : α) :
    (if canReserve 1 s then x else y) = if 32 ≤ s.rpq.queue.length + s.rpq.reserved then y else x := by
  have full : ¬canReserve 1 s = true ↔ 32 ≤ s.rpq.queue.length + s.rpq.reserved := by
    rw [Bool.not_eq_true, canReserve_eq_false_iff Nat.one_pos, Nat.lt_succ_iff]
  simp only [← full, ite_not]

end Sys2Proof.Machine
end

section
/-! SUPPORT. A stored tube entry, TUBE COUNT at its frame, and the tube sensors (R78, R79, R81, R82). -/

namespace Sys2Proof.Machine

/-! ## A tube entry (R81) -/

theorem storeTube_chg_eq (i : Nat) (e : Tube) (s : State) :
    (storeTube i e s).chg = { s.chg with tubes := tset s.chg.tubes i e } := by
  simp [storeTube]

/-- R81: a changed entry is reported. -/
theorem storeTube_reported {i : Nat} {e : Tube} {s : State} (changed : e ≠ tubeOf s i) :
    Reported (.tube i) (storeTube i e s) := by
  rw [storeTube, reportIf, if_pos (by simp [changed.symm])]
  exact report_reported _ _

/-- What a tube entry leaves that is stored where CSH looks at its inputs (R58, R81). -/
structure TubeStored (i : Nat) (e : Tube) (s t : State) : Prop where
  entry : tubeOf t i = e
  others : ∀ j, j ≠ i → tubeOf t j = tubeOf s j
  reported : e ≠ tubeOf s i → Reported (.tube i) t
  chg : t.chg = { s.chg with tubes := t.chg.tubes }
  only : ChangesOnly (.chg :: Block.cash) s t
  account : SameAccount s t
  link : SameLink s t

theorem settleTube_stored {i : Nat} (e : Tube) (s : State) (h : i < 6) :
    TubeStored i e s (settleCash s (storeTube i e s)) where
  entry := by simp [tubeOf, storeTube_chg_eq, tget_tset_same _ _ _ h]
  others j hj := by simp [tubeOf, storeTube_chg_eq, tget_tset_ne _ _ _ hj]
  reported changed := (storeTube_reported changed).settleCash s
  chg := by simp [storeTube_chg_eq]
  only := by constructor <;> simp [Block.cash]
  account := (settleCash_sameAccount _ _).of_csh (by simp)
  link := (settleCash_sameLink _ _).of_dlk (by simp)

/-! ## TUBE COUNT (R82) -/

theorem tubeCountCommand_eq (i n : Nat) (s : State) :
    tubeCountCommand i n s =
      (tubeCountRefusal s i).elim (okAnswer [ch (min n (tubeOf s i).capacity)], setTubeCount i n s)
        fun st => (refuse st, s) := by
  unfold tubeCountCommand
  cases tubeCountRefusal s i <;> rfl

/-- R82: the entry as TUBE COUNT sets it. -/
theorem setTubeCount_stored {i : Nat} (n : Nat) (s : State) (h : i < 6) :
    TubeStored i { tubeOf s i with count := min n (tubeOf s i).capacity, state := .ok } s (setTubeCount i n s) :=
  settleTube_stored _ s h

/-- A delivered TUBE COUNT: its checks, and at their end the entry stored. -/
theorem deliver_tubeCount (src tube n : Byte) {s : State} (h : Deliverable s) :
    let t := deliver src kCommand (tubeCountFrame [tube, n]) s
    CommandOutcome src (tubeCountRefusal s tube.toNat)
      (AnsweredAfter src kCommand (okAnswer [ch (min n.toNat (tubeOf s tube.toNat).capacity)]) s
        (setTubeCount tube.toNat n.toNat s.taken) t) s t :=
  deliver_checked src h (tubeCountCommand_eq tube.toNat n.toNat s.taken) (by simp [setTubeCount])

/-! ## The tube sensors (R78, R79) -/

/-- R78: the corrected count, as the model takes it and as the rule states it. -/
theorem lowSensor_count (covered : Bool) (count low : Nat) :
    (if covered then (if count < low then low else count) else (if low ≤ count then low - 1 else count)) =
      if covered then max count low else if count < low then count else low - 1 := by
  cases covered with
  | true => simp only [if_true, max_def_lt]
  | false => simp only [Bool.false_eq_true, if_false, ← Nat.not_lt, ite_not]

/-- R78: a changed level of the low sensor, with the count that it corrects. -/
theorem lowSensorChange_stored (i : Fin 6) {covered : Bool} {s : State} (changed : (tubeOf s i).lowCovered ≠ covered) :
    let u := tubeOf s i
    ∃ t, exec (.lowSensorChange i covered) s = .next t ∧ TubeStored i { u with
      lowCovered := covered
      count := if covered then max u.count u.lowLevel else if u.count < u.lowLevel then u.count else u.lowLevel - 1 } s t := by
  refine ⟨_, ?_, settleTube_stored _ s i.isLt⟩
  rw [← lowSensor_count]
  exact if_neg changed

/-- R79: a changed level of the full sensor, with the count that it corrects. -/
theorem fullSensorChange_stored (i : Fin 6) {covered : Bool} {s : State} (changed : (tubeOf s i).fullCovered ≠ covered) :
    let u := tubeOf s i
    ∃ t, exec (.fullSensorChange i covered) s = .next t ∧ TubeStored i { u with
      fullCovered := covered
      count := if covered then u.capacity else if u.count = u.capacity then u.capacity - 1 else u.count } s t :=
  ⟨_, if_neg changed, settleTube_stored _ s i.isLt⟩

/-- Settles O19: TUBE COUNT's checks as one chain of answers with the entry stored at its end, and the corrections of the two
sensors. -/
theorem tubeCountsAreCorrected : Obligations.TubeCountsAreCorrected := by
  refine ⟨fun src tube n s h => ⟨_, rfl, ?_⟩, fun i covered s => ⟨fun changed => ?_, fun changed => ?_⟩⟩
  · have outcome := deliver_tubeCount src tube n h
    simp only [tubeCountRefusal, commandOutcome_ite] at outcome
    refine else_imp (fun _ => else_imp fun inTable => else_imp fun _ => else_imp fun _ answered => ?_) outcome
    have stored := setTubeCount_stored n.toNat s.taken (Nat.lt_of_not_le inTable)
    have only := answered.only stored.only
    obtain ⟨answer, beside⟩ := answered
    obtain ⟨entry, others, reported, -, -, account, link⟩ := stored
    refine ⟨answer, ?_, ?_, ?_, only, ?_, ?_⟩
    all_goals rw [beside]
    · exact entry
    · exact others
    · exact fun changed => (reported (entry ▸ changed)).of_rpq rfl
    · exact account
    · exact link
  · obtain ⟨t, runs, entry, others, reported, chg, only, account, link⟩ := lowSensorChange_stored i changed
    have corrected := reported fun same => changed (congrArg Tube.lowCovered same).symm
    exact ⟨t, runs, entry, others, corrected, chg, only, account, link⟩
  · obtain ⟨t, runs, entry, others, reported, chg, only, account, link⟩ := fullSensorChange_stored i changed
    have corrected := reported fun same => changed (congrArg Tube.fullCovered same).symm
    exact ⟨t, runs, entry, others, corrected, chg, only, account, link⟩

end Sys2Proof.Machine
end

section
/-! SUPPORT. A new payout, and PAYOUT at its frame (R87, R89). -/

namespace Sys2Proof.Machine

/-! ## A new payout (R87) -/

/-- R87: a payout context as it is created. -/
def Payout.opened (src : PayoutSource) (form : PayoutForm) (amount : Nat) : Payout where
  source := src
  form := form
  requested := amount
  paying := false
  plan := none
  paid := 0
  coins := []
  replans := 0
  tube := 0
  pulse := none
  window := none
  jammed := false
  cut := false

theorem openPayout_chg (src : PayoutSource) (form : PayoutForm) (amount : Nat) (s : State) :
    (openPayout src form amount s).chg = { s.chg with payout := some (.opened src form amount) } := by
  unfold openPayout
  split <;> rfl

/-- R87, R138: outside SAFE the payout's claim stands last. -/
theorem openPayout_lds (src : PayoutSource) (form : PayoutForm) (amount : Nat) {s : State} (h : s.mgt.mode ≠ .safe) :
    (openPayout src form amount s).lds = { s.lds with
      claims := s.lds.claims.filter (fun c => c.kind != .payout) ++ [⟨.payout, 1, s.now, false⟩] } := by
  rw [openPayout, if_neg h]
  rfl

/-! ## PAYOUT (R89) -/

/-- R89: the request that a form character, 0 or 1, and two more characters name. -/
def payoutNamed (form a b : Byte) : PayoutRequest := if form = 1 then .tube a.toNat b.toNat else .amount (val2 a b)

theorem payoutCommand_eq (form a b : Byte) (s : State) :
    payoutCommand [form, a, b] s =
      let r := payoutNamed form a b
      (if form ≠ 0 ∧ form ≠ 1 then some .badValue else payoutRefusal s r).elim
        (okAnswer (w2 (requestedAmount s r)), startServicePayout r s) fun st => (refuse st, s) := by
  by_cases unnamed : form ≠ 0 ∧ form ≠ 1
  · simp only [payoutCommand, payoutRequest, if_pos unnamed, Option.elim_some]
  · have read : payoutRequest [form, a, b] = .ok (payoutNamed form a b) := by
      simp only [payoutRequest, if_neg unnamed, payoutNamed]
    simp only [payoutCommand, read, if_neg unnamed]
    cases payoutRefusal s (payoutNamed form a b) <;> rfl

theorem requestedAmount_named (s : State) (form a b : Byte) :
    requestedAmount s (payoutNamed form a b) =
      if form = 1 then b.toNat * (tubeOf s a.toNat).denom else a.toNat + 256 * b.toNat := by
  unfold payoutNamed
  split <;> rfl

theorem form_named (form a b : Byte) :
    (payoutNamed form a b).form = if form = 1 then .tube a.toNat else .amount := by
  unfold payoutNamed
  split <;> rfl

/-- R89: checks 3 and 4 before the check that follows them, the tube and the coins ahead of the amount. -/
theorem payoutValueRefusal_or (s : State) (form a b : Byte) (rest : Option Status) :
    (payoutValueRefusal s (payoutNamed form a b)).or rest =
      let amount := requestedAmount s (payoutNamed form a b)
      if form = 1 ∧ 6 ≤ a.toNat then some .badIndex
      else if form = 1 ∧
          ((tubeOf s a.toNat).denom = 0 ∨ (tubeOf s a.toNat).state = .jammed ∨ b.toNat = 0 ∨ 100 < b.toNat) then some .badValue
      else if amount = 0 ∨ 65535 < amount then some .badValue
      else rest := by
  by_cases tube : form = 1
  · have coins : ¬(1 ≤ b.toNat ∧ b.toNat ≤ 100) ↔ b.toNat = 0 ∨ 100 < b.toNat := by omega
    simp only [payoutNamed, payoutValueRefusal, requestedAmount, tube, if_true, true_and, coins, ← ite_or, Nat.mul_eq_zero,
      apply_ite (Option.or · rest), Option.some_or, Option.none_or]
    congr 2
    rw [eq_iff_iff]
    tauto
  · have range : ¬(1 ≤ val2 a b ∧ val2 a b ≤ 65535) ↔ val2 a b = 0 ∨ 65535 < val2 a b := by omega
    simp only [payoutNamed, payoutValueRefusal, requestedAmount, tube, if_false, false_and, ← range, ite_not,
      apply_ite (Option.or · rest), Option.some_or, Option.none_or]

/-- R89: the checks, as one chain. -/
theorem payoutRefusal_named (s : State) (form a b : Byte) :
    payoutRefusal s (payoutNamed form a b) =
      let amount := requestedAmount s (payoutNamed form a b)
      if s.mgt.mode ≠ .service ∧ s.mgt.mode ≠ .setup then some .wrongMode
      else if s.chg.payout.isSome then some .payoutBusy
      else if form = 1 ∧ 6 ≤ a.toNat then some .badIndex
      else if form = 1 ∧
          ((tubeOf s a.toNat).denom = 0 ∨ (tubeOf s a.toNat).state = .jammed ∨ b.toNat = 0 ∨ 100 < b.toNat) then some .badValue
      else if amount = 0 ∨ 65535 < amount then some .badValue
      else if 32 ≤ s.rpq.queue.length + s.rpq.reserved then some .queueFull
      else none := by
  have slot : payoutRefusal s (payoutNamed form a b) =
      if s.mgt.mode ≠ .service ∧ s.mgt.mode ≠ .setup then some .wrongMode
      else if s.chg.payout.isSome then some .payoutBusy
      else (payoutValueRefusal s (payoutNamed form a b)).or (if canReserve 1 s then none else some .queueFull) := by
    unfold payoutRefusal
    cases payoutValueRefusal s (payoutNamed form a b) <;> rfl
  simp only [slot, payoutValueRefusal_or, canReserve_one_ite]

/-- R89: a service payout with its slot, before the claims are evaluated. -/
def servicePayout (r : PayoutRequest) (s : State) : State :=
  openPayout .service r.form (requestedAmount s r) (reserve 1 s)

theorem servicePayout_rpq (r : PayoutRequest) (s : State) :
    (servicePayout r s).rpq = { s.rpq with reserved := s.rpq.reserved + 1 } := by
  simp [servicePayout, reserve]

theorem servicePayout_lds (r : PayoutRequest) {s : State} (h : s.mgt.mode ≠ .safe) :
    (servicePayout r s).lds = { s.lds with
      claims := s.lds.claims.filter (fun c => c.kind != .payout) ++ [⟨.payout, 1, s.now, false⟩] } :=
  openPayout_lds _ _ _ h

theorem servicePayout_only (r : PayoutRequest) (s : State) : ChangesOnly [.chg, .lds, .rpq] s (servicePayout r s) := by
  constructor <;> simp [servicePayout]

/-- A delivered PAYOUT: the form, then the checks, then the answer beside the payout that begins. -/
theorem deliver_payout (src form a b : Byte) {s : State} (h : Deliverable s) :
    let t := deliver src kCommand (payoutCommand [form, a, b]) s
    let r := payoutNamed form a b
    CommandOutcome src (if form ≠ 0 ∧ form ≠ 1 then some .badValue else payoutRefusal s r)
      (AnsweredAfter src kCommand (okAnswer (w2 (requestedAmount s r))) s (evaluateClaims (servicePayout r s.taken)) t) s t :=
  deliver_checked src h (payoutCommand_eq form a b s.taken) (by simp [servicePayout])

/-- Settles O36: the checks as one chain of answers, and at its end the payout as it stands before the claims are evaluated. -/
theorem servicePayoutsBegin : Obligations.ServicePayoutsBegin := by
  intro src form a b s h
  refine ⟨servicePayout (payoutNamed form a b) s.taken, _, rfl, ?_⟩
  have outcome := deliver_payout src form a b h
  simp only [payoutRefusal_named, requestedAmount_named, commandOutcome_ite] at outcome
  refine else_imp (fun _ => else_imp fun wrongMode => else_imp fun _ => else_imp fun _ => else_imp fun _ =>
    else_imp fun _ => else_imp fun _ answered => ?_) outcome
  have notSafe : s.mgt.mode ≠ .safe := fun safe => wrongMode (by simp [safe])
  have filed := servicePayout_lds (payoutNamed form a b) (s := s.taken) notSafe
  exact ⟨answered, ⟨_, openPayout_chg .., rfl, form_named .., requestedAmount_named .., rfl, rfl, rfl, rfl, rfl⟩,
    servicePayout_rpq .., by rw [filed]; rfl, congrArg Lds.claims filed, (servicePayout_only ..).of_taken⟩

end Sys2Proof.Machine
end

section
/-! SUPPORT. A payout of the whole credit, and REFUND and the lever that begin one (R54, R63, R87, R88). -/

namespace Sys2Proof.Machine

/-! ## The credit moved into a payout (R54, R87) -/

theorem takeCredit_csh_eq (n : Nat) (s : State) :
    (takeCredit n s).csh = { s.csh with credit := s.csh.credit - n } := by
  unfold takeCredit
  split
  · next none => subst none; rfl
  · simp

/-- R54: an amount that leaves the credit is reported. -/
theorem takeCredit_reported {n : Nat} (h : n ≠ 0) (s : State) : Reported .credit (takeCredit n s) := by
  rw [takeCredit, if_neg h]
  exact report_reported _ _

theorem takeCredit_reserved (n : Nat) (s : State) : (takeCredit n s).rpq.reserved = s.rpq.reserved := by
  unfold takeCredit
  split
  · rfl
  · exact (report_rpq _ _).1

theorem reportIf_reserved (c : Bool) (k : StateKey) (s : State) : (reportIf c k s).rpq.reserved = s.rpq.reserved := by
  unfold reportIf
  split
  · exact (report_rpq _ _).1
  · rfl

theorem settleCash_reserved (before s : State) : (settleCash before s).rpq.reserved = s.rpq.reserved := by
  obtain ⟨-, same⟩ | ⟨-, refreshed⟩ := settleCash_cases before s
  · rw [same]
  · simp [refreshed, cshRefresh, reportIf_reserved]

/-- What the move of the whole credit into a new payout leaves, before the claims are evaluated (R54, R87). -/
structure CreditPaidOut (src : PayoutSource) (s u : State) : Prop where
  chg : u.chg = { s.chg with payout := some (.opened src .amount s.csh.credit) }
  account : SameAccount { s with csh := { s.csh with credit := 0 } } u
  reserved : u.rpq.reserved = s.rpq.reserved + 1
  reported : Reported .credit u
  lds : u.lds = { s.lds with
    claims := s.lds.claims.filter (fun c => c.kind != .payout) ++ [⟨.payout, 1, s.now, false⟩] }
  only : ChangesOnly [.csh, .chg, .lds, .dlk, .rpq] s u
  link : SameLink s u

theorem startCreditPayout_paidOut (src : PayoutSource) {s : State} (credit : s.csh.credit ≠ 0) (mode : s.mgt.mode ≠ .safe) :
    CreditPaidOut src s (startCreditPayout src (reserve 1 s)) where
  chg := by simp [startCreditPayout, openPayout_chg]
  account := (settleCash_sameAccount _ _).of_csh (by simp [takeCredit_csh_eq])
  reserved := by simp [startCreditPayout, settleCash_reserved, takeCredit_reserved]
  reported := ((takeCredit_reported credit (reserve 1 s)).of_rpq (by simp)).settleCash _
  lds := by simp [startCreditPayout, openPayout_lds, mode]
  only := by constructor <;> simp
  link := (settleCash_sameLink _ _).of_dlk (by simp)

/-! ## REFUND (R88) -/

theorem cashVendExists_eq (s : State) : cashVendExists s = s.vnd.ctx.any fun v => v.payment = .cash := by
  unfold cashVendExists
  cases s.vnd.ctx <;> rfl

/-- R88: the checks, as one chain. -/
theorem refundRefusal_eq (s : State) :
    refundRefusal s =
      if s.mgt.mode ≠ .online ∧ s.mgt.mode ≠ .service then some .wrongMode
      else if s.csh.credit = 0 then some .noCredit
      else if s.chg.payout.isSome then some .payoutBusy
      else if s.vnd.ctx.any (fun v => v.payment = .cash) = true then some .vendBusy
      else if 32 ≤ s.rpq.queue.length + s.rpq.reserved then some .queueFull
      else none := by
  simp only [refundRefusal, cashVendExists_eq, canReserve_one_ite]

theorem refundCommand_eq (s : State) :
    refundCommand s =
      (refundRefusal s).elim (okAnswer (w2 s.csh.credit), startRefund s) fun st => (refuse st, s) := by
  unfold refundCommand
  cases refundRefusal s <;> rfl

/-- R63, R88: what a press of the lever asks for is what every check of REFUND leaves. -/
theorem refundRefusal_eq_none_iff (s : State) :
    refundRefusal s = none ↔
      (s.mgt.mode = .online ∨ s.mgt.mode = .service) ∧ 0 < s.csh.credit ∧ s.chg.payout = none ∧
        s.vnd.ctx.any (fun v => v.payment = .cash) = false ∧ s.rpq.queue.length + s.rpq.reserved < 32 := by
  have passes (c : Prop) [Decidable c] (st : Status) (r : Option Status) :
      (if c then some st else r) = none ↔ ¬c ∧ r = none := by
    split <;> simp [*]
  simp only [refundRefusal_eq, passes, ← ne_eq, ← not_or, not_not, Nat.pos_iff_ne_zero, Nat.not_le, Bool.not_eq_true,
    Option.isSome_eq_false_iff, Option.isNone_iff_eq_none, and_true]

/-- A delivered REFUND: its checks, then the answer beside the payout that begins. -/
theorem deliver_refund (src : Byte) {s : State} (h : Deliverable s) :
    let t := deliver src kCommand (noParams refundCommand []) s
    CommandOutcome src (refundRefusal s)
      (AnsweredAfter src kCommand (okAnswer (w2 s.csh.credit)) s
        (evaluateClaims (startCreditPayout .refund (reserve 1 s.taken))) t) s t :=
  deliver_checked src h ((noParams_nil refundCommand s.taken).trans (refundCommand_eq s.taken)) (by simp)

/-! ## The lever (R63) -/

theorem endPayout_leverPressed (s : State) : (endPayout s).csh.leverPressed = s.csh.leverPressed := by
  unfold endPayout endPayoutWith
  split
  · split <;> simp
  · rfl

theorem payFirst_leverPressed (p : Payout) (s : State) : (payFirst p s).csh.leverPressed = s.csh.leverPressed := by
  unfold payFirst
  split
  · simp
  · rw [endPayout_leverPressed]

theorem beginPaying_leverPressed (s : State) : (beginPaying s).csh.leverPressed = s.csh.leverPressed := by
  unfold beginPaying
  split
  · rw [payFirst_leverPressed]
  · rfl

/-- No load that a grant switches on is the lever's (R140). -/
theorem grantClaim_leverPressed (c : Claim) (s : State) : (grantClaim c s).csh.leverPressed = s.csh.leverPressed := by
  unfold grantClaim
  cases c.kind <;> simp [beginPaying_leverPressed]

theorem evaluateUpTo_leverPressed (n : Nat) (s : State) : (evaluateUpTo n s).csh.leverPressed = s.csh.leverPressed := by
  induction n generalizing s with
  | zero => rfl
  | succ n ih =>
    unfold evaluateUpTo
    split
    · rw [ih, grantClaim_leverPressed]
    · rfl

/-- An evaluation of the claims leaves the lever as it reads. -/
theorem evaluateClaims_leverPressed (s : State) : (evaluateClaims s).csh.leverPressed = s.csh.leverPressed :=
  evaluateUpTo_leverPressed _ s

/-- R63: the press is recorded. -/
def State.leverDown (s : State) : State := { s with csh := { s.csh with leverPressed := true } }

/-- R63: a press of a released lever is recorded, and begins a refund where REFUND's checks pass. -/
theorem exec_leverPress {s : State} (released : s.csh.leverPressed = false) :
    exec .leverPress s =
      .next (if refundRefusal s = none then evaluateClaims (startCreditPayout .refund (reserve 1 s.leverDown))
        else s.leverDown) :=
  if_neg (by simp [released])

/-- Settles O35: REFUND's checks as one chain of answers with the payout at its end, and the lever by the same checks. -/
theorem refundsMoveTheWholeCredit : Obligations.RefundsMoveTheWholeCredit := by
  refine ⟨fun src s h => ⟨startCreditPayout .refund (reserve 1 s.taken), _, rfl, ?_⟩,
    fun s released => ⟨startCreditPayout .refund (reserve 1 s.leverDown), _, exec_leverPress released, ?_⟩⟩
  · have outcome := deliver_refund src h
    simp only [refundRefusal_eq, commandOutcome_ite] at outcome
    refine else_imp (fun wrongMode => else_imp fun credit => else_imp fun _ => else_imp fun _ => else_imp fun _ answered =>
      ?_) outcome
    obtain ⟨chg, account, reserved, reported, lds, only, link⟩ :=
      startCreditPayout_paidOut .refund (s := s.taken) credit fun (safe : s.mgt.mode = .safe) => wrongMode (by simp [safe])
    exact ⟨answered, by rw [chg]; rfl, by rw [chg]; rfl, account, reserved, reported, by rw [lds]; rfl, by rw [lds]; rfl,
      only.of_taken, link⟩
  · have checks := refundRefusal_eq_none_iff s
    by_cases passes : refundRefusal s = none
    · obtain ⟨mode, credit, -⟩ := checks.1 passes
      obtain ⟨chg, account, reserved, -, lds, only, -⟩ :=
        startCreditPayout_paidOut .refund (s := s.leverDown) credit.ne' fun (safe : s.mgt.mode = .safe) => by
          simp [safe] at mode
      have recorded : ChangesOnly [.csh, .chg, .lds, .dlk, .rpq] s s.leverDown := by constructor <;> simp [State.leverDown]
      rw [if_pos passes, if_pos (checks.1 passes), evaluateClaims_leverPressed]
      exact ⟨by rw [account]; rfl, rfl, ⟨_, chg, rfl, rfl, rfl, rfl, rfl⟩, by rw [account], reserved,
        by rw [lds]; exact List.getLast?_concat, recorded.trans only⟩
    · rw [if_neg passes, if_neg (mt checks.2 passes)]
      exact ⟨rfl, rfl⟩

end Sys2Proof.Machine
end

section
/-! SUPPORT. Writes of the settings tables 7, 9 and 10: their checks as one chain, and what they store (R31, R55, R114, R152, R182). -/

namespace Sys2Proof.Machine

/-! ## The fields and the index of a write (R182, R192) -/

/-- A field that is given does not depend on the value held. -/
theorem nat_of_has {w : Write} {i : Nat} (h : w.has i = true) (a b : Nat) : w.nat i a = w.nat i b := by
  obtain ⟨v, given⟩ := Option.isSome_iff_exists.1 h
  simp [Write.nat, given]

/-- In a layout of three fields, the middle one is not given. -/
theorem only_zero_two_iff {w : Write} (h : w.given.length = 3) : w.only [0, 2] = true ↔ ¬w.has 1 = true := by
  rw [only_iff]
  constructor
  · exact fun only given => by simpa using only 1 given
  · intro no1 i given
    match i with
    | 0 => simp
    | 1 => exact absurd given no1
    | 2 => simp
    | i + 3 => simp [has_eq_false_of_le (show w.given.length ≤ i + 3 by omega)] at given

/-- R182, check 3: a write to a table of one entry is read only with index 0. -/
theorem readWrite_index_eq_zero {id : Nat} {p : List Byte} {w : Write} (single : id = 7 ∨ id = 8 ∨ id = 10)
    (h : readWrite id p = .ok w) : w.index = 0 := by
  unfold readWrite at h
  split at h
  · next ix _ _ _ =>
    split at h
    · cases h
    · split at h
      · cases h
      · split at h
        · cases h
        · next zero =>
          split at h
          · cases h
            have : ix = 0 := by_contra fun nonzero => zero ⟨single, nonzero⟩
            simp [this]
          · cases h
  · cases h

/-! ## The largest value enabled (R71) -/

theorem lt_foldl_max_iff (l : List Nat) (a x : Nat) : x < l.foldl max a ↔ x < a ∨ ∃ y ∈ l, x < y := by
  induction l generalizing a with
  | nil => simp
  | cons b l ih => simp [ih, or_assoc]

/-- An entry of a table is one of its list. -/
theorem exists_mem_toList_iff {α : Type} {n : Nat} (v : Vector α n) (d : α) (p : α → Prop) :
    (∃ x ∈ v.toList, p x) ↔ ∃ i : Fin n, p (tget v d i) := by
  constructor
  · rintro ⟨x, mem, hx⟩
    obtain ⟨i, hi, rfl⟩ := Vector.mem_iff_getElem.1 (Vector.mem_toList_iff.1 mem)
    exact ⟨⟨i, hi⟩, by rwa [tget_of_lt v d hi]⟩
  · rintro ⟨i, hi⟩
    rw [tget_of_lt v d i.isLt] at hi
    exact ⟨_, Vector.mem_toList_iff.2 (Vector.getElem_mem i.isLt), hi⟩

/-- A value is below the largest of those enabled when one enabled lies above it. -/
theorem lt_foldl_max_enabled_iff {α : Type} {n : Nat} (v : Vector α n) (d : α) (enabled : α → Bool) (value : α → Nat) (x : Nat) :
    x < (v.toList.map fun c => if enabled c then value c else 0).foldl max 0 ↔
      ∃ i : Fin n, enabled (tget v d i) = true ∧ x < value (tget v d i) := by
  have counted (c : α) : x < (if enabled c then value c else 0) ↔ enabled c = true ∧ x < value c := by
    split <;> simp [*]
  rw [← exists_mem_toList_iff v d fun c => enabled c = true ∧ x < value c]
  simp [lt_foldl_max_iff, counted]

/-- R55, R71: a limit below the largest value enabled is below that of an enabled coin or bill class. -/
theorem lt_largestEnabled_iff (s : State) (x : Nat) :
    x < largestEnabled s ↔
      (∃ i : Fin 16, (coinOf s i).enabled = true ∧ x < (coinOf s i).value) ∨
        ∃ i : Fin 8, (billOf s i).enabled = true ∧ x < (billOf s i).value := by
  rw [largestEnabled, lt_max_iff]
  exact or_congr (lt_foldl_max_enabled_iff ..) (lt_foldl_max_enabled_iff ..)

/-! ## Table 7 (R55) -/

theorem vendSettingsPermitted_iff {w : Write} (m : Mode) (h : w.given.length = 3) :
    (!vendSettingsPermitted m w) = true ↔ m = .safe ∨ (m ≠ .setup ∧ w.has 1 = true) := by
  cases m <;> simp [vendSettingsPermitted, only_zero_two_iff h, ← Bool.not_eq_true]

/-- R55: the checks of a vend settings write, as one chain. -/
theorem vendSettingsRefusal_eq (s : State) {w : Write} (h : w.given.length = 3) :
    vendSettingsRefusal s w =
      if s.mgt.mode = .safe ∨ (s.mgt.mode ≠ .setup ∧ w.has 1 = true) then some .wrongMode
      else if w.has 0 = true ∧ (w.nat 0 0 < committed s + moneyOwed s ∨
          (s.mgt.mode ≠ .setup ∧
            ((∃ i : Fin 16, (coinOf s i).enabled = true ∧ w.nat 0 0 < (coinOf s i).value) ∨
              ∃ i : Fin 8, (billOf s i).enabled = true ∧ w.nat 0 0 < (billOf s i).value))) then some .badValue
      else none := by
  simp only [vendSettingsRefusal, vendSettingsPermitted_iff _ h, ← lt_largestEnabled_iff]
  by_cases given : w.has 0 = true
  · simp only [given, true_and, nat_of_has given s.csh.creditLimit 0, ite_or]
  · simp only [given, Bool.false_eq_true, false_and, if_false]

/-- What a stored vend settings write leaves (R55). -/
structure VendSettingsStored (w : Write) (s t : State) : Prop where
  account : SameAccount { s with csh := { s.csh with
    creditLimit := w.nat 0 s.csh.creditLimit
    strict := w.bool 1 s.csh.strict
    multiVend := w.bool 2 s.csh.multiVend } } t
  only : ChangesOnly (.ulk :: Block.cash) s t
  link : SameLink s t

theorem storeVendSettingsWrite_stored (w : Write) (s : State) (x : Ulk) :
    VendSettingsStored w s { storeVendSettingsWrite w s.taken with ulk := x } where
  account := (settleCash_sameAccount _ _).of_csh rfl
  only := by constructor <;> simp [Block.cash]
  link := (settleCash_sameLink _ _).of_dlk rfl

/-! ## Table 9 (R114) -/

/-- R113, R114: with a point written, the raw values do not ascend strictly. -/
theorem not_rawAscending_tset_iff (s : State) (p : Nat × Int) {k : Nat} (h : k < 9) :
    (!rawAscending (tset s.clg.points k p)) = true ↔
      let raw (i : Nat) : Nat := if i = k then p.1 else (pointOf s i).1
      ∃ i : Fin 8, raw (i.val + 1) ≤ raw i.val := by
  have written (i : Nat) :
      (tget (tset s.clg.points k p) (0, 0) i).1 = if i = k then p.1 else (pointOf s i).1 := by
    simp only [tget_tset, h, and_true, apply_ite Prod.fst, pointOf]
  simp [rawAscending, written, Fin.exists_iff]

/-- R114: the checks of a calibration write, as one chain. -/
theorem calibrationRefusal_eq (s : State) (w : Write) :
    calibrationRefusal s w =
      let n := pointWritten w (pointOf s w.index)
      let raw (i : Nat) : Nat := if i = w.index then n.1 else (pointOf s i).1
      if 9 ≤ w.index then some .badIndex
      else if s.mgt.mode = .safe then some .wrongMode
      else if 1023 < n.1 ∨ n.2 < -400 ∨ 800 < n.2 ∨ (∃ i : Fin 8, raw (i.val + 1) ≤ raw i.val) then some .badValue
      else none := by
  by_cases outside : 9 ≤ w.index
  · simp only [calibrationRefusal, if_pos outside]
  · simp only [calibrationRefusal, not_rawAscending_tset_iff s _ (Nat.lt_of_not_le outside), not_and_or, Int.not_le,
      Nat.not_le, ite_or]

/-- What a stored calibration write leaves (R114). -/
structure PointStored (w : Write) (s t : State) : Prop where
  entry : pointOf t w.index = pointWritten w (pointOf s w.index)
  others : ∀ j, j ≠ w.index → pointOf t j = pointOf s j
  clg : t.clg = { s.clg with points := t.clg.points }
  only : ChangesOnly [.ulk, .clg] s t

theorem storeCalibrationWrite_stored {w : Write} (s : State) (x : Ulk) (h : w.index < 9) :
    PointStored w s { storeCalibrationWrite w s.taken with ulk := x } where
  entry := tget_tset_same _ _ _ h
  others _ hj := tget_tset_ne _ _ _ hj
  clg := rfl
  only := by constructor <;> simp

/-! ## Table 10 (R31, R152) -/

/-- R31: the checks of a drive and link settings write, as one chain. -/
theorem driveLinkRefusal_eq (s : State) (w : Write) :
    driveLinkRefusal s w =
      if s.mgt.mode ≠ .setup then some .wrongMode
      else if w.has 0 = true ∧ (w.nat 0 0 < 500 ∨ 2500 < w.nat 0 0) then some .badValue
      else none := by
  have range : ¬(500 ≤ w.nat 0 500 ∧ w.nat 0 500 ≤ 2500) ↔ w.has 0 = true ∧ (w.nat 0 0 < 500 ∨ 2500 < w.nat 0 0) := by
    by_cases given : w.has 0 = true
    · simp only [given, true_and, nat_of_has given 500 0, not_and_or, Nat.not_le]
    · simp [given, nat_of_not_has given]
  simp only [driveLinkRefusal, range]

/-- R152: the data rate stored is the one nearest the field given. -/
theorem fastRate_written (w : Write) (held : Bool) :
    ((w.get 1).map fun v => decide (14400 ≤ v)).getD held = if w.has 1 then decide (14400 ≤ w.nat 1 0) else held := by
  cases given : w.get 1 with
  | none => simp [Write.has, given]
  | some v =>
    have natural : 14400 ≤ v ↔ 14400 ≤ v.toNat := by omega
    simp [Write.has, Write.nat, given, natural]

/-- What a stored drive and link settings write leaves (R31, R152). -/
structure DriveLinkStored (w : Write) (s t : State) : Prop where
  spd : t.spd = { s.spd with jamThreshold := w.nat 0 s.spd.jamThreshold }
  dlk : t.dlk = { s.dlk with
    fastRate := if w.has 1 then decide (14400 ≤ w.nat 1 0) else s.dlk.fastRate
    guardGap := min 4 (w.nat 2 s.dlk.guardGap) }
  only : ChangesOnly [.ulk, .spd, .dlk] s t

theorem storeDriveLinkWrite_stored (w : Write) (s : State) (x : Ulk) :
    DriveLinkStored w s { storeDriveLinkWrite w s.taken with ulk := x } where
  spd := rfl
  dlk := by rw [← fastRate_written]; rfl
  only := by constructor <;> simp

/-! ## The three writes (R55, R114, R31, R152, R182) -/

/-- Settles O15: for each table, the checks as one chain of answers, and at its end what the stored settings leave. -/
theorem settingsWritesCheckThenStore : Obligations.SettingsWritesCheckThenStore := by
  refine ⟨fun src p w s h hr => ⟨_, rfl, ?_⟩, fun src p w s h => ⟨fun hr => ⟨_, rfl, ?_⟩, fun hr => ⟨_, rfl, ?_⟩⟩⟩
  · have outcome := deliver_ownedWrite src (refusal := vendSettingsRefusal) (store := storeVendSettingsWrite) h hr rfl (by simp)
    simp only [vendSettingsRefusal_eq s (readWrite_length hr), writeOutcome_ite,
      readWrite_index_eq_zero (by decide) hr] at outcome
    refine else_imp (fun _ => else_imp fun _ => ?_) outcome
    rintro ⟨answered, beside⟩
    obtain ⟨account, only, link⟩ := beside ▸ storeVendSettingsWrite_stored w s _
    exact ⟨answered, account, only, link⟩
  · have outcome := deliver_ownedWrite src (refusal := calibrationRefusal) (store := storeCalibrationWrite) h hr rfl (by simp)
    simp only [calibrationRefusal_eq, writeOutcome_ite] at outcome
    refine else_imp (fun inTable => else_imp fun _ => else_imp fun _ => ?_) outcome
    rintro ⟨answered, beside⟩
    obtain ⟨entry, others, clg, only⟩ := beside ▸ storeCalibrationWrite_stored (w := w) s _ (Nat.lt_of_not_le inTable)
    exact ⟨answered, entry, others, clg, only⟩
  · have outcome := deliver_ownedWrite src (refusal := driveLinkRefusal) (store := storeDriveLinkWrite) h hr rfl (by simp)
    simp only [driveLinkRefusal_eq, writeOutcome_ite, readWrite_index_eq_zero (by decide) hr] at outcome
    refine else_imp (fun _ => else_imp fun _ => ?_) outcome
    rintro ⟨answered, beside⟩
    obtain ⟨spd, dlk, only⟩ := beside ▸ storeDriveLinkWrite_stored w s _
    exact ⟨answered, spd, dlk, only⟩

end Sys2Proof.Machine
end

section
/-! SUPPORT. What every step keeps: the parts of the state that the invariants read, and the relation of two states of which the later
keeps every invariant that the earlier has. -/

namespace Sys2Proof.Machine

/-! ## The parts that the invariants read -/

/-- The parts of the state that the invariants of every step read. -/
structure Vitals where
  sel : Sel
  trays : Vector Tray 8
  health : Vector Health 80
  rowOn : Option Nat
  colsOn : List Nat
  turn : Option Turn
  sweep : Option Sweep
  drive : Option Nat
  payout : Option Payout
  comp : CompState
  contactor : Bool
  hold : Bool
  ecoRequested : Bool
  ecoEffective : Bool
  lds : Lds
  low : Bool
  mode : Mode
  rpq : Rpq

def State.vitals (s : State) : Vitals where
  sel := s.sel
  trays := s.spd.trays
  health := s.spd.health
  rowOn := s.spd.rowOn
  colsOn := s.spd.colsOn
  turn := s.spd.turn
  sweep := s.spd.sweep
  drive := s.chg.drive
  payout := s.chg.payout
  comp := s.clg.comp
  contactor := s.clg.contactor
  hold := s.clg.hold
  ecoRequested := s.clg.ecoRequested
  ecoEffective := s.clg.ecoEffective
  lds := s.lds
  low := s.cmn.supplyLow
  mode := s.mgt.mode
  rpq := s.rpq

/-- A state with these parts, every other part as after reset. -/
def Vitals.state (v : Vitals) : State := { State.reset with
  sel := v.sel
  spd := { Spd.powerOn with
    trays := v.trays, health := v.health, rowOn := v.rowOn, colsOn := v.colsOn, turn := v.turn, sweep := v.sweep }
  chg := { Chg.powerOn with drive := v.drive, payout := v.payout }
  clg := { Clg.powerOn with
    comp := v.comp, contactor := v.contactor, hold := v.hold, ecoRequested := v.ecoRequested, ecoEffective := v.ecoEffective }
  lds := v.lds
  cmn := { Cmn.powerOn with supplyLow := v.low }
  mgt := { Mgt.powerOn with mode := v.mode }
  rpq := v.rpq }

/-! ## The invariants, read of these parts -/

/-- R141, R144: the invariant of SAFE with the ownership of what is driven that it rests on. -/
def QuietInSafe (s : State) : Prop :=
  SafeIffLow s ∧ SafeIsQuiet s ∧ DrivesOwned s ∧ CoilClaimOwned s ∧ CompressorCovered s

/-- R136: the units granted. -/
def Lds.granted (l : Lds) : Nat := l.vendUnits + l.payoutUnits + l.coilUnits + l.compUnits

/-- R29: a matrix driver that is on has its turn or its check. -/
def MatrixOwned (v : Vitals) : Prop :=
  v.rowOn.isSome ∨ v.colsOn ≠ [] →
    (∃ t, v.turn = some t ∧ t.completed = none) ∨ ∃ w since, v.sweep = some w ∧ w.check = .energized since

@[simp] theorem unitsSafe_iff (v : Vitals) : UnitsSafe v.state ↔ v.lds.granted ≤ 4 ∧ ∀ c ∈ v.lds.claims, c.ofKind := Iff.rfl

@[simp] theorem payoutDriveCovered_iff (v : Vitals) :
    PayoutDriveCovered v.state ↔ (v.drive.isSome → v.payout.isSome ∧ v.lds.payoutUnits = 1) ∧
      ∀ p, v.payout = some p → (p.pulse.isSome → v.lds.payoutUnits = 1) ∧
        (p.window.isSome → p.cut = true ∨ v.lds.payoutUnits = 1) := Iff.rfl

@[simp] theorem compressorCovered_iff (v : Vitals) :
    CompressorCovered v.state ↔
      (v.contactor = true → 1 ≤ v.lds.compUnits) ∧ (v.comp = .disabled → v.contactor = false) := Iff.rfl

@[simp] theorem disabledUnclaimed_iff (v : Vitals) :
    DisabledUnclaimed v.state ↔ (v.comp = .disabled → ∀ c ∈ v.lds.claims, c.kind ≠ .compressor) := Iff.rfl

@[simp] theorem checkCovered_iff (v : Vitals) :
    CheckCovered v.state ↔ ∀ w since, v.sweep = some w → w.check = .energized since → v.lds.coilUnits = 1 := Iff.rfl

@[simp] theorem matrixSafe_iff (v : Vitals) :
    MatrixSafe v.state ↔ (v.rowOn.isSome ↔ v.colsOn ≠ []) ∧ v.colsOn.length ≤ 2 := Iff.rfl

theorem quietInSafe_iff (v : Vitals) :
    QuietInSafe v.state ↔ (v.mode = .safe ↔ v.low = true) ∧
      (v.mode = .safe →
        v.lds.granted = 0 ∧ v.lds.claims = [] ∧ (v.rowOn = none ∧ v.colsOn = [] ∧ v.drive = none ∧ v.contactor = false) ∧
        v.turn = none ∧ (∀ w, v.sweep = some w → w.paused = true ∧ w.check = .none) ∧
        (v.comp = .disabled ∨ v.comp = .guard ∨ v.comp = .idle) ∧
        ∀ p, v.payout = some p → p.cut = true ∧ p.window.isSome ∧ p.pulse = none) ∧
      (MatrixOwned v ∧ (v.drive.isSome → v.payout.isSome)) ∧
      ((∃ c ∈ v.lds.claims, c.kind = .coilCheck) → ∃ w, v.sweep = some w ∧ w.check = .claimed) ∧
      (v.contactor = true → 1 ≤ v.lds.compUnits) ∧ (v.comp = .disabled → v.contactor = false) := Iff.rfl

/-- R193, R195, R196: what `ReportsSafe` says of the queue. -/
def QueueSafe (r : Rpq) : Prop :=
  r.queue.length + r.reserved ≤ 32 ∧ (r.dirty ≠ [] → r.queue.length + r.reserved = 32) ∧
    (∀ k, r.queue.countP (· == .state k) ≤ 1) ∧ (∀ k ∈ r.dirty, Report.state k ∉ r.queue) ∧
    r.dirty.Pairwise fun a b => a.lt b = true

theorem reportsSafe_iff (s : State) : ReportsSafe s ↔ QueueSafe s.rpq :=
  ⟨fun ⟨bound, drained, once, apart, ordered⟩ => ⟨bound, drained, once, apart, ordered⟩,
    fun ⟨bound, drained, once, apart, ordered⟩ => ⟨bound, drained, once, apart, ordered⟩⟩

/-! ## Keeping the invariants -/

/-- `w` keeps every invariant that `v` has. An invariant that reads nothing of what changes is kept as it is: the fields' default. -/
structure Keeps (v w : Vitals) : Prop where
  units : UnitsSafe v.state → UnitsSafe w.state := by exact id
  payout : PayoutDriveCovered v.state → PayoutDriveCovered w.state := by exact id
  compressor : CompressorCovered v.state → CompressorCovered w.state := by exact id
  unclaimed : DisabledUnclaimed v.state → DisabledUnclaimed w.state := by exact id
  check : CheckCovered v.state → CheckCovered w.state := by exact id
  matrix : MatrixSafe v.state → MatrixSafe w.state := by exact id
  reports : QueueSafe v.rpq → QueueSafe w.rpq := by exact id
  sales : SalesCurrent v.state → SalesCurrent w.state := by exact id
  quiet : QuietInSafe v.state → QuietInSafe w.state := by exact id

theorem Keeps.refl (v : Vitals) : Keeps v v where

theorem Keeps.trans {u v w : Vitals} (h : Keeps u v) (k : Keeps v w) : Keeps u w where
  units := k.units ∘ h.units
  payout := k.payout ∘ h.payout
  compressor := k.compressor ∘ h.compressor
  unclaimed := k.unclaimed ∘ h.unclaimed
  check := k.check ∘ h.check
  matrix := k.matrix ∘ h.matrix
  reports := k.reports ∘ h.reports
  sales := k.sales ∘ h.sales
  quiet := k.quiet ∘ h.quiet

theorem Keeps.of_eq {v w : Vitals} (h : w = v) : Keeps v w := h ▸ .refl v

/-- What the invariants do not read may change first. -/
theorem Keeps.after {u v w : Vitals} (h : Keeps v w) (e : v = u) : Keeps u w := e ▸ h

/-- The report queue changes alone. -/
theorem keeps_rpq {v : Vitals} {r : Rpq} (h : QueueSafe v.rpq → QueueSafe r) :
    Keeps v { v with rpq := r } where
  reports := h

/-- The parts that vendability and economy read change alone. -/
theorem keeps_sales {v : Vitals} {sel : Sel} {trays : Vector Tray 8} {health : Vector Health 80} {hold req eff : Bool}
    (h : SalesCurrent v.state → SalesCurrent { v with
      sel := sel, trays := trays, health := health, hold := hold, ecoRequested := req, ecoEffective := eff }.state) :
    Keeps v { v with sel := sel, trays := trays, health := health, hold := hold, ecoRequested := req, ecoEffective := eff } where
  sales := h

/-! ## Claims and grants (R136 to R141) -/

theorem keeps_withdraw (k : ClaimKind) (v : Vitals) :
    Keeps v { v with lds := { v.lds with claims := v.lds.claims.filter fun c => c.kind != k } } where
  units := by simp +contextual [Lds.granted]
  unclaimed := by simp +contextual
  quiet := by simp only [quietInSafe_iff, Lds.granted, MatrixOwned, List.mem_filter]; grind

theorem keeps_releaseVend (v : Vitals) : Keeps v { v with lds := { v.lds with vendUnits := 0 } } where
  units := by simp only [unitsSafe_iff, Lds.granted]; grind
  quiet := by simp only [quietInSafe_iff, Lds.granted, MatrixOwned]; grind

/-- A claim is filed for the units of its kind, in a state that SAFE does not have. -/
theorem keeps_file {k : ClaimKind} {n now : Nat} {v : Vitals} (units : Claim.ofKind ⟨k, n, now, false⟩)
    (awake : QuietInSafe v.state → v.mode ≠ .safe) (start : k = .compressor → v.comp ≠ .disabled)
    (coil : k = .coilCheck → ∃ w, v.sweep = some w ∧ w.check = .claimed) :
    Keeps v { v with lds := { v.lds with
      claims := v.lds.claims.filter (fun c => c.kind != k) ++ [⟨k, n, now, false⟩] } } where
  units := by simp only [unitsSafe_iff, Lds.granted, List.mem_append, List.mem_filter, List.mem_singleton]; grind
  unclaimed := by simp only [disabledUnclaimed_iff, List.mem_append, List.mem_filter, List.mem_singleton]; grind
  quiet := fun quiet => by
    have awake := awake quiet
    simp only [quietInSafe_iff, Lds.granted, MatrixOwned, List.mem_append, List.mem_filter, List.mem_singleton] at quiet ⊢
    grind

/-- Claims become guarding. -/
theorem keeps_claims {v : Vitals} {cs : List Claim}
    (h : ∀ c ∈ cs, ∃ d ∈ v.lds.claims, d.kind = c.kind ∧ d.units = c.units) :
    Keeps v { v with lds := { v.lds with claims := cs } } where
  units := by
    simp only [unitsSafe_iff, Lds.granted]
    refine And.imp_right fun of c mem => ?_
    obtain ⟨d, given, kind, units⟩ := h c mem
    have := of d given
    rwa [Claim.ofKind, kind, units] at this
  unclaimed := by simp only [disabledUnclaimed_iff]; grind
  quiet := by
    have none : v.lds.claims = [] → cs = [] := fun e => List.eq_nil_iff_forall_not_mem.2 fun c mem => by
      obtain ⟨d, given, -⟩ := h c mem; simp [e] at given
    simp only [quietInSafe_iff]
    rintro ⟨low, quiet, owned, coil, compressor⟩
    refine ⟨low, fun safe => ?_, owned, ?_, compressor⟩
    · obtain ⟨granted, claims, rest⟩ := quiet safe
      exact ⟨granted, none claims, rest⟩
    · rintro ⟨c, mem, kind⟩
      obtain ⟨d, given, same, -⟩ := h c mem
      exact coil ⟨d, given, same.trans kind⟩

/-! ## The matrix and the turn (R29, R32, R36) -/

/-- R13, R140: a granted vend starts its motors. -/
theorem keeps_grantVend {v : Vitals} {n : Nat} {row : Nat} {col : Nat} {partner : Option Nat} {t : Turn}
    (awake : v.mode ≠ .safe) (fits : n ≤ 4 - v.lds.granted) (open_ : t.completed = none) :
    Keeps v { v with
      lds := { v.lds with vendUnits := n }, rowOn := some row, colsOn := col :: partner.toList, turn := some t } where
  units := by simp only [unitsSafe_iff, Lds.granted] at fits ⊢; grind
  matrix := fun _ => by cases partner <;> simp
  quiet := by simp only [quietInSafe_iff, Lds.granted, MatrixOwned]; grind

/-- R16: a second turn starts the motors again. -/
theorem keeps_secondTurn {v : Vitals} {row : Nat} {col : Nat} {partner : Option Nat} {t : Turn} (before : v.turn ≠ none)
    (open_ : t.completed = none) :
    Keeps v { v with rowOn := some row, colsOn := col :: partner.toList, turn := some t } where
  matrix := fun _ => by cases partner <;> simp
  quiet := by simp only [quietInSafe_iff, Lds.granted, MatrixOwned]; grind

/-- R39: the window of a completed turn closes. -/
theorem keeps_closeWindow {v : Vitals} {t : Turn} (before : v.turn = some t) (done : t.completed ≠ none) :
    Keeps v { v with turn := none } where
  quiet := by simp only [quietInSafe_iff, Lds.granted, MatrixOwned]; grind

/-- A turn's record changes, and with it no completion. -/
theorem keeps_turn {v : Vitals} {t t' : Turn} (before : v.turn = some t) (same : t'.completed = t.completed) :
    Keeps v { v with turn := some t' } where
  quiet := by simp only [quietInSafe_iff, Lds.granted, MatrixOwned]; grind

/-- R36: a turn's record changes with the drivers off. -/
theorem keeps_turnOff {v : Vitals} {t : Turn} (before : v.turn ≠ none) :
    Keeps v { v with rowOn := none, colsOn := [], turn := some t } where
  matrix := by simp
  quiet := by simp only [quietInSafe_iff, Lds.granted, MatrixOwned]; grind

/-- R35: one motor stops; the row goes off with the last column. -/
theorem keeps_columnOff {v : Vitals} {t t' : Turn} (col : Nat) (before : v.turn = some t) (same : t'.completed = t.completed) :
    Keeps v { v with
      colsOn := v.colsOn.filter (· != col)
      rowOn := if (v.colsOn.filter (· != col)).isEmpty then none else v.rowOn
      turn := some t' } where
  matrix := by
    have shorter := List.length_filter_le (· != col) v.colsOn
    simp only [matrixSafe_iff]
    rintro ⟨rows, cols⟩
    refine ⟨?_, shorter.trans cols⟩
    cases left : v.colsOn.filter (· != col) with
    | nil => simp
    | cons c cs => simp [rows]; rintro e; simp [e] at left
  quiet := by
    have some_left : v.colsOn.filter (· != col) ≠ [] → v.colsOn ≠ [] := by rintro h e; simp [e] at h
    simp only [quietInSafe_iff, Lds.granted, MatrixOwned]; grind

/-! ## The sweep (R44 to R49) -/

/-- R45: the sweep changes, its check energized or not as before. -/
theorem keeps_sweep {v : Vitals} {sweep : Option Sweep}
    (energized : ∀ since, (∃ w, v.sweep = some w ∧ w.check = .energized since) ↔
      ∃ w, sweep = some w ∧ w.check = .energized since)
    (claimed : ∀ w, v.sweep = some w → w.check = .claimed → ∃ w', sweep = some w' ∧ w'.check = .claimed)
    (quiet : v.mode = .safe → (∀ w, v.sweep = some w → w.paused = true ∧ w.check = .none) →
      ∀ w, sweep = some w → w.paused = true ∧ w.check = .none) :
    Keeps v { v with sweep := sweep } where
  check := by
    simp only [checkCovered_iff]
    intro covered w since now on
    obtain ⟨w', before, on'⟩ := (energized since).2 ⟨w, now, on⟩
    exact covered w' since before on'
  quiet := by
    simp only [quietInSafe_iff]
    rintro ⟨low, still, ⟨owned, drive⟩, coil, compressor⟩
    refine ⟨low, fun safe => ?_, ⟨fun on => (owned on).imp_right ?_, drive⟩, fun waits => ?_, compressor⟩
    · obtain ⟨granted, claims, driven, turn, paused, rest⟩ := still safe
      exact ⟨granted, claims, driven, turn, quiet safe paused, rest⟩
    · rintro ⟨w, since, now, on⟩
      obtain ⟨w', now', on'⟩ := (energized since).1 ⟨w, now, on⟩
      exact ⟨w', since, now', on'⟩
    · obtain ⟨w, now, waiting⟩ := coil waits
      exact claimed w now waiting

/-- R45, R46: an energized check ends, its drivers off and its unit released. -/
theorem keeps_checkOff {v : Vitals} {w : Sweep} {since : Time} (before : v.sweep = some w) (on : w.check = .energized since) :
    Keeps v { v with
      sweep := some { w with check := .none }, rowOn := none, colsOn := [], lds := { v.lds with coilUnits := 0 } } where
  units := by simp only [unitsSafe_iff, Lds.granted]; grind
  check := by simp only [checkCovered_iff]; grind
  matrix := by simp
  quiet := by simp only [quietInSafe_iff, Lds.granted, MatrixOwned]; grind

/-- R46: a check that waits for its grant ends, its claim withdrawn. -/
theorem keeps_unclaim {v : Vitals} {w : Sweep} (before : v.sweep = some w) (waits : w.check = .claimed) :
    Keeps v { v with
      sweep := some { w with check := .none }
      lds := { v.lds with claims := v.lds.claims.filter fun c => c.kind != .coilCheck } } where
  units := by simp +contextual [Lds.granted]
  unclaimed := by simp +contextual
  check := by simp only [checkCovered_iff]; grind
  quiet := by simp only [quietInSafe_iff, Lds.granted, MatrixOwned, List.mem_filter]; grind

/-- R45: the grant of a coil check is taken. -/
theorem keeps_energize {v : Vitals} {w : Sweep} {since : Time} {row col : Nat} (awake : v.mode ≠ .safe)
    (fits : UnitsSafe v.state → 1 ≤ 4 - v.lds.granted) :
    Keeps v { v with
      sweep := some { w with check := .energized since }
      rowOn := some row
      colsOn := [col]
      lds := { v.lds with claims := v.lds.claims.filter fun c => c.kind != .coilCheck, coilUnits := 1 } } where
  units := by simp only [unitsSafe_iff, Lds.granted, List.mem_filter] at fits ⊢; grind
  unclaimed := by simp +contextual
  check := by simp
  matrix := by simp
  quiet := by simp only [quietInSafe_iff, Lds.granted, MatrixOwned, List.mem_filter]; grind

/-! ## The payout (R90 to R96) -/

/-- R95: a payout ends. -/
theorem keeps_endPayout (v : Vitals) :
    Keeps v { v with
      payout := none
      drive := none
      lds := { v.lds with payoutUnits := 0, claims := v.lds.claims.filter fun c => c.kind != .payout } } where
  units := by simp only [unitsSafe_iff, Lds.granted, List.mem_filter]; grind
  payout := by simp
  unclaimed := by simp only [disabledUnclaimed_iff, List.mem_filter]; grind
  quiet := by simp only [quietInSafe_iff, Lds.granted, MatrixOwned, List.mem_filter]; grind

/-- A coin in progress for which the payout may hold its unit (R140). -/
def Payout.busy (p : Payout) : Prop := p.pulse.isSome ∨ (p.window.isSome ∧ p.cut = false)

/-- R91: the payout of a coin in progress changes, with no pulse and no window that it did not have. -/
theorem keeps_payout {v : Vitals} {p q : Payout} {d : Option Nat} (before : v.payout = some p) (busy : p.busy)
    (pulse : q.pulse.isSome → p.pulse.isSome) (window : q.window.isSome → p.window.isSome ∧ q.cut = p.cut)
    (drive : d = none ∨ d = v.drive) : Keeps v { v with payout := some q, drive := d } where
  payout := by simp only [payoutDriveCovered_iff]; grind
  quiet := by unfold Payout.busy at busy; simp only [quietInSafe_iff, Lds.granted, MatrixOwned]; grind

/-- R91, R94: a payout whose coin was in progress drives another. -/
theorem keeps_nextCoin {v : Vitals} {p q : Payout} {d : Option Nat} (before : v.payout = some p) (busy : p.busy) :
    Keeps v { v with payout := some q, drive := d } where
  payout := by unfold Payout.busy at busy; simp only [payoutDriveCovered_iff]; grind
  quiet := by unfold Payout.busy at busy; simp only [quietInSafe_iff, Lds.granted, MatrixOwned]; grind

/-- R90: a granted payout drives its first coin. -/
theorem keeps_firstCoin {v : Vitals} {q : Payout} {d : Nat} (awake : v.mode ≠ .safe)
    (fits : UnitsSafe v.state → 1 ≤ 4 - v.lds.granted) :
    Keeps v { v with
      payout := some q
      drive := some d
      lds := { v.lds with claims := v.lds.claims.filter fun c => c.kind != .payout, payoutUnits := 1 } } where
  units := by simp only [unitsSafe_iff, Lds.granted, List.mem_filter] at fits ⊢; grind
  unclaimed := by simp +contextual
  payout := by simp
  quiet := by simp only [quietInSafe_iff, Lds.granted, MatrixOwned, List.mem_filter]; grind

/-- R87: a new payout context. -/
theorem keeps_openPayout {v : Vitals} {q : Payout} (awake : v.mode ≠ .safe) (pulse : q.pulse = none) (window : q.window = none) :
    Keeps v { v with payout := some q } where
  payout := by simp only [payoutDriveCovered_iff]; grind
  quiet := by simp only [quietInSafe_iff, Lds.granted, MatrixOwned]; grind

/-! ## The compressor (R120 to R128) -/

/-- The compressor enters a state other than DISABLED; in SAFE, GUARD or IDLE, unless it stands in a state that SAFE does not have. -/
theorem keeps_comp {v : Vitals} {c : CompState} (enabled : c ≠ .disabled)
    (awake : v.mode = .safe → v.comp = .disabled ∨ v.comp = .guard ∨ v.comp = .idle → c = .guard ∨ c = .idle) :
    Keeps v { v with comp := c } where
  compressor := by simp only [compressorCovered_iff]; grind
  unclaimed := by simp only [disabledUnclaimed_iff]; grind
  quiet := by simp only [quietInSafe_iff, Lds.granted, MatrixOwned]; grind

/-- R122: a stop. -/
theorem keeps_compStop (v : Vitals) : Keeps v { v with contactor := false, lds := { v.lds with compUnits := 0 } } where
  units := by simp only [unitsSafe_iff, Lds.granted]; grind
  compressor := by simp
  quiet := by simp only [quietInSafe_iff, Lds.granted, MatrixOwned]; grind

/-- R121: three of a start's four units go back. -/
theorem keeps_startEnd {v : Vitals} (four : v.lds.compUnits = 4) :
    Keeps v { v with lds := { v.lds with compUnits := 1 } } where
  units := by simp only [unitsSafe_iff, Lds.granted]; grind
  compressor := by simp
  quiet := by simp only [quietInSafe_iff, Lds.granted, MatrixOwned]; grind

/-- R127: the compressor stops and is disabled, its claim withdrawn. -/
theorem keeps_disable (v : Vitals) :
    Keeps v { v with
      comp := .disabled
      contactor := false
      lds := { v.lds with claims := v.lds.claims.filter fun c => c.kind != .compressor, compUnits := 0 } } where
  units := by simp only [unitsSafe_iff, Lds.granted, List.mem_filter]; grind
  compressor := by simp
  unclaimed := by simp
  quiet := by simp only [quietInSafe_iff, Lds.granted, MatrixOwned, List.mem_filter]; grind

/-- R121, R126: the grant of a start is taken. -/
theorem keeps_startCompressor {v : Vitals} {c : CompState} (awake : v.mode ≠ .safe)
    (fits : UnitsSafe v.state → 4 ≤ 4 - v.lds.granted) (starts : c ≠ .disabled) :
    Keeps v { v with
      comp := c
      contactor := true
      lds := { v.lds with claims := v.lds.claims.filter fun c => c.kind != .compressor, compUnits := 4 } } where
  units := by simp only [unitsSafe_iff, Lds.granted, List.mem_filter] at fits ⊢; grind
  compressor := by simp [starts]
  unclaimed := by simp [starts]
  quiet := by simp only [quietInSafe_iff, Lds.granted, MatrixOwned, List.mem_filter]; grind

/-! ## The mode and the resets (R142, R144, R145, R187, R188) -/

/-- A change of mode that neither enters nor leaves SAFE. -/
theorem keeps_mode {v : Vitals} {m : Mode} (before : v.mode ≠ .safe) (after : m ≠ .safe) : Keeps v { v with mode := m } where
  quiet := by simp only [quietInSafe_iff, Lds.granted, MatrixOwned]; grind

/-- R145: SAFE ends with the supply GOOD. -/
theorem keeps_leaveSafe {v : Vitals} {m : Mode} (after : m ≠ .safe) : Keeps v { v with mode := m, low := false } where
  quiet := by simp only [quietInSafe_iff, Lds.granted, MatrixOwned]; grind

/-- R146, R187: the mode of a management reset follows the supply. -/
theorem keeps_resetMode (v : Vitals) : Keeps v { v with mode := if v.low then .safe else .setup } where
  quiet := by simp only [quietInSafe_iff, Lds.granted, MatrixOwned]; grind

/-- R37, R49, R96, R142: a management reset ends the work of every block. -/
theorem keeps_resetWork {v : Vitals} {d : Option Nat} (drive : d = none ∨ (d = v.drive ∧ v.payout = none)) :
    Keeps v { v with
      rowOn := none, colsOn := [], turn := none, sweep := none, payout := none, drive := d
      lds := { v.lds with claims := [], vendUnits := 0, payoutUnits := 0, coilUnits := 0 } } where
  units := by simp only [unitsSafe_iff, Lds.granted]; grind
  payout := by simp only [payoutDriveCovered_iff]; grind
  unclaimed := by simp
  check := by simp
  matrix := by simp
  quiet := by simp only [quietInSafe_iff, Lds.granted, MatrixOwned]; grind

end Sys2Proof.Machine
end

section
/-! SUPPORT. The operations of the report queue, of vendability and of the Cash Unit keep every invariant (R3 to R5, R54, R58, R193 to
R196). -/

namespace Sys2Proof.Machine

/-! ## The order of the keys (R196) -/

theorem StateKey.ext_code {a b : StateKey} (code : a.code = b.code) (subject : a.subject.getD 0 = b.subject.getD 0) : a = b := by
  cases a <;> cases b <;> simp_all [StateKey.code, StateKey.subject]

theorem StateKey.lt_iff (a b : StateKey) :
    a.lt b = true ↔ a.code < b.code ∨ (a.code = b.code ∧ a.subject.getD 0 < b.subject.getD 0) := by
  simp [StateKey.lt]

theorem StateKey.lt_trans {a b c : StateKey} (h : a.lt b = true) (k : b.lt c = true) : a.lt c = true := by
  rw [lt_iff] at *
  omega

theorem StateKey.lt_of_not_lt {a b : StateKey} (ne : a ≠ b) (h : ¬a.lt b = true) : b.lt a = true := by
  have differ : ¬(a.code = b.code ∧ a.subject.getD 0 = b.subject.getD 0) := fun ⟨code, subject⟩ => ne (ext_code code subject)
  rw [lt_iff] at *
  omega

theorem StateKey.not_lt_self (a : StateKey) : ¬a.lt a = true := by simp [lt_iff]

/-- R196: the dirty keys stay in order. -/
theorem insertKey_pairwise (k : StateKey) {l : List StateKey} (h : l.Pairwise fun a b => a.lt b = true) :
    (insertKey k l).Pairwise fun a b => a.lt b = true := by
  induction l with
  | nil => simp [insertKey]
  | cons x l ih =>
    obtain ⟨first, rest⟩ := List.pairwise_cons.1 h
    unfold insertKey
    split
    · exact h
    split
    · next below =>
      refine List.pairwise_cons.2 ⟨fun y mem => ?_, h⟩
      obtain rfl | mem := List.mem_cons.1 mem
      · exact below
      · exact StateKey.lt_trans below (first y mem)
    · next differs notBelow =>
      refine List.pairwise_cons.2 ⟨fun y mem => ?_, ih rest⟩
      obtain rfl | mem := (mem_insertKey k y l).1 mem
      · exact StateKey.lt_of_not_lt differs notBelow
      · exact first y mem

/-! ## The report queue (R193 to R197) -/

/-- R193: while a slot is free no key is dirty. -/
theorem QueueSafe.clean {r : Rpq} (h : QueueSafe r) (free : r.queue.length + r.reserved < 32) : r.dirty = [] :=
  by_contra fun dirty => by have := h.2.1 dirty; omega

/-- R195: a key that is not queued is appended. -/
theorem QueueSafe.push {r : Rpq} {k : StateKey} (h : QueueSafe r) (new : .state k ∉ r.queue)
    (free : r.queue.length + r.reserved < 32) : QueueSafe { r with queue := r.queue ++ [.state k] } := by
  have clean := h.clean free
  obtain ⟨bound, -, once, -, -⟩ := h
  refine ⟨by simp; omega, by simp [clean], fun j => ?_, by simp [clean], by simp [clean]⟩
  by_cases same : k = j
  · subst same
    have absent : r.queue.countP (· == .state k) = 0 := List.countP_eq_zero.2 fun x mem => by
      simp only [beq_iff_eq]; rintro rfl; exact new mem
    simp [List.countP_append, absent]
  · simp [List.countP_append, same, once j]

/-- R193: an event report is appended in a reserved or a free slot. -/
theorem QueueSafe.pushEvent {r : Rpq} {n : Nat} (ev : EventReport) (h : QueueSafe r)
    (slot : (0 < r.reserved ∧ n = r.reserved - 1) ∨ (r.queue.length + r.reserved < 32 ∧ n = r.reserved)) :
    QueueSafe { r with queue := r.queue ++ [.event ev], reserved := n } := by
  have clean := fun free => h.clean (r := r) free
  obtain ⟨bound, drained, once, apart, ordered⟩ := h
  refine ⟨by simp; omega, fun dirty => ?_, fun j => ?_, fun k mem => ?_, ordered⟩
  · have full := drained dirty
    simp; omega
  · simp [List.countP_append, once j]
  · simp [apart k mem]

/-- R196: what a freed slot does. -/
theorem slotFreed_queueSafe {s : State} (bound : s.rpq.queue.length + s.rpq.reserved ≤ 32)
    (drained : s.rpq.dirty ≠ [] → 31 ≤ s.rpq.queue.length + s.rpq.reserved)
    (once : ∀ k, s.rpq.queue.countP (· == .state k) ≤ 1) (apart : ∀ k ∈ s.rpq.dirty, Report.state k ∉ s.rpq.queue)
    (ordered : s.rpq.dirty.Pairwise fun a b => a.lt b = true) : QueueSafe (slotFreed s).rpq := by
  obtain ⟨full, e⟩ | ⟨free, k, ks, dirty, e⟩ | ⟨free, dirty, e⟩ | ⟨free, dirty, e⟩ := slotFreed_cases s <;> rw [e]
  · exact ⟨bound, fun _ => by omega, once, apart, ordered⟩
  · rw [dirty] at apart ordered drained
    obtain ⟨first, rest⟩ := List.pairwise_cons.1 ordered
    have total := drained (List.cons_ne_nil _ _)
    refine ⟨by simp; omega, fun _ => by simp; omega, fun j => ?_, fun j mem => ?_, rest⟩
    · by_cases same : k = j
      · subst same
        have absent : s.rpq.queue.countP (· == .state k) = 0 := List.countP_eq_zero.2 fun x mem => by
          simp only [beq_iff_eq]; rintro rfl; exact apart k (by simp) mem
        simp [List.countP_append, absent]
      · simp [List.countP_append, same, once j]
    · have later := first j mem
      simp only [List.mem_append, List.mem_singleton, Report.state.injEq, not_or]
      exact ⟨apart j (by simp [mem]), by rintro rfl; exact StateKey.not_lt_self _ later⟩
  all_goals exact ⟨by simpa using bound, by simp [dirty], by simpa using once, by simp [dirty], by simp [dirty]⟩

theorem report_keeps (k : StateKey) (s : State) : Keeps s.vitals (report k s).vitals := by
  obtain ⟨-, e⟩ | ⟨new, free, e⟩ | ⟨new, full, e⟩ := report_cases k s <;> rw [e]
  · exact .refl _
  · exact keeps_rpq fun h => h.push new free
  · refine keeps_rpq fun ⟨bound, drained, once, apart, ordered⟩ => ?_
    refine ⟨bound, fun _ => Nat.le_antisymm bound full, once, fun j mem => ?_, insertKey_pairwise k ordered⟩
    obtain rfl | mem := (mem_insertKey k j _).1 mem
    · exact new
    · exact apart j mem

theorem reportIf_keeps (c : Bool) (k : StateKey) (s : State) : Keeps s.vitals (reportIf c k s).vitals := by
  unfold reportIf
  split
  · exact report_keeps k s
  · exact .refl _

theorem reports_keep {α : Type} (key : α → StateKey) (l : List α) (s : State) :
    Keeps s.vitals (l.foldl (fun a i => report (key i) a) s).vitals := by
  induction l generalizing s with
  | nil => exact .refl _
  | cons i l ih => exact (report_keeps _ _).trans (ih _)

/-- R194: slots that RPQ can grant are reserved. -/
theorem reserve_keeps {n : Nat} {s : State} (h : canReserve n s = true) : Keeps s.vitals (reserve n s).vitals := by
  refine keeps_rpq fun safe => ?_
  obtain rfl | pos := Nat.eq_zero_or_pos n
  · exact safe
  have fits : n ≤ 32 - (s.rpq.queue.length + s.rpq.reserved) := of_decide_eq_true h
  have clean := safe.clean (by simp [State.vitals]; omega)
  obtain ⟨bound, -, once, -, -⟩ := safe
  have clean' : s.rpq.dirty = [] := clean
  exact ⟨by simp; omega, by simp [clean'], once, by simp [clean'], by simp [clean']⟩

theorem appendEvent_keeps (ev : EventReport) (s : State) : Keeps s.vitals (appendEvent ev s).vitals := by
  unfold appendEvent freeSlots
  split
  · exact keeps_rpq fun h => h.pushEvent ev (.inr ⟨by simp only [State.vitals]; omega, rfl⟩)
  · exact .refl _

theorem consumeSlot_keeps (ev : EventReport) (s : State) : Keeps s.vitals (consumeSlot ev s).vitals := by
  unfold consumeSlot
  split
  · exact keeps_rpq fun h => h.pushEvent ev (.inl ⟨‹_›, rfl⟩)
  · exact appendEvent_keeps ev s

/-- A slot that frees changes the queue alone, of what the invariants read. -/
theorem slotFreed_vitals (s : State) : (slotFreed s).vitals = { s.vitals with rpq := (slotFreed s).rpq } := by
  simp [State.vitals]

theorem releaseSlot_keeps (s : State) : Keeps s.vitals (releaseSlot s).vitals := by
  obtain ⟨some_reserved, e⟩ | ⟨-, e⟩ := releaseSlot_cases s <;> rw [e]
  · rw [slotFreed_vitals]
    refine keeps_rpq fun ⟨bound, drained, once, apart, ordered⟩ => slotFreed_queueSafe ?_ (fun dirty => ?_) once apart ordered
    · have : s.rpq.queue.length + s.rpq.reserved ≤ 32 := bound
      simp only; omega
    · have : s.rpq.queue.length + s.rpq.reserved = 32 := drained dirty
      simp only; omega
  · exact .refl _

theorem popReport_keeps {s : State} (h : s.rpq.queue ≠ []) : Keeps s.vitals (popReport s).vitals := by
  have pos : 0 < s.rpq.queue.length := List.length_pos_iff.2 h
  have sub : (s.rpq.queue.drop 1).Sublist s.rpq.queue := List.drop_sublist _ _
  rw [popReport, slotFreed_vitals]
  refine keeps_rpq fun ⟨bound, drained, once, apart, ordered⟩ =>
    slotFreed_queueSafe ?_ (fun dirty => ?_) (fun k => sub.countP_le.trans (once k))
      (fun k mem queued => apart k mem (sub.mem queued)) ordered
  · have : s.rpq.queue.length + s.rpq.reserved ≤ 32 := bound
    simp only [List.length_drop]; omega
  · have : s.rpq.queue.length + s.rpq.reserved = 32 := drained dirty
    simp only [List.length_drop]; omega

theorem emptyReports_keeps (s : State) : Keeps s.vitals (emptyReports s).vitals :=
  keeps_rpq fun _ => by simp [QueueSafe, Rpq.powerOn]

/-! ## The credit and the Cash Unit's flags (R54, R58) -/

theorem addCredit_keeps (n : Nat) (s : State) : Keeps s.vitals (addCredit n s).vitals := by
  obtain ⟨-, e⟩ | ⟨-, e⟩ | ⟨-, e⟩ := addCredit_cases n s <;> rw [e]
  · exact .refl _
  · exact (report_keeps _ _).after rfl
  · exact (report_keeps _ _).after rfl

theorem takeCredit_keeps (n : Nat) (s : State) : Keeps s.vitals (takeCredit n s).vitals := by
  unfold takeCredit
  split
  · exact .refl _
  · exact (report_keeps _ _).after rfl

theorem handFrame_keeps (role : Role) (k : OwnKind) (s : State) : Keeps s.vitals (handFrame role k s).1.vitals :=
  .of_eq (by simp [State.vitals])

theorem sendEnable_keeps (s : State) : Keeps s.vitals (sendEnable s).vitals := .of_eq (by simp [State.vitals])

theorem cshRefresh_keeps (s : State) : Keeps s.vitals (cshRefresh s).vitals := by
  unfold cshRefresh
  exact ((reportIf_keeps _ _ _).trans (sendEnable_keeps _)).after rfl

theorem settleCash_keeps (before s : State) : Keeps s.vitals (settleCash before s).vitals := by
  obtain ⟨-, e⟩ | ⟨-, e⟩ := settleCash_cases before s <;> rw [e]
  · exact .refl _
  · exact cshRefresh_keeps s

theorem storeTube_keeps (i : Nat) (t : Tube) (s : State) : Keeps s.vitals (storeTube i t s).vitals :=
  (reportIf_keeps _ _ _).after rfl

end Sys2Proof.Machine
end

section
/-! SUPPORT. What a re-evaluation of vendability leaves is what R3, R4 and R135 give, so that every operation that ends in one keeps every
invariant. -/

namespace Sys2Proof.Machine

/-! ## The lowest price and the chilled flag (R4) -/

/-- The entries of two tables side by side. -/
theorem mem_zip_toList_iff {α β : Type} {n : Nat} (v : Vector α n) (w : Vector β n) (d : α) (e : β) (p : α × β) :
    p ∈ v.toList.zip w.toList ↔ ∃ i < n, p = (tget v d i, tget w e i) := by
  constructor
  · intro mem
    obtain ⟨i, hi, rfl⟩ := List.getElem_of_mem mem
    have lt : i < n := by simpa using hi
    exact ⟨i, lt, by simp [tget_of_lt _ _ lt]⟩
  · rintro ⟨i, hi, rfl⟩
    rw [tget_of_lt _ _ hi, tget_of_lt _ _ hi]
    exact List.mem_iff_getElem.2 ⟨i, by simpa using hi, by simp⟩

/-- One entry taken into the lowest price so far. -/
def lowerPrice (m : Option Nat) (p : Selection × Bool) : Option Nat := if p.2 then minPrice m (some p.1.price) else m

theorem lowerPrice_some {m : Option Nat} {p : Selection × Bool} {x : Nat} (h : lowerPrice m p = some x) :
    (m = some x ∨ (p.2 = true ∧ p.1.price = x)) ∧ (∀ y, m = some y → x ≤ y) ∧ (p.2 = true → x ≤ p.1.price) := by
  obtain ⟨e, _ | _⟩ := p <;> rcases m with _ | m <;> simp [lowerPrice, minPrice] at h ⊢ <;> omega

theorem lowerPrice_none (m : Option Nat) (p : Selection × Bool) : lowerPrice m p = none ↔ m = none ∧ p.2 = false := by
  obtain ⟨e, _ | _⟩ := p <;> cases m <;> simp [lowerPrice, minPrice]

/-- R4: the lowest price over a list of entries with their flags. -/
theorem foldl_lowerPrice_some {l : List (Selection × Bool)} {m : Option Nat} {x : Nat} (h : l.foldl lowerPrice m = some x) :
    (m = some x ∨ ∃ p ∈ l, p.2 = true ∧ p.1.price = x) ∧ (∀ y, m = some y → x ≤ y) ∧
      ∀ p ∈ l, p.2 = true → x ≤ p.1.price := by
  induction l generalizing m with
  | nil => cases h; simp
  | cons p l ih =>
    obtain ⟨found, least, below⟩ := ih h
    have first (y : Nat) (e : lowerPrice m p = some y) := lowerPrice_some e
    refine ⟨?_, fun y e => ?_, ?_⟩
    · obtain e | ⟨q, mem, price⟩ := found
      · exact (first x e).1.imp id fun of => ⟨p, by simp, of⟩
      · exact .inr ⟨q, by simp [mem], price⟩
    · cases e' : lowerPrice m p with
      | none => simp [((lowerPrice_none m p).1 e').1] at e
      | some z => exact (least z e').trans ((first z e').2.1 y e)
    · rintro q mem flagged
      obtain rfl | mem := List.mem_cons.1 mem
      · cases e' : lowerPrice m q with
        | none => simp [((lowerPrice_none m q).1 e').2] at flagged
        | some z => exact (least z e').trans ((first z e').2.2 flagged)
      · exact below q mem flagged

theorem foldl_lowerPrice_none (l : List (Selection × Bool)) (m : Option Nat) :
    l.foldl lowerPrice m = none ↔ m = none ∧ ∀ p ∈ l, p.2 = false := by
  induction l generalizing m with
  | nil => simp
  | cons p l ih => simp [ih, lowerPrice_none, and_assoc]

theorem lowestPrice_eq (table : Vector Selection 80) (flags : Vector Bool 80) :
    lowestPrice table flags = (table.toList.zip flags.toList).foldl lowerPrice none := rfl

/-! ## What a re-evaluation leaves (R3 to R5, R135) -/

theorem ecoRefresh_sel (s : State) : (ecoRefresh s).sel = s.sel := by simp

/-- R3 to R5: SEL as a re-evaluation leaves it. -/
theorem selRefresh_sel_eq (s : State) :
    (selRefresh s).sel = { s.sel with
      vendable := tmap (isVendable s) s.sel.table
      pMin := lowestPrice s.sel.table (tmap (isVendable s) s.sel.table)
      chilledOnSale := anyChilled s.sel.table (tmap (isVendable s) s.sel.table) } := by
  simp [selRefresh]

/-- R135: economy as a re-evaluation leaves it. -/
theorem selRefresh_eco (s : State) :
    (selRefresh s).clg.ecoEffective = (s.clg.ecoRequested && !s.clg.hold && !(selRefresh s).sel.chilledOnSale) := by
  rw [selRefresh_sel_eq]
  simp [selRefresh, ecoRefresh_effective]

/-- What `OnSale` reads of the state. -/
theorem onSale_congr {s t : State} (trays : t.spd.trays = s.spd.trays) (health : t.spd.health = s.spd.health)
    (hold : t.clg.hold = s.clg.hold) (e : Selection) : OnSale t e ↔ OnSale s e := by
  simp only [OnSale, positionOf, healthAt, trayOf, trays, health, hold]

theorem selRefresh_salesCurrent (s : State) : SalesCurrent (selRefresh s) := by
  have table : (selRefresh s).sel.table = s.sel.table := by simp
  have vendable : (selRefresh s).sel.vendable = tmap (isVendable s) s.sel.table := by rw [selRefresh_sel_eq]
  have entry (i : Nat) : selOf (selRefresh s) i = selOf s i := by rw [selOf, table, selOf]
  have mem (p : Selection × Bool) : p ∈ s.sel.table.toList.zip (tmap (isVendable s) s.sel.table).toList ↔
      ∃ i < 80, p = (selOf (selRefresh s) i, tget (selRefresh s).sel.vendable false i) := by
    rw [mem_zip_toList_iff _ _ Selection.powerOn false, vendable]
    simp only [entry]
    rfl
  have pMin : (selRefresh s).sel.pMin = _ := (congrArg Sel.pMin (selRefresh_sel_eq s)).trans (lowestPrice_eq _ _)
  refine ⟨fun i hi => ?_, fun m least => ?_, ?_, ?_, ?_⟩
  · rw [vendable, tget_tmap_lt _ _ Selection.powerOn _ hi, entry, onSale_congr (s := s) (t := selRefresh s) (by simp) (by simp) (by simp)]
    exact isVendable_iff s _
  · obtain ⟨found, -, below⟩ := foldl_lowerPrice_some (pMin.symm.trans least)
    obtain ⟨p, at_, flagged, price⟩ := found.resolve_left (by simp)
    obtain ⟨i, hi, rfl⟩ := (mem p).1 at_
    exact ⟨⟨i, hi, flagged, price⟩, fun j hj on => below _ ((mem _).2 ⟨j, hj, rfl⟩) on⟩
  · rw [pMin, foldl_lowerPrice_none]
    simp only [true_and, mem]
    exact ⟨fun h i hi => h _ ⟨i, hi, rfl⟩, by rintro h _ ⟨i, hi, rfl⟩; exact h i hi⟩
  · rw [show (selRefresh s).sel.chilledOnSale = _ from congrArg Sel.chilledOnSale (selRefresh_sel_eq s), anyChilled]
    simp only [List.any_eq_true, mem, Bool.and_eq_true, and_assoc]
    exact ⟨by rintro ⟨_, ⟨i, hi, rfl⟩, h⟩; exact ⟨i, hi, h⟩, by rintro ⟨i, hi, h⟩; exact ⟨_, ⟨i, hi, rfl⟩, h⟩⟩
  · rw [selRefresh_eco]
    simp [and_assoc]

/-! ## Operations that end in a re-evaluation -/

/-- `w` differs from `v` in what vendability reads and in reports alone. -/
structure Resold (v w : Vitals) : Prop where
  queue : QueueSafe v.rpq → QueueSafe w.rpq
  rest : w = { v with
    sel := w.sel, trays := w.trays, health := w.health, hold := w.hold, ecoRequested := w.ecoRequested
    ecoEffective := w.ecoEffective, rpq := w.rpq }

theorem Resold.refl (v : Vitals) : Resold v v := ⟨id, rfl⟩

theorem Resold.trans {u v w : Vitals} (h : Resold u v) (k : Resold v w) : Resold u w :=
  ⟨k.queue ∘ h.queue, by rw [k.rest, h.rest]⟩

theorem report_resold (k : StateKey) (s : State) : Resold s.vitals (report k s).vitals :=
  ⟨(report_keeps k s).reports, by simp [State.vitals]⟩

theorem reportIf_resold (c : Bool) (k : StateKey) (s : State) : Resold s.vitals (reportIf c k s).vitals :=
  ⟨(reportIf_keeps c k s).reports, by simp [State.vitals]⟩

theorem storeSelection_resold (i : Nat) (e : Selection) (s : State) : Resold s.vitals (storeSelection i e s).vitals :=
  ⟨fun safe => (reportIf_keeps _ _ { s with sel := { s.sel with table := tset s.sel.table i e } }).reports safe,
    by simp [State.vitals]⟩

theorem storeHealth_resold (tray col : Nat) (h : Health) (s : State) : Resold s.vitals (storeHealth tray col h s).vitals := by
  refine ⟨fun safe => ?_, by simp [State.vitals]⟩
  unfold storeHealth
  split
  · exact safe
  · refine (report_keeps _ _).reports ?_
    exact safe

theorem storeFindings_resold (tray : Nat) (ms : List Motor) (s : State) :
    Resold s.vitals (ms.foldl (storeFinding tray) s).vitals := by
  induction ms generalizing s with
  | nil => exact .refl _
  | cons m ms ih =>
    refine Resold.trans ?_ (ih _)
    unfold storeFinding
    split
    · exact storeHealth_resold ..
    · exact .refl _

theorem ecoRefresh_resold (s : State) : Resold s.vitals (ecoRefresh s).vitals := by
  refine ⟨fun safe => ?_, by simp [State.vitals]⟩
  simp only [ecoRefresh]
  split
  · exact safe
  · refine (report_keeps _ _).reports ?_
    exact safe

theorem selRefresh_resold (s : State) : Resold s.vitals (selRefresh s).vitals := by
  refine Resold.trans ?_ (ecoRefresh_resold _)
  exact ⟨fun safe => (reports_keep _ _ _).reports safe, by simp [State.vitals]⟩

/-- What is sold changes, and with it no invariant but that of the sales. -/
theorem Resold.keeps_of {v w : Vitals} (h : Resold v w) (sales : SalesCurrent v.state → SalesCurrent w.state) : Keeps v w := by
  have rest := h.rest
  rw [rest] at sales ⊢
  exact { reports := h.queue, sales := sales }

theorem selRefresh_keeps {s u : State} (h : Resold s.vitals u.vitals) : Keeps s.vitals (selRefresh u).vitals :=
  (h.trans (selRefresh_resold u)).keeps_of fun _ => selRefresh_salesCurrent u

end Sys2Proof.Machine
end

section
/-! SUPPORT. The operations of the Spiral Drive, of the Cooling Unit and of the payouts keep every invariant (chapters 2, 4 and 6). -/

namespace Sys2Proof.Machine

/-! ## Claims (R137) -/

theorem withdrawClaim_keeps (k : ClaimKind) (s : State) : Keeps s.vitals (withdrawClaim k s).vitals := keeps_withdraw k s.vitals

theorem fileVend_keeps {n : Nat} {s : State} (units : n = 1 ∨ n = 2) (awake : s.mgt.mode ≠ .safe) :
    Keeps s.vitals (fileClaim .vend n s).vitals :=
  keeps_file (by obtain rfl | rfl := units <;> simp [Claim.ofKind]) (fun _ => awake) nofun nofun

theorem filePayout_keeps {s : State} (awake : s.mgt.mode ≠ .safe) : Keeps s.vitals (fileClaim .payout 1 s).vitals :=
  keeps_file (by simp [Claim.ofKind]) (fun _ => awake) nofun nofun

theorem fileStart_keeps {s : State} (awake : QuietInSafe s.vitals.state → s.mgt.mode ≠ .safe) (enabled : s.clg.comp ≠ .disabled) :
    Keeps s.vitals (fileStart s).vitals :=
  keeps_file (by simp [Claim.ofKind]) awake (fun _ => enabled) nofun

/-! ## Turns (R34 to R37) -/

/-- R36: a turn completes. -/
theorem completeTurn_keeps (r : TurnResult) (t : Turn) {s : State} (before : s.spd.turn ≠ none) :
    Keeps s.vitals (completeTurn r t s).vitals := by
  unfold completeTurn
  let s1 := driversOff { s with spd := { s.spd with turn := some { t with completed := some (r, s.now) } } }
  have off : Keeps s.vitals s1.vitals := keeps_turnOff (v := s.vitals) before
  exact (off.trans (selRefresh_keeps (s := s1) (storeFindings_resold _ _ _))).trans (settleCash_keeps _ _)

theorem motorFault_keeps (col : Nat) (f : Option Health) (r : TurnResult) (t : Turn) {s : State} (before : s.spd.turn ≠ none) :
    Keeps s.vitals (motorFault col f r t s).vitals := completeTurn_keeps _ _ before

theorem motorHome_keeps (col : Nat) {t : Turn} {s : State} (before : s.spd.turn = some t) :
    Keeps s.vitals (motorHome col t s).vitals := by
  simp only [motorHome]
  split
  · exact keeps_columnOff (v := s.vitals) (t := t) col before rfl
  · exact completeTurn_keeps _ _ (by simp [before])

theorem runningMotor_turn {col : Nat} {s : State} {t : Turn} {m : Motor} (h : runningMotor col s = some (t, m)) :
    s.spd.turn = some t := by
  unfold runningMotor at h
  split at h
  · next t' e =>
    split at h
    · split at h
      · split at h
        · cases h; exact e
        · cases h
      · cases h
    · cases h
  · cases h

/-! ## The sweep (R44 to R49) -/

/-- R47, R48: a sweep between two checks ends. -/
theorem sweepFinish_keeps {stopped : Bool} {w w' : Sweep} {s : State} (before : s.spd.sweep = some w') (none : w'.check = .none) :
    Keeps s.vitals (sweepFinish stopped w s).vitals := by
  have gone : Keeps s.vitals { s.vitals with sweep := .none } :=
    keeps_sweep (v := s.vitals) (by simp [State.vitals, before, none]) (by simp [State.vitals, before, none]) (by simp)
  exact gone.trans ((consumeSlot_keeps _ _).after rfl)

/-- R44, R45: a running sweep between two checks moves on. -/
theorem keeps_cursor {v : Vitals} {w w' : Sweep} (before : v.sweep = some w) (running : w.paused = false)
    (none : w.check ≠ .claimed) (same : ∀ since, w.check = .energized since ↔ w'.check = .energized since) :
    Keeps v { v with sweep := some w' } :=
  keeps_sweep (by simp [before, same]) (by simp [before, none]) (by simp [before, running])

theorem sweepLook_keeps (n : Nat) (s : State) : Keeps s.vitals (sweepLook n s).vitals := by
  induction n generalizing s with
  | zero => exact .refl _
  | succ n ih =>
    unfold sweepLook
    split
    · exact .refl _
    · next w before =>
      split
      · exact .refl _
      · next looks =>
        obtain ⟨running, none⟩ := not_or.1 looks
        replace running : w.paused = false := Bool.eq_false_iff.2 running
        replace none : w.check = .none := not_not.1 none
        split
        · split
          · exact sweepFinish_keeps before none
          · next t c _ =>
            exact Keeps.trans (keeps_cursor (v := s.vitals) before running (by simp [none])
              (w' := { w with cursorTray := t, cursorCol := c }) (fun _ => .rfl)) ((ih _).after rfl)
        · refine Keeps.trans (keeps_cursor (v := s.vitals) before running (by simp [none]) (w' := { w with check := .claimed })
            (by simp [none])) ?_
          refine keeps_file (v := { s.vitals with sweep := some { w with check := .claimed } }) (by simp [Claim.ofKind]) ?_ nofun
            fun _ => ⟨_, rfl, rfl⟩
          rintro ⟨-, quiet, -⟩ safe
          obtain ⟨-, -, -, -, idle, -⟩ := quiet safe
          exact absurd (idle _ rfl).2 nofun

theorem sweepWalk_keeps (s : State) : Keeps s.vitals (sweepWalk s).vitals := sweepLook_keeps 80 s

theorem endCheck_keeps (s : State) : Keeps s.vitals (endCheck s).vitals := by
  unfold endCheck
  split
  · next w before =>
    dsimp only
    split
    · next none => exact .of_eq (by simp [State.vitals, before, ← none])
    · next claimed => exact keeps_unclaim (v := s.vitals) before claimed
    · next since on => exact keeps_checkOff (v := s.vitals) before on
  · exact .refl _

/-- R46, R47: a check that ends leaves the sweep between two checks. -/
theorem endCheck_sweep (s : State) : (endCheck s).spd.sweep = s.spd.sweep.map fun w => { w with check := .none } := by
  unfold endCheck
  cases before : s.spd.sweep with
  | none => simpa using before
  | some w =>
    obtain check | check | ⟨since, check⟩ : w.check = .none ∨ w.check = .claimed ∨ ∃ since, w.check = .energized since := by
      cases w.check <;> simp
    all_goals simp [check]

theorem endCheck_none {s : State} {w : Sweep} (h : (endCheck s).spd.sweep = some w) : w.check = .none := by
  rw [endCheck_sweep] at h
  obtain ⟨_, -, rfl⟩ := Option.map_eq_some_iff.1 h
  rfl

theorem pauseSweep_keeps (s : State) : Keeps s.vitals (pauseSweep s).vitals := by
  refine (endCheck_keeps s).trans ?_
  simp only [pauseSweep]
  split
  · next w before =>
    refine keeps_sweep (v := (endCheck s).vitals) (fun since => ?_) ?_ ?_
    all_goals simp [State.vitals, before, endCheck_none before]
  · exact .refl _

theorem resumeSweep_keeps (s : State) : Keeps s.vitals (resumeSweep s).vitals := by
  unfold resumeSweep
  split
  · next w before =>
    split
    · next resumes =>
      refine Keeps.trans (keeps_sweep (v := s.vitals) (sweep := some { w with paused := false }) ?_ ?_ ?_) ((sweepWalk_keeps _).after rfl)
      · simp [State.vitals, before]
      · simp [State.vitals, before]
      · exact fun safe => absurd safe resumes.2.2
    · exact .refl _
  · exact .refl _

theorem stopSweep_keeps (s : State) : Keeps s.vitals (stopSweep s).vitals := by
  refine (endCheck_keeps s).trans ?_
  simp only [stopSweep]
  split
  · next w before => exact sweepFinish_keeps before (endCheck_none before)
  · exact .refl _

/-! ## The compressor (R120 to R128) -/

/-- R129: the compressor enters a state, reported where it changes. -/
theorem setComp_keeps {v : Vitals} {c : CompState} {s : State} (h : Keeps v { s.vitals with comp := c }) :
    Keeps v (setComp c s).vitals := by
  unfold setComp
  split
  · next same => exact h.trans (.of_eq (by simp [State.vitals, same]))
  · exact h.trans ((report_keeps _ _).after rfl)

theorem setFans_keeps (s : State) : Keeps s.vitals (setFans s).vitals := .refl _

theorem compStop_keeps (s : State) : Keeps s.vitals (compStop s).vitals := keeps_compStop s.vitals

/-- The states of the compressor that SAFE has. -/
def CompState.still (c : CompState) : Prop := c = .disabled ∨ c = .guard ∨ c = .idle

/-- R121 to R126: a compressor in a state that SAFE does not have moves on. -/
theorem moveOn_keeps {c : CompState} {s : State} (moving : ¬s.clg.comp.still) (enabled : c ≠ .disabled) :
    Keeps s.vitals (setComp c s).vitals :=
  setComp_keeps (keeps_comp enabled fun _ still => absurd still moving)

/-- R120, R121: GUARD and IDLE are entered from every state. -/
theorem settleComp_keeps {c : CompState} (s : State) (rests : c = .guard ∨ c = .idle) : Keeps s.vitals (setComp c s).vitals :=
  setComp_keeps (keeps_comp (by obtain rfl | rfl := rests <;> nofun) fun _ _ => rests)

theorem setComp_comp (c : CompState) (s : State) : (setComp c s).clg.comp = c := by
  unfold setComp
  split
  · next same => exact same
  · simp

theorem setComp_mode (c : CompState) (s : State) : (setComp c s).mgt = s.mgt := by simp

/-- R121, R126: a start is asked for outside SAFE. -/
theorem askStart_keeps {c : CompState} {s : State} (awake : s.mgt.mode ≠ .safe) (enabled : c ≠ .disabled) :
    Keeps s.vitals (fileStart (setComp c s)).vitals :=
  (setComp_keeps (keeps_comp (v := s.vitals) enabled fun safe => absurd safe awake)).trans
    (fileStart_keeps (fun _ => by rwa [setComp_mode]) (by rwa [setComp_comp]))

theorem idleLook_keeps (s : State) : Keeps s.vitals (idleLook s).vitals := by
  unfold idleLook
  split
  · next looks =>
    split
    · exact askStart_keeps looks.2.1 nofun
    · split
      · exact askStart_keeps looks.2.1 nofun
      · exact .refl _
  · exact .refl _

theorem leaveGuard_keeps (s : State) : Keeps s.vitals (leaveGuard s).vitals :=
  (settleComp_keeps s (.inr rfl)).trans (idleLook_keeps _)

theorem enterGuard_keeps (s : State) : Keeps s.vitals (enterGuard s).vitals := by
  have guard := settleComp_keeps s (.inl rfl)
  unfold enterGuard
  split
  · exact guard.trans (leaveGuard_keeps _)
  · exact guard

theorem enterDefrost_keeps {s : State} (moving : ¬s.clg.comp.still) : Keeps s.vitals (enterDefrost s).vitals := by
  refine (moveOn_keeps ?_ (by decide)).after rfl
  exact moving

theorem enterDrip_keeps {s : State} (moving : ¬s.clg.comp.still) : Keeps s.vitals (enterDrip s).vitals := by
  have drip : Keeps s.vitals
      (setComp .drip { s with clg := { s.clg with stateSince := s.now, dripInForce := s.clg.settings.dripTime } }).vitals := by
    refine (moveOn_keeps ?_ (by decide)).after rfl
    exact moving
  unfold enterDrip
  split
  · exact drip.trans (enterGuard_keeps _)
  · exact drip

theorem stopByDemand_keeps {s : State} (moving : ¬s.clg.comp.still) : Keeps s.vitals (stopByDemand s).vitals := by
  refine (compStop_keeps s).trans ?_
  unfold stopByDemand
  split
  · exact enterDefrost_keeps moving
  · exact enterGuard_keeps _

/-! ## The sample (R112 to R126) -/

theorem sampleSensor_keeps (i raw : Nat) (s : State) : Keeps s.vitals (sampleSensor i raw s).vitals :=
  (reportIf_keeps _ _ _).after rfl

theorem sampleTemps_keeps (s : State) : Keeps s.vitals (sampleTemps s).vitals := (reportIf_keeps _ _ _).after rfl

theorem sampleDemand_keeps (s : State) : Keeps s.vitals (sampleDemand s).vitals := .of_eq (by
  unfold sampleDemand
  split
  · split
    · rfl
    · split
      · rfl
      · split <;> rfl
  · rfl)

theorem blindBegins_keeps (s : State) : Keeps s.vitals (blindBegins s).vitals := by
  unfold blindBegins
  split
  · next runs => exact moveOn_keeps (by obtain e | e | e := runs <;> simp [CompState.still, e]) nofun
  · exact .refl _

theorem blindEnds_keeps (s : State) : Keeps s.vitals (blindEnds s).vitals := by
  unfold blindEnds
  split
  · split
    · exact (compStop_keeps s).trans (enterGuard_keeps _)
    · exact (withdrawClaim_keeps _ s).trans (enterGuard_keeps _)
  · split
    · exact enterGuard_keeps s
    · exact .refl _

theorem clearHot_keeps (s : State) : Keeps s.vitals (clearHot s).vitals := by
  unfold clearHot
  split
  · split
    · exact (report_keeps _ _).after rfl
    · exact .refl _
  · exact .refl _

theorem tripCheck_keeps (s : State) : Keeps s.vitals (tripCheck s).vitals := by
  unfold tripCheck
  split
  · split
    · refine Keeps.trans ?_ (enterGuard_keeps _)
      exact (compStop_keeps s).trans ((report_keeps _ _).after rfl)
    · exact .refl _
  · exact .refl _

theorem coilCheckWarm_keeps (s : State) : Keeps s.vitals (coilCheckWarm s).vitals := by
  unfold coilCheckWarm
  split
  · split
    · next warm => exact enterDrip_keeps (by simp [CompState.still, warm.1])
    · exact .refl _
  · exact .refl _

theorem demandOffCheck_keeps (s : State) : Keeps s.vitals (demandOffCheck s).vitals := by
  unfold demandOffCheck
  split
  · exact .refl _
  · split
    · exact (withdrawClaim_keeps _ s).trans (settleComp_keeps _ (.inr rfl))
    · split
      · next run => exact stopByDemand_keeps (by simp [CompState.still, run.1])
      · exact .refl _

theorem sampleTransitions_keeps (was : Bool) (s : State) : Keeps s.vitals (sampleTransitions was s).vitals := by
  have blind : Keeps s.vitals
      (if s.clg.blind && !was then blindBegins s else if was && !s.clg.blind then blindEnds s else s).vitals := by
    split
    · exact blindBegins_keeps s
    · split
      · exact blindEnds_keeps s
      · exact .refl _
  exact (((((blind.trans (sampleDemand_keeps _)).trans (clearHot_keeps _)).trans (tripCheck_keeps _)).trans
    (coilCheckWarm_keeps _)).trans (demandOffCheck_keeps _)).trans (idleLook_keeps _)

theorem disableCooling_keeps (s : State) : Keeps s.vitals (disableCooling s).vitals := by
  unfold disableCooling
  refine setComp_keeps ((keeps_disable s.vitals).trans (.of_eq ?_))
  split
  · rfl
  · next off => simp [State.vitals, withdrawClaim, off]

/-! ## Payouts (R87 to R96) -/

/-- What the end of a payout leaves of the parts. -/
def Vitals.closed (v : Vitals) : Vitals := { v with
  payout := none
  drive := none
  lds := { v.lds with payoutUnits := 0, claims := v.lds.claims.filter fun c => c.kind != .payout } }

/-- R95: a payout ends, its result queued. -/
theorem endPayoutWith_keeps {v : Vitals} {s : State} {queue : EventReport → State → State}
    (queued : ∀ ev t, Keeps t.vitals (queue ev t).vitals) (present : s.chg.payout ≠ none) (h : Keeps v s.vitals.closed) :
    Keeps v (endPayoutWith queue s).vitals := by
  unfold endPayoutWith
  split
  · next p before =>
    refine (h.trans ?_).trans (queued _ _)
    refine Keeps.trans ?_ (settleCash_keeps _ _)
    split
    · exact .refl _
    · exact addCredit_keeps p.remainder (withdrawClaim .payout { s with
        lds := { s.lds with payoutUnits := 0 }, chg := { s.chg with payout := none, drive := none } })
  · exact absurd ‹_› present

theorem endPayout_keeps (s : State) : Keeps s.vitals (endPayout s).vitals := by
  cases before : s.chg.payout with
  | none => exact .of_eq (by simp [endPayout, endPayoutWith, before])
  | some p => exact endPayoutWith_keeps consumeSlot_keeps (by simp [before]) (keeps_endPayout s.vitals)

/-- From `v` the payout of `s` may drive any coin, or end. -/
structure MayPay (v : Vitals) (s : State) : Prop where
  drive : ∀ (q : Payout) (d : Nat), Keeps v { s.vitals with payout := some q, drive := some d }
  close : Keeps v s.vitals.closed

/-- R90: paying goes on. -/
theorem MayPay.payFirst {v : Vitals} {s : State} (h : MayPay v s) (p : Payout) : Keeps v (payFirst p s).vitals := by
  unfold Machine.payFirst
  split
  · exact h.drive _ _
  · exact endPayoutWith_keeps consumeSlot_keeps (by simp) h.close

theorem MayPay.endPayout {v : Vitals} {s : State} {q : Payout} (h : MayPay v s) (present : s.chg.payout = some q) :
    Keeps v (endPayout s).vitals :=
  endPayoutWith_keeps consumeSlot_keeps (by simp [present]) h.close

theorem MayPay.replan {v : Vitals} {s : State} {q : Payout} (h : MayPay v s) (p : Payout) (present : s.chg.payout = some q) :
    Keeps v (replan p s).vitals := by
  unfold Machine.replan
  split
  · exact h.payFirst _
  · exact h.endPayout present

theorem MayPay.nextCoin {v : Vitals} {s : State} {q : Payout} (h : MayPay v s) (present : s.chg.payout = some q) :
    Keeps v (nextCoin s).vitals := by
  unfold Machine.nextCoin
  split
  · split
    · split
      · exact h.replan _ present
      · exact h.drive _ _
    · exact h.endPayout present
  · simp_all

theorem MayPay.afterFailure {v : Vitals} {s : State} {q : Payout} (h : MayPay v s) (present : s.chg.payout = some q) :
    Keeps v (afterFailure s).vitals := by
  unfold Machine.afterFailure
  split
  · split
    · exact h.endPayout present
    · exact h.replan _ present
  · simp_all

/-- R90: a payout whose coin is in progress may pay on. -/
theorem mayPay_of_busy {v : Vitals} {s : State} {p : Payout} (before : v.payout = some p) (busy : p.busy)
    (queue : QueueSafe v.rpq → QueueSafe s.rpq)
    (same : s.vitals = { v with payout := s.chg.payout, drive := s.chg.drive, rpq := s.rpq }) : MayPay v s where
  drive := fun q d => by
    rw [same]
    exact (keeps_nextCoin before busy).trans (keeps_rpq queue)
  close := by
    rw [same]
    exact (keeps_endPayout v).trans (keeps_rpq queue)

theorem openPayout_keeps (src : PayoutSource) (form : PayoutForm) (n : Nat) {s : State} (awake : s.mgt.mode ≠ .safe) :
    Keeps s.vitals (openPayout src form n s).vitals := by
  simp only [openPayout]
  rw [if_neg awake]
  refine (keeps_openPayout (v := s.vitals) awake ?_ ?_).trans ((filePayout_keeps ?_).after rfl)
  · rfl
  · rfl
  · exact awake

theorem startCreditPayout_keeps (src : PayoutSource) {s : State} (awake : s.mgt.mode ≠ .safe) :
    Keeps s.vitals (startCreditPayout src s).vitals :=
  ((takeCredit_keeps s.csh.credit s).trans (openPayout_keeps src .amount s.csh.credit (by simpa using awake))).trans (settleCash_keeps _ _)

end Sys2Proof.Machine
end

section
/-! SUPPORT. Grants, the settlement of a vend, the Card Unit, Vend Control, the Cash Unit and the changes of mode keep every invariant
(chapters 1, 3, 5 and 7). -/

namespace Sys2Proof.Machine

/-! ## Grants (R138, R140) -/

/-- R136, R137: under the invariant a claim that fits has its kind's units free. -/
theorem claim_fits {s : State} {c : Claim} {k : ClaimKind} {n : Nat} (kind : c.kind = k) (mem : c ∈ s.lds.claims)
    (fits : c.units ≤ freeUnits s) (units : Claim.ofKind ⟨k, c.units, c.filed, c.guarding⟩ → c.units = n) :
    UnitsSafe s.vitals.state → n ≤ 4 - s.vitals.lds.granted := by
  rintro ⟨-, of⟩
  subst kind
  rw [← units (of c mem)]
  exact fits

/-- R90: a granted payout begins. -/
theorem mayPay_of_grant {s u : State} (awake : s.mgt.mode ≠ .safe) (fits : UnitsSafe s.vitals.state → 1 ≤ 4 - s.vitals.lds.granted)
    (same : u.vitals = { s.vitals with lds := { s.lds with
      claims := s.lds.claims.filter fun c => c.kind != .payout, payoutUnits := 1 } }) : MayPay s.vitals u where
  drive := fun q d => by
    rw [same]
    exact keeps_firstCoin awake fits
  close := by
    have closed : u.vitals.closed = s.vitals.closed := by
      rw [same]
      simp [Vitals.closed, List.filter_filter, State.vitals]
    rw [closed]
    exact keeps_endPayout s.vitals

theorem grantClaim_keeps {c : Claim} {s : State} (awake : s.mgt.mode ≠ .safe) (mem : c ∈ s.lds.claims)
    (fits : c.units ≤ freeUnits s) : Keeps s.vitals (grantClaim c s).vitals := by
  have withdrawn (k : ClaimKind) : Keeps s.vitals (withdrawClaim k s).vitals := withdrawClaim_keeps k s
  simp only [grantClaim]
  split
  · next kind =>
    unfold grantVend
    rw [kind]
    split
    · next v _ =>
      exact (withdrawn .vend).trans
        (keeps_grantVend (v := (withdrawClaim .vend s).vitals) (row := v.tray) (col := v.col) (partner := v.partner)
          awake fits rfl)
    · exact withdrawn .vend
  · next kind =>
    unfold beginPaying
    rw [kind]
    split
    · exact (mayPay_of_grant awake (claim_fits kind mem fits (by simp [Claim.ofKind])) rfl).payFirst _
    · exact withdrawn .payout
  · next kind =>
    unfold energizeCheck
    rw [kind]
    split
    · exact keeps_energize (v := s.vitals) awake (claim_fits kind mem fits (by simp [Claim.ofKind]))
    · exact withdrawn .coilCheck
  · next kind =>
    have four : UnitsSafe s.vitals.state → 4 ≤ 4 - s.vitals.lds.granted :=
      claim_fits kind mem fits (by simp [Claim.ofKind])
    unfold startCompressor
    rw [kind]
    dsimp only
    split
    · next blind =>
      have enabled : s.clg.comp ≠ .disabled := by
        rw [show s.clg.comp = .blindOn from blind]
        nofun
      exact keeps_startCompressor (v := s.vitals) (c := s.clg.comp) awake four enabled
    · exact setComp_keeps (keeps_startCompressor (v := s.vitals) (c := .start) awake four nofun)

theorem evaluateUpTo_keeps (n : Nat) (s : State) : Keeps s.vitals (evaluateUpTo n s).vitals := by
  induction n generalizing s with
  | zero => exact .refl _
  | succ n ih =>
    unfold evaluateUpTo
    split
    · next c granted =>
      obtain ⟨awake, mem, fits⟩ := nextGrant_fits granted
      exact (grantClaim_keeps awake mem fits).trans (ih _)
    · exact .refl _

theorem evaluateClaims_keeps (s : State) : Keeps s.vitals (evaluateClaims s).vitals := evaluateUpTo_keeps _ s

/-! ## Settlement (R18 to R21) -/

theorem settleMoney_keeps (o : VendOutcome) (v : VendCtx) (s : State) : Keeps s.vitals (settleMoney o v s).vitals := by
  unfold settleMoney
  split
  · exact .refl _
  · split
    · exact addCredit_keeps _ s
    · exact .refl _

theorem recordOutcome_keeps (o : VendOutcome) (jam : Bool) (v : VendCtx) (s : State) :
    Keeps s.vitals (recordOutcome o jam v s).vitals := by
  refine .trans ?_ (settleMoney_keeps o v _)
  exact selRefresh_keeps (s := s) (storeSelection_resold v.selection (outcomeEntry o jam v (selOf s v.selection))
    { s with vnd := ⟨some { v with outcome := some o, stage := .settling }⟩ })

theorem settleSecondSlot_keeps (v : VendCtx) (s : State) : Keeps s.vitals (settleSecondSlot v s).vitals := by
  unfold settleSecondSlot
  split
  · split
    · next starts =>
      refine (startCreditPayout_keeps _ ?_).trans (evaluateClaims_keeps _)
      simp only [changeStarts, Bool.and_eq_true, bne_iff_ne] at starts
      exact starts.1.2
    · exact releaseSlot_keeps s
  · exact .refl _

theorem finishVend_keeps (informed : Bool) (s : State) : Keeps s.vitals (finishVend informed s).vitals := by
  unfold finishVend
  split
  · refine .trans (.trans ?_ ((resumeSweep_keeps _).after rfl)) (evaluateClaims_keeps _)
    exact (consumeSlot_keeps _ s).trans (settleSecondSlot_keeps _ _)
  · exact .refl _

theorem setSession_keeps (c : Crd) (s : State) : Keeps s.vitals (setSession c s).vitals := (reportIf_keeps _ _ _).after rfl

theorem sessionNone_keeps (s : State) : Keeps s.vitals (sessionNone s).vitals := setSession_keeps _ s

theorem sessionEnds_keeps (s : State) : Keeps s.vitals (sessionEnds s).vitals :=
  (handFrame_keeps .card .sessionEnd s).trans (sessionNone_keeps _)

theorem sessionOpens_keeps (s : State) : Keeps s.vitals (sessionOpens s).vitals := by
  unfold sessionOpens
  split
  · exact setSession_keeps _ s
  · exact sessionEnds_keeps s

theorem resultEnds_keeps (acked : Bool) (s : State) : Keeps s.vitals (resultEnds acked s).vitals := by
  unfold resultEnds
  split
  · next r _ =>
    have finished : Keeps s.vitals (if r.vendLink then finishVend acked s else s).vitals := by
      split
      · exact finishVend_keeps acked s
      · exact .refl _
    generalize (if r.vendLink then finishVend acked s else s) = u at finished ⊢
    dsimp only
    split
    · exact finished.trans ((sessionNone_keeps _).after rfl)
    · exact finished.trans ((sessionOpens_keeps _).after rfl)
  · exact .refl _

theorem oweResult_keeps (r : ResultOwed) (s : State) : Keeps s.vitals (oweResult r s).vitals := by
  have handed := (setSession_keeps { s.crd with state := .vending, deadline := none, owed := some r } s).trans
    (handFrame_keeps .card (.vendResult r.success r.price r.selection) _)
  simp only [oweResult]
  split
  · next e => rw [e] at handed; exact handed.trans (resultEnds_keeps false _)
  · next e => rw [e] at handed; exact handed

theorem requestResult_keeps (success : Bool) (v : VendCtx) (s : State) : Keeps s.vitals (requestResult success v s).vitals := by
  unfold requestResult
  split
  · exact oweResult_keeps _ s
  · exact oweResult_keeps _ s
  · exact finishVend_keeps false s
  · exact finishVend_keeps false s

theorem releaseVend_keeps (s : State) : Keeps s.vitals (releaseVend s).vitals :=
  ((keeps_releaseVend s.vitals).trans (keeps_withdraw .vend _)).trans ((evaluateClaims_keeps _).after rfl)

theorem settle_keeps (o : VendOutcome) (jam informed : Bool) (s : State) : Keeps s.vitals (settle o jam informed s).vitals := by
  unfold settle
  split
  · next v _ =>
    have settled := ((releaseVend_keeps s).trans (recordOutcome_keeps o jam v _)).trans (settleCash_keeps (releaseVend s) _)
    dsimp only
    split
    · exact settled.trans (requestResult_keeps _ _ _)
    · exact settled.trans (finishVend_keeps _ _)
  · exact .refl _

/-! ## The Card Unit (chapter 5) -/

theorem enterLoadWait_keeps (s : State) : Keeps s.vitals (enterLoadWait s).vitals := by
  unfold enterLoadWait
  split
  · next v _ =>
    dsimp only
    split
    · exact .refl _
    · next awake =>
      refine Keeps.trans ((fileVend_keeps (n := if v.partner.isSome then 2 else 1)
        (s := { s with vnd := ⟨some { v with stage := .loadWait }⟩ }) ?_ awake).after rfl) (evaluateClaims_keeps _)
      split <;> simp
  · exact .refl _

theorem denyVend_keeps (informed : Bool) (s : State) : Keeps s.vitals (denyVend informed s).vitals := settle_keeps _ _ _ s

theorem askApproval_keeps (v : VendCtx) (s : State) : Keeps s.vitals (askApproval v s).1.vitals :=
  (setSession_keeps _ s).trans (handFrame_keeps _ _ _)

theorem requestEnds_keeps (acked : Bool) (s : State) : Keeps s.vitals (requestEnds acked s).vitals := by
  unfold requestEnds
  split
  · exact (denyVend_keeps false s).trans (sessionOpens_keeps _)
  · exact .refl _

theorem sessionOpenEvent_keeps (funds : Option Nat) (s : State) : Keeps s.vitals (sessionOpenEvent funds s).vitals := by
  unfold sessionOpenEvent
  split
  · split
    · exact setSession_keeps _ s
    · exact handFrame_keeps _ _ s
  all_goals exact setSession_keeps _ s

theorem sessionCloseEvent_keeps (s : State) : Keeps s.vitals (sessionCloseEvent s).vitals := by
  unfold sessionCloseEvent
  split
  · exact .refl _
  · exact sessionNone_keeps s
  · exact (denyVend_keeps false s).trans (sessionNone_keeps _)
  · exact .refl _

theorem approvedEvent_keeps (amount : Nat) (s : State) : Keeps s.vitals (approvedEvent amount s).vitals := by
  unfold approvedEvent
  split
  · split
    · exact (setSession_keeps _ s).trans (enterLoadWait_keeps _)
    · exact (denyVend_keeps true s).trans (sessionOpens_keeps _)
  · exact oweResult_keeps _ s
  · exact .refl _

theorem deniedEvent_keeps (s : State) : Keeps s.vitals (deniedEvent s).vitals := by
  unfold deniedEvent
  split
  · exact (denyVend_keeps true s).trans (sessionOpens_keeps _)
  · exact .refl _

theorem deadlineExpires_keeps (s : State) : Keeps s.vitals (deadlineExpires s).vitals := by
  refine (denyVend_keeps false s).trans ?_
  simp only [deadlineExpires]
  split
  · exact oweResult_keeps _ _
  · exact .refl _

theorem readerLost_keeps (s : State) : Keeps s.vitals (readerLost s).vitals := by
  unfold readerLost
  split
  · exact .refl _
  · exact sessionNone_keeps s
  · exact (denyVend_keeps false s).trans (sessionNone_keeps _)
  · split
    · next r _ =>
      have finished : Keeps s.vitals (if r.vendLink then finishVend false s else s).vitals := by
        split
        · exact finishVend_keeps false s
        · exact .refl _
      exact finished.trans (sessionNone_keeps _)
    · exact sessionNone_keeps s

theorem sessionLeavesOnline_keeps (s : State) : Keeps s.vitals (sessionLeavesOnline s).vitals := by
  unfold sessionLeavesOnline
  split
  · exact sessionEnds_keeps s
  · exact .refl _

/-! ## Vend Control (chapter 1) -/

theorem vendRefusal_none {s : State} {i : Nat} {pay : Payment} (h : vendRefusal s i pay = none) :
    canReserve (vendSlots s pay) s = true := by
  unfold vendRefusal at h
  dsimp only at h
  repeat' split at h
  all_goals simp_all

theorem acceptVend_keeps {i : Nat} {pay : Payment} {s : State} (passes : vendRefusal s i pay = none) :
    Keeps s.vitals (acceptVend i pay s).vitals := by
  have slots : Keeps s.vitals (reserve (newVend s i pay).slots { s with vnd := ⟨some (newVend s i pay)⟩ }).vitals :=
    reserve_keeps (vendRefusal_none passes)
  have paused := slots.trans (pauseSweep_keeps _)
  simp only [acceptVend]
  split
  · exact ((paused.trans (takeCredit_keeps _ _)).trans (settleCash_keeps _ _)).trans (enterLoadWait_keeps _)
  · exact paused.trans (enterLoadWait_keeps _)
  · have asked := (paused.trans (evaluateClaims_keeps _)).trans (askApproval_keeps (newVend s i .card) _)
    split
    · next e => rw [e] at asked; exact asked.trans (requestEnds_keeps false _)
    · next e => rw [e] at asked; exact asked

theorem vendCommand_keeps (i : Nat) (pay : Payment) (s : State) : Keeps s.vitals (vendCommand i pay s).2.vitals := by
  unfold vendCommand
  split
  · exact .refl _
  · exact acceptVend_keeps ‹_›

theorem vendCancelCommand_keeps (s : State) : Keeps s.vitals (vendCancelCommand s).2.vitals := by
  unfold vendCancelCommand
  split
  · exact .refl _
  · split
    · exact settle_keeps _ _ _ s
    · exact .refl _

theorem holdCancelsVend_keeps (s : State) : Keeps s.vitals (holdCancelsVend s).vitals := by
  unfold holdCancelsVend
  split
  · split
    · exact settle_keeps _ _ _ s
    · exact .refl _
  · exact .refl _

/-- R32: the record of a turn as its motors start. -/
def turnRecord (v : VendCtx) (s : State) : Turn where
  selection := v.selection
  tray := v.tray
  start := s.now
  motors := (v.col :: v.partner.toList).map fun c =>
    { col := c, opened := tget s.spd.camOpen false (posIndex v.tray c), stop := .running, openTested := false }
  completed := none
  dropSeen := false

theorem startTurn_eq (v : VendCtx) (s : State) : startTurn v s = { s with spd := { s.spd with
    rowOn := some v.tray, colsOn := v.col :: v.partner.toList, turn := some (turnRecord v s) } } := rfl

/-- R39, R41: the window of a turn closed, the close kept for late drops. -/
def State.windowClosed (t : Turn) (s : State) : State :=
  { s with spd := { s.spd with turn := none, lateDrop := some (t.selection, s.now) } }

/-- R15, R16, R39: the report of a turn whose window closes. -/
theorem turnReport_keeps {t : Turn} {s : State} (r : TurnResult) (drop : Bool) (before : s.spd.turn = some t)
    (done : t.completed ≠ none) : Keeps s.vitals (turnReport r drop (s.windowClosed t)).vitals := by
  have window : Keeps s.vitals (s.windowClosed t).vitals := keeps_closeWindow (v := s.vitals) before done
  simp only [turnReport]
  split
  · next v _ =>
    split
    · exact window.trans ((settle_keeps _ _ _ _).after rfl)
    · exact keeps_secondTurn (v := s.vitals) (row := v.tray) (col := v.col) (partner := v.partner)
        (t := turnRecord v (s.windowClosed t)) (by simp [State.vitals, before]) rfl
  · exact window

theorem interruptVend_keeps (drop : Bool) (s : State) : Keeps s.vitals (interruptVend drop s).vitals := by
  unfold interruptVend
  split
  · split
    · exact (settle_keeps _ _ _ _).after rfl
    · exact .refl _
  · exact .refl _

theorem refileVend_keeps {s : State} (awake : s.mgt.mode ≠ .safe) : Keeps s.vitals (refileVend s).vitals := by
  unfold refileVend
  split
  · split
    · refine fileVend_keeps ?_ awake
      split <;> simp
    · exact .refl _
  · exact .refl _

/-! ## The Cash Unit (chapter 3) -/

theorem coinEnters_keeps (t : Option Nat) (s : State) : Keeps s.vitals (coinEnters t s).vitals := by
  unfold coinEnters
  split
  · exact storeTube_keeps _ _ s
  · exact .refl _

theorem creditCoin_keeps (i : Nat) (s : State) : Keeps s.vitals (creditCoin i s).vitals := by
  have entered := (coinEnters_keeps (routedTube s i) (openGate (routedTube s i).isSome s)).trans
    (addCredit_keeps (coinOf s i).value _)
  exact (entered.after (u := s.vitals) rfl).trans ((settleCash_keeps _ _).after rfl)

theorem fillCoin_keeps (t i : Nat) (s : State) : Keeps s.vitals (fillCoin t i s).vitals := by
  have entered := coinEnters_keeps (some t) (openGate true s)
  exact (entered.after (u := s.vitals) rfl).trans ((settleCash_keeps _ _).after rfl)

theorem coinDecided_keeps (i : Nat) (s : State) : Keeps s.vitals (coinDecided i s).vitals := by
  unfold coinDecided
  split
  · split
    · exact creditCoin_keeps i s
    · exact .refl _
  · split
    · exact fillCoin_keeps _ i s
    · exact .refl _
  · exact .refl _
  · exact .refl _

theorem refundRefusal_none {s : State} (h : refundRefusal s = none) : s.mgt.mode ≠ .safe ∧ canReserve 1 s = true := by
  unfold refundRefusal at h
  split at h
  · cases h
  next mode =>
  refine ⟨fun safe => mode (by simp [safe]), ?_⟩
  repeat' split at h
  all_goals simp_all

theorem startRefund_keeps {s : State} (passes : refundRefusal s = none) : Keeps s.vitals (startRefund s).vitals := by
  obtain ⟨awake, slot⟩ := refundRefusal_none passes
  exact ((reserve_keeps slot).trans (startCreditPayout_keeps .refund (by simpa using awake))).trans (evaluateClaims_keeps _)

theorem refundCommand_keeps (s : State) : Keeps s.vitals (refundCommand s).2.vitals := by
  unfold refundCommand
  split
  · exact .refl _
  · exact startRefund_keeps ‹_›

theorem dropEscrow_keeps (s : State) : Keeps s.vitals (dropEscrow s).vitals := (settleCash_keeps _ _).after rfl

/-- R65: a record made for a bill in escrow, with the decision on it. -/
def State.escrowMade (c : Nat) (s : State) : State := { s with csh := { s.csh with
  escrowNumber := s.csh.escrowNumber + 1
  escrow := some { cls := c, stack := stackBill s c, decidedAt := s.now, number := s.csh.escrowNumber + 1 } } }

/-- R64, R169: the record made and its ESCROW ACTION handed over; the result says whether it was dropped. -/
def escrowHanded (c : Nat) (s : State) : State × Bool :=
  handFrame .bill (.escrowAction c (stackBill s c) (s.csh.escrowNumber + 1)) (s.escrowMade c)

/-- R64, R65, R67: what BILL ESCROW does. -/
theorem billEscrow_eq (c : Nat) (s : State) : billEscrow c s = cshRefresh (if (escrowHanded c s).2 then
    { (escrowHanded c s).1 with csh := { (escrowHanded c s).1.csh with escrow := none } } else (escrowHanded c s).1) := rfl

theorem billEscrow_keeps (c : Nat) (s : State) : Keeps s.vitals (billEscrow c s).vitals := by
  have handed : Keeps s.vitals (escrowHanded c s).1.vitals := (handFrame_keeps _ _ (s.escrowMade c)).after rfl
  rw [billEscrow_eq]
  refine .trans ?_ (cshRefresh_keeps _)
  split
  · exact handed
  · exact handed

theorem billAnomaly_keeps (node c n : Nat) (s : State) : Keeps s.vitals (billAnomaly node c n s).vitals :=
  (report_keeps _ _).after rfl

theorem billStacked_keeps (node c : Nat) (s : State) : Keeps s.vitals (billStacked node c s).vitals := by
  unfold billStacked
  refine Keeps.trans ?_ (settleCash_keeps _ _)
  split
  · exact (reportIf_keeps _ _ _).after rfl
  · refine .trans ?_ (billAnomaly_keeps _ _ _ _)
    exact (reportIf_keeps _ _ _).after rfl

theorem auditClearCommand_keeps (s : State) : Keeps s.vitals (auditClearCommand s).2.vitals := by
  unfold auditClearCommand
  split
  · exact .refl _
  · split <;> exact .refl _

theorem hostBillMaskCommand_keeps (m : Byte) (s : State) : Keeps s.vitals (hostBillMaskCommand m s).2.vitals := by
  unfold hostBillMaskCommand
  split
  · exact .refl _
  · exact (settleCash_keeps _ _).after rfl

/-! ## Changes of mode (R173, R188, R189) -/

theorem segmentLeavesOnline_keeps (s : State) : Keeps s.vitals (segmentLeavesOnline s).vitals := .of_eq (by simp [State.vitals])

theorem modeFollows_keeps (before s : State) : Keeps s.vitals (modeFollows before s).vitals := by
  refine (settleCash_keeps before s).trans ?_
  simp only [modeFollows]
  split
  · exact (sessionLeavesOnline_keeps _).trans (segmentLeavesOnline_keeps _)
  · exact .refl _

theorem changeMode_keeps {m : Mode} {s : State} (before : s.mgt.mode ≠ .safe) (after : m ≠ .safe) :
    Keeps s.vitals (changeMode m s).vitals := by
  unfold changeMode
  split
  · exact .refl _
  · have stored : Keeps s.vitals (storeMode m s).vitals := keeps_mode (v := s.vitals) before after
    refine ((stored.trans ?_).trans (evaluateClaims_keeps _)).trans (modeFollows_keeps _ _)
    split
    · exact stopSweep_keeps _
    · exact .refl _

theorem doorTaken_keeps (isOpen : Bool) (s : State) : Keeps s.vitals (doorTaken isOpen s).vitals := by
  have reported : Keeps s.vitals (report .door { s with cmn := { s.cmn with
      doorOpen := isOpen, openings := if isOpen then satAdd 65535 s.cmn.openings 1 else s.cmn.openings } }).vitals :=
    (report_keeps _ _).after rfl
  suffices moved : ∀ t : State, Keeps t.vitals (doorMovesMode isOpen t).vitals from reported.trans (moved _)
  intro t
  unfold doorMovesMode
  split
  · next online => exact changeMode_keeps (by simp [online]) nofun
  · next service => exact changeMode_keeps (by simp [service]) nofun
  · exact .refl _

end Sys2Proof.Machine
end

section
/-! SUPPORT. The entry to SAFE and its end keep every invariant (R141, R144, R145, section 7.5). -/

namespace Sys2Proof.Machine

/-! ## What settles in SAFE (R21, R137) -/

/-- An operation that keeps the queue and changes nothing but reports, of what the invariants read. -/
theorem Resold.of_keeps {v w : Vitals} (h : Keeps v w) (rest : w = { v with rpq := w.rpq }) : Resold v w :=
  ⟨h.reports, by rw [rest]⟩

theorem consumeSlot_resold (ev : EventReport) (s : State) : Resold s.vitals (consumeSlot ev s).vitals :=
  .of_keeps (consumeSlot_keeps ev s) (by simp [State.vitals])

theorem releaseSlot_resold (s : State) : Resold s.vitals (releaseSlot s).vitals :=
  .of_keeps (releaseSlot_keeps s) (by simp [State.vitals])

theorem addCredit_resold (n : Nat) (s : State) : Resold s.vitals (addCredit n s).vitals :=
  .of_keeps (addCredit_keeps n s) (by simp [State.vitals])

theorem settleCash_resold (before s : State) : Resold s.vitals (settleCash before s).vitals :=
  .of_keeps (settleCash_keeps before s) (by simp [State.vitals])

theorem setSession_resold (c : Crd) (s : State) : Resold s.vitals (setSession c s).vitals :=
  .of_keeps (setSession_keeps c s) (by simp [State.vitals])

theorem handFrame_resold (role : Role) (k : OwnKind) (s : State) : Resold s.vitals (handFrame role k s).1.vitals :=
  .of_keeps (handFrame_keeps role k s) (by simp [State.vitals])

theorem sessionEnds_resold (s : State) : Resold s.vitals (sessionEnds s).vitals :=
  (handFrame_resold _ _ s).trans (setSession_resold _ _)

theorem modeFollows_resold (before s : State) : Resold s.vitals (modeFollows before s).vitals :=
  .of_keeps (modeFollows_keeps before s) (by simp [State.vitals])

theorem finishVend_resold {s : State} (safe : s.mgt.mode = .safe) (informed : Bool) :
    Resold s.vitals (finishVend informed s).vitals := by
  unfold finishVend
  split
  · next v _ =>
    have slot : Resold (consumeSlot (vendReport v (v.outcome.getD .cancelled) informed) s).vitals
        (settleSecondSlot v (consumeSlot (vendReport v (v.outcome.getD .cancelled) informed) s)).vitals := by
      simp only [settleSecondSlot, changeStarts, consumeSlot_frame, safe]
      split
      · simpa using releaseSlot_resold _
      · exact .refl _
    have rests (t : State) (mode : t.mgt.mode = .safe) : evaluateClaims (resumeSweep t) = t := by
      have paused : resumeSweep t = t := by
        unfold resumeSweep
        split
        · simp [mode]
        · rfl
      rw [paused, evaluateClaims_safe mode]
    rw [rests _ (by simp [safe])]
    exact (consumeSlot_resold _ s).trans slot
  · exact .refl _

theorem resultEnds_resold {s : State} (safe : s.mgt.mode = .safe) (acked : Bool) :
    Resold s.vitals (resultEnds acked s).vitals := by
  unfold resultEnds
  split
  · next r _ =>
    have finished : Resold s.vitals (if r.vendLink then finishVend acked s else s).vitals := by
      split
      · exact finishVend_resold safe acked
      · exact .refl _
    have still : (if r.vendLink then finishVend acked s else s).mgt.mode = .safe := by split <;> simp [safe]
    generalize (if r.vendLink then finishVend acked s else s) = u at finished still ⊢
    dsimp only
    split
    · exact finished.trans (setSession_resold _ { u with crd := { u.crd with owed := none } })
    · unfold sessionOpens
      rw [if_neg (by simp [still])]
      exact finished.trans (sessionEnds_resold { u with crd := { u.crd with owed := none } })
  · exact .refl _

theorem oweResult_resold {s : State} (safe : s.mgt.mode = .safe) (r : ResultOwed) : Resold s.vitals (oweResult r s).vitals := by
  have session := setSession_resold { s.crd with state := .vending, deadline := none, owed := some r } s
  have handed := session.trans (handFrame_resold .card (.vendResult r.success r.price r.selection) _)
  have mode : (handFrame .card (.vendResult r.success r.price r.selection)
      (setSession { s.crd with state := .vending, deadline := none, owed := some r } s)).1.mgt.mode = .safe := by simp [safe]
  simp only [oweResult]
  split
  · next e =>
    rw [e] at handed mode
    exact handed.trans (resultEnds_resold mode false)
  · next e =>
    rw [e] at handed
    exact handed

theorem settleMoney_resold (o : VendOutcome) (v : VendCtx) (s : State) : Resold s.vitals (settleMoney o v s).vitals :=
  .of_keeps (settleMoney_keeps o v s) (by
    unfold settleMoney
    split
    · rfl
    · split
      · simp [State.vitals]
      · rfl)

theorem recordOutcome_resold (o : VendOutcome) (jam : Bool) (v : VendCtx) (s : State) :
    Resold s.vitals (recordOutcome o jam v s).vitals := by
  refine .trans ?_ (settleMoney_resold o v _)
  refine .trans ?_ (selRefresh_resold _)
  exact storeSelection_resold v.selection (outcomeEntry o jam v (selOf s v.selection))
    { s with vnd := ⟨some { v with outcome := some o, stage := .settling }⟩ }

/-- R137: with nothing granted and nothing claimed, a vend has nothing to give back. -/
theorem releaseVend_safe {s : State} (safe : s.mgt.mode = .safe) (claims : s.lds.claims = []) (units : s.lds.vendUnits = 0) :
    releaseVend s = s := by
  have same : withdrawClaim .vend { s with lds := { s.lds with vendUnits := 0 } } = s := by
    simp only [withdrawClaim, claims, List.filter_nil]
    rw [← claims, ← units]
  rw [releaseVend, same, evaluateClaims_safe safe]

theorem settle_resold {s : State} (safe : s.mgt.mode = .safe) (claims : s.lds.claims = []) (units : s.lds.vendUnits = 0)
    (o : VendOutcome) (jam informed : Bool) : Resold s.vitals (settle o jam informed s).vitals := by
  unfold settle
  split
  · next v _ =>
    rw [releaseVend_safe safe claims units]
    have settled := (recordOutcome_resold o jam v s).trans (settleCash_resold s _)
    have mode : (settleCash s (recordOutcome o jam v s)).mgt.mode = .safe := by simp [safe]
    dsimp only
    split
    · unfold requestResult
      split
      · exact settled.trans (oweResult_resold mode _)
      · exact settled.trans (oweResult_resold mode _)
      · exact settled.trans (finishVend_resold mode _)
      · exact settled.trans (finishVend_resold mode _)
    · exact settled.trans (finishVend_resold mode _)
  · exact .refl _

theorem interruptVend_resold {s : State} (safe : s.mgt.mode = .safe) (claims : s.lds.claims = []) (units : s.lds.vendUnits = 0)
    (drop : Bool) : Resold s.vitals (interruptVend drop s).vitals := by
  unfold interruptVend
  split
  · next v _ =>
    split
    · exact settle_resold (s := { s with vnd := ⟨some { v with dropSeen := v.dropSeen || drop }⟩ }) safe claims units _ _ _
    · exact .refl _
  · exact .refl _

/-! ## The entry to SAFE (R141, R144) -/

theorem stopTurn_vitals (s : State) : (stopTurn s).vitals = { s.vitals with
    turn := none
    rowOn := if s.spd.turn.isSome then none else s.spd.rowOn
    colsOn := if s.spd.turn.isSome then [] else s.spd.colsOn } := by
  cases turn : s.spd.turn <;> simp [stopTurn, driversOff, State.vitals, turn]

/-- R46: the pause of a sweep whose check has nothing to give back. -/
theorem pauseSweep_vitals {s : State} (claims : s.lds.claims = []) (units : s.lds.coilUnits = 0) :
    (pauseSweep s).vitals = { s.vitals with
      sweep := s.spd.sweep.map fun w => { w with check := .none, paused := true }
      rowOn := if (energizedCheck s).isSome then none else s.spd.rowOn
      colsOn := if (energizedCheck s).isSome then [] else s.spd.colsOn } := by
  have lds : { s.lds with claims := [] } = s.lds := by rw [← claims]
  have lds' : { s.lds with claims := [], coilUnits := 0 } = s.lds := by rw [← claims, ← units]
  cases sweep : s.spd.sweep with
  | none => simp [pauseSweep, endCheck, energizedCheck, sweep, State.vitals]
  | some w =>
    obtain check | check | ⟨since, check⟩ : w.check = .none ∨ w.check = .claimed ∨ ∃ since, w.check = .energized since := by
      cases w.check <;> simp
    all_goals
      simp [pauseSweep, endCheck, energizedCheck, withdrawClaim, driversOff, sweep, check, State.vitals, claims, lds, lds']

/-- R144: what the entry to SAFE leaves of the parts. -/
structure Sleeps (v w : Vitals) : Prop where
  mode : w.mode = .safe
  low : w.low = true
  lds : w.lds = Lds.powerOn
  turn : w.turn = none
  sweep : ∀ x, w.sweep = some x → x.paused = true ∧ x.check = .none
  drivers : (w.rowOn = none ∧ w.colsOn = []) ∨
    (w.rowOn = v.rowOn ∧ w.colsOn = v.colsOn ∧ v.turn = none ∧ ∀ x since, v.sweep = some x → x.check ≠ .energized since)
  payout : ∀ p, w.payout = some p → p.cut = true ∧ p.window.isSome ∧ p.pulse = none
  drive : w.drive = none ∨ (w.drive = v.drive ∧ v.payout = none)
  comp : (v.comp = .disabled ∧ w.comp = .disabled ∧ w.contactor = v.contactor) ∨ (w.comp = .guard ∧ w.contactor = false)
  reports : QueueSafe v.rpq → QueueSafe w.rpq
  sales : SalesCurrent v.state → SalesCurrent w.state

theorem Sleeps.keeps {v w : Vitals} (h : Sleeps v w) : Keeps v w := by
  obtain ⟨mode, low, lds, turn, sweep, drivers, payout, drive, comp, reports, sales⟩ := h
  constructor
  case units => simp [lds, Lds.granted, Lds.powerOn]
  case payout => simp only [payoutDriveCovered_iff]; grind
  case compressor => simp only [compressorCovered_iff]; grind
  case unclaimed => simp [lds, Lds.powerOn]
  case check => simp only [checkCovered_iff]; grind
  case matrix => simp only [matrixSafe_iff]; grind
  case reports => exact reports
  case sales => exact sales
  case quiet =>
    simp only [quietInSafe_iff]
    rintro ⟨-, -, ⟨matrix, driven⟩, -, covered, disabled⟩
    have off : w.rowOn = none ∧ w.colsOn = [] := by
      obtain off | ⟨row, cols, turn, check⟩ := drivers
      · exact off
      · have idle : ¬(v.rowOn.isSome ∨ v.colsOn ≠ []) := fun on => by
          obtain ⟨t, before, -⟩ | ⟨x, since, before, energized⟩ := matrix on
          · simp [turn] at before
          · exact check x since before energized
        simpa [row, cols] using idle
    have undriven : w.drive = none := by
      obtain off | ⟨same, gone⟩ := drive
      · exact off
      · simpa [same, gone] using driven
    have stopped : w.contactor = false := by grind
    have rests : w.comp = .disabled ∨ w.comp = .guard ∨ w.comp = .idle := by grind
    simp [lds, Lds.granted, Lds.powerOn, MatrixOwned, mode, low, turn, off, undriven, stopped, rests]
    exact ⟨sweep, payout⟩

/-- R96: a payout at the entry to SAFE. -/
theorem cutPayout_vitals {s : State} (claims : s.lds.claims = []) (units : s.lds.payoutUnits = 0) :
    ∃ p d, (cutPayout s).vitals = { s.vitals with payout := p, drive := d, rpq := (cutPayout s).rpq } ∧
      (∀ q, p = some q → q.cut = true ∧ q.window.isSome ∧ q.pulse = none) ∧
      (d = none ∨ (d = s.chg.drive ∧ s.chg.payout = none)) ∧
      (QueueSafe s.rpq → QueueSafe (cutPayout s).rpq) := by
  cases before : s.chg.payout with
  | none =>
    exact ⟨none, s.chg.drive, by simp [cutPayout, before, State.vitals], by simp, .inr ⟨rfl, rfl⟩, by simp [cutPayout, before]⟩
  | some p =>
    simp only [cutPayout, before]
    split
    · next runs => exact ⟨_, _, rfl, by rintro q ⟨⟩; exact ⟨rfl, runs.2, rfl⟩, .inl rfl, id⟩
    · refine ⟨none, none, ?_, by simp, .inl rfl, (endPayout_keeps s).reports⟩
      have lds : { s.lds with claims := [], payoutUnits := 0 } = s.lds := by rw [← claims, ← units]
      simp only [endPayout, endPayoutWith, before, State.vitals]
      split <;> simp [withdrawClaim, claims, lds]

/-- R128: the compressor at the entry to SAFE. -/
theorem coolingEntersSafe_vitals (s : State) :
    ∃ c on, (coolingEntersSafe s).vitals = { s.vitals with comp := c, contactor := on, rpq := (coolingEntersSafe s).rpq } ∧
      ((s.clg.comp = .disabled ∧ c = .disabled ∧ on = s.clg.contactor) ∨ (c = .guard ∧ on = false)) ∧
      (QueueSafe s.rpq → QueueSafe (coolingEntersSafe s).rpq) := by
  unfold coolingEntersSafe
  split
  · next off => exact ⟨.disabled, s.clg.contactor, by simp [State.vitals, off], .inl ⟨off, rfl, rfl⟩, id⟩
  · refine ⟨.guard, false, ?_, .inr ⟨rfl, rfl⟩, (settleComp_keeps (contactorOff s) (.inl rfl)).reports⟩
    unfold setComp
    split
    · next same => simp [State.vitals, contactorOff, show s.clg.comp = .guard from same]
    · simp [State.vitals, contactorOff, setFans]

/-- R141, R42, R46: SAFE with every grant and claim gone, the turn stopped and the sweep paused. -/
def State.safeDrivers (s : State) : State :=
  pauseSweep (stopTurn (dropAllGrants { s with mgt := { mode := .safe, returnMode := s.mgt.mode.toReturn } }))

/-- R29: a driver is on for a turn or a check. -/
def State.matrixBusy (s : State) : Bool := s.spd.turn.isSome || (energizedCheck s).isSome

theorem safeDrivers_vitals (s : State) : s.safeDrivers.vitals = { s.vitals with
    mode := .safe
    lds := Lds.powerOn
    turn := none
    sweep := s.spd.sweep.map fun w => { w with check := .none, paused := true }
    rowOn := if s.matrixBusy then none else s.spd.rowOn
    colsOn := if s.matrixBusy then [] else s.spd.colsOn } := by
  unfold State.safeDrivers
  have stopped := stopTurn_vitals (dropAllGrants { s with mgt := { mode := .safe, returnMode := s.mgt.mode.toReturn } })
  generalize stopTurn _ = a at stopped ⊢
  have lds : a.lds = Lds.powerOn := congrArg Vitals.lds stopped
  have sweep : a.spd.sweep = s.spd.sweep := congrArg Vitals.sweep stopped
  have check : energizedCheck a = energizedCheck s := by simp only [energizedCheck, sweep]
  have row : a.spd.rowOn = if s.spd.turn.isSome then none else s.spd.rowOn := congrArg Vitals.rowOn stopped
  have cols : a.spd.colsOn = if s.spd.turn.isSome then [] else s.spd.colsOn := congrArg Vitals.colsOn stopped
  rw [pauseSweep_vitals (by rw [lds]; rfl) (by rw [lds]; rfl), stopped, sweep, check, row, cols]
  cases turn : s.spd.turn <;> cases energized : energizedCheck s <;> simp [State.matrixBusy, State.vitals, turn, energized]

theorem enterSafe_eq (s : State) : enterSafe s =
    modeFollows s (coolingEntersSafe (cutPayout (interruptVend (windowDrop s) s.safeDrivers))) := rfl

/-- R144: the entry to SAFE, from a state whose supply has been seen LOW. -/
theorem enterSafe_sleeps {s : State} (low : s.cmn.supplyLow = true) : Sleeps s.vitals (enterSafe s).vitals := by
  have drivers := safeDrivers_vitals s
  rw [enterSafe_eq]
  generalize s.safeDrivers = a at drivers ⊢
  obtain ⟨vendQueue, vend⟩ := interruptVend_resold (s := a) (congrArg Vitals.mode drivers)
    (congrArg (·.lds.claims) drivers) (congrArg (·.lds.vendUnits) drivers) (windowDrop s)
  have vendSales := (interruptVend_keeps (windowDrop s) a).sales
  generalize interruptVend _ a = b at vend vendQueue vendSales ⊢
  obtain ⟨p, d, cut, cutIs, driveIs, cutQueue⟩ := cutPayout_vitals (s := b)
    ((congrArg (·.lds.claims) vend).trans (congrArg (·.lds.claims) drivers))
    ((congrArg (·.lds.payoutUnits) vend).trans (congrArg (·.lds.payoutUnits) drivers))
  generalize cutPayout b = c at cut cutQueue ⊢
  obtain ⟨k, on, cool, coolIs, coolQueue⟩ := coolingEntersSafe_vitals c
  generalize coolingEntersSafe c = e at cool coolQueue ⊢
  obtain ⟨followQueue, follow⟩ := modeFollows_resold s e
  have followSales := (modeFollows_keeps s e).sales
  generalize modeFollows s e = f at follow followQueue followSales ⊢
  have payoutB : b.chg.payout = s.chg.payout := (congrArg Vitals.payout vend).trans (congrArg Vitals.payout drivers)
  have driveB : b.chg.drive = s.chg.drive := (congrArg Vitals.drive vend).trans (congrArg Vitals.drive drivers)
  have compC : c.clg.comp = s.clg.comp := (congrArg Vitals.comp cut).trans ((congrArg Vitals.comp vend).trans
    (congrArg Vitals.comp drivers))
  have contactorC : c.clg.contactor = s.clg.contactor := (congrArg Vitals.contactor cut).trans ((congrArg Vitals.contactor vend).trans
    (congrArg Vitals.contactor drivers))
  have queue : QueueSafe s.vitals.rpq → QueueSafe f.vitals.rpq := fun safe =>
    followQueue (coolQueue (cutQueue (vendQueue (by rw [drivers]; exact safe))))
  have sales : SalesCurrent s.vitals.state → SalesCurrent f.vitals.state := fun current =>
    followSales (by rw [cool, cut]; exact vendSales (by rw [drivers]; exact current))
  rw [cut, vend, drivers] at cool
  rw [cool] at follow
  rw [payoutB, driveB] at driveIs
  rw [compC, contactorC] at coolIs
  constructor
  case mode => exact congrArg Vitals.mode follow
  case low => exact (congrArg Vitals.low follow).trans low
  case lds => exact congrArg Vitals.lds follow
  case turn => exact congrArg Vitals.turn follow
  case sweep =>
    rw [congrArg Vitals.sweep follow]
    simp
  case drivers =>
    rw [congrArg Vitals.rowOn follow, congrArg Vitals.colsOn follow]
    cases busy : s.matrixBusy with
    | true => simp
    | false =>
      simp only [State.matrixBusy, Bool.or_eq_false_iff, Option.isSome_eq_false_iff, Option.isNone_iff_eq_none] at busy
      refine .inr ⟨by simp [State.vitals], by simp [State.vitals], busy.1, fun x since before energized => ?_⟩
      have none := busy.2
      simp [energizedCheck, show s.spd.sweep = some x from before, energized] at none
  case payout => rw [congrArg Vitals.payout follow]; exact cutIs
  case drive => rw [congrArg Vitals.drive follow]; exact driveIs
  case comp => rw [congrArg Vitals.comp follow, congrArg Vitals.contactor follow]; exact coolIs
  case reports => exact queue
  case sales => exact sales

/-- R143, R144: the sample that makes the supply LOW. -/
theorem supplyLow_keeps {s u : State} (low : u.cmn.supplyLow = true) (rest : u.vitals = { s.vitals with low := true, rpq := u.rpq })
    (queue : QueueSafe s.rpq → QueueSafe u.rpq) : Keeps s.vitals (enterSafe u).vitals := by
  obtain ⟨mode, low', lds, turn, sweep, drivers, payout, drive, comp, reports, sales⟩ := enterSafe_sleeps low
  rw [rest] at drivers drive comp reports sales
  exact Sleeps.keeps ⟨mode, low', lds, turn, sweep, drivers, payout, drive, comp, reports ∘ queue, sales⟩

/-! ## The end of SAFE (R145) -/

theorem modeAfterSafe_ne (s : State) : modeAfterSafe s ≠ .safe := by
  unfold modeAfterSafe
  split <;> nofun

/-- R143, R145: the sample that makes the supply GOOD. -/
theorem leaveSafe_keeps {s u : State} (rest : u.vitals = { s.vitals with low := false, rpq := u.rpq })
    (queue : QueueSafe s.rpq → QueueSafe u.rpq) : Keeps s.vitals (leaveSafe u).vitals := by
  have after := modeAfterSafe_ne u
  have stored : (storeMode (modeAfterSafe u) u).vitals = { s.vitals with mode := modeAfterSafe u, low := false, rpq := u.rpq } :=
    calc (storeMode (modeAfterSafe u) u).vitals = { u.vitals with mode := modeAfterSafe u } := rfl
      _ = _ := by rw [rest]
  have left : Keeps s.vitals (storeMode (modeAfterSafe u) u).vitals := by
    rw [stored]
    exact (keeps_leaveSafe (v := s.vitals) after).trans (keeps_rpq queue)
  have filed := (left.trans (refileVend_keeps (s := storeMode (modeAfterSafe u) u) after)).trans (idleLook_keeps _)
  simp only [leaveSafe]
  refine .trans (.trans ?_ (modeFollows_keeps u _)) (evaluateClaims_keeps _)
  split
  · exact filed.trans (stopSweep_keeps _)
  · exact filed.trans (resumeSweep_keeps _)

end Sys2Proof.Machine
end

section
/-! SUPPORT. The Downstream Link, the tables, the commands and the resets keep every invariant (chapters 9 and 10). -/

namespace Sys2Proof.Machine

/-! ## The Downstream Link (chapter 9) -/

theorem tryRelease_keeps (s : State) : Keeps s.vitals (tryRelease s).vitals := .of_eq (by simp [State.vitals])

theorem ownFrameEnds_keeps (acked : Bool) (f : OwnFrame) (s : State) : Keeps s.vitals (ownFrameEnds acked f s).vitals := by
  unfold ownFrameEnds
  split
  · exact .refl _
  · exact .refl _
  · split
    · exact dropEscrow_keeps s
    · exact .refl _
  · exact requestEnds_keeps acked s
  · exact resultEnds_keeps acked s

theorem ownFramesEnd_keep (l : List OwnFrame) (s : State) :
    Keeps s.vitals (l.foldl (fun a f => ownFrameEnds false f a) s).vitals := by
  induction l generalizing s with
  | nil => exact .refl _
  | cons f l ih => exact (ownFrameEnds_keeps false f s).trans (ih _)

theorem dropOwnFrames_keeps (node : Nat) (s : State) : Keeps s.vitals (dropOwnFrames node s).vitals :=
  (ownFramesEnd_keep _ _).after rfl

theorem passLoss_keeps (bill card : Bool) (s : State) : Keeps s.vitals (passLoss bill card s).vitals := by
  have escrow : Keeps s.vitals (if bill then dropEscrow s else s).vitals := by
    split
    · exact dropEscrow_keeps s
    · exact .refl _
  unfold passLoss
  dsimp only
  split
  · exact escrow.trans (readerLost_keeps _)
  · exact escrow

theorem entryLost_keeps (i : Nat) (r : Route) (s : State) : Keeps s.vitals (entryLost i r s).vitals := by
  unfold entryLost
  refine .trans (.trans ?_ (passLoss_keeps _ _ _)) (dropOwnFrames_keeps _ _)
  exact (report_keeps _ _).after rfl

theorem entryReplied_keeps (i : Nat) (r : Route) (s : State) : Keeps s.vitals (entryReplied i r s).vitals := by
  unfold entryReplied
  dsimp only
  split
  · exact .refl _
  · have reported : Keeps s.vitals (report (.node r.base) (setRoute i { r with presence := .present, missed := 0 } s)).vitals :=
      (report_keeps _ _).after rfl
    split
    · exact reported.trans (sendEnable_keeps _)
    · exact reported

theorem entryMissed_keeps (i : Nat) (r : Route) (s : State) : Keeps s.vitals (entryMissed i r s).vitals := by
  unfold entryMissed
  split
  · split
    · exact .refl _
    · exact entryLost_keeps i r s
  · exact .refl _

theorem updatePresence_keeps (replied : Bool) (dest : Nat) (s : State) : Keeps s.vitals (updatePresence replied dest s).vitals := by
  unfold updatePresence
  split
  · split
    · exact entryReplied_keeps _ _ s
    · exact entryMissed_keeps _ _ s
  · exact .refl _

theorem takeEvent_keeps (node : Nat) (ev : PeripheralEvent) (s : State) : Keeps s.vitals (takeEvent node ev s).vitals := by
  cases ev with
  | billEscrow c => exact billEscrow_keeps c s
  | billStacked c => exact billStacked_keeps node c s
  | billReturned => exact dropEscrow_keeps s
  | sessionOpen f => exact sessionOpenEvent_keeps f s
  | sessionClose => exact sessionCloseEvent_keeps s
  | approved a => exact approvedEvent_keeps a s
  | denied => exact deniedEvent_keeps s

theorem releasePollSlot_keeps (slot : Bool) (s : State) : Keeps s.vitals (releasePollSlot slot s).vitals := by
  unfold releasePollSlot
  split
  · exact releaseSlot_keeps s
  · exact .refl _

theorem reportEvent_keeps (x : Exchange) (slot : Bool) (code : Byte) (params : List Byte) (s : State) :
    Keeps s.vitals (reportEvent x slot code params s).vitals := by
  unfold reportEvent
  split
  · exact consumeSlot_keeps _ s
  · exact (reportIf_keeps _ _ _).after rfl

theorem pollReplied_keeps (x : Exchange) (slot : Bool) (kind : Byte) (payload : List Byte) (s : State) :
    Keeps s.vitals (pollReplied x slot kind payload s).vitals := by
  unfold pollReplied
  split
  · split
    · exact releasePollSlot_keeps slot s
    · split
      · exact (releasePollSlot_keeps slot s).trans (takeEvent_keeps _ _ _)
      · exact reportEvent_keeps x slot _ _ s
  · exact releasePollSlot_keeps slot s

theorem enableAcked_keeps (f : OwnFrame) (s : State) : Keeps s.vitals (enableAcked f s).vitals := .of_eq (by simp [State.vitals])

theorem removeTransit_consume_keeps (tag : Nat) (ev : EventReport) (s : State) :
    Keeps s.vitals (consumeSlot ev (removeTransit tag s)).vitals := (consumeSlot_keeps _ _).after rfl

theorem repliedByKind_keeps (x : Exchange) (src kind : Byte) (payload : List Byte) (s : State) :
    Keeps s.vitals (repliedByKind x src kind payload s).vitals := by
  unfold repliedByKind
  split
  · exact pollReplied_keeps x _ kind payload s
  · next f _ =>
    split
    · exact (enableAcked_keeps f s).trans (ownFrameEnds_keeps true f _)
    · exact ownFrameEnds_keeps false f s
  · exact removeTransit_consume_keeps _ _ s

theorem unrepliedByKind_keeps (x : Exchange) (s : State) : Keeps s.vitals (unrepliedByKind x s).vitals := by
  unfold unrepliedByKind
  split
  · exact releasePollSlot_keeps _ s
  · exact ownFrameEnds_keeps false _ s
  · exact removeTransit_consume_keeps _ _ s

theorem exchangeReplied_keeps (x : Exchange) (src kind : Byte) (payload : List Byte) (s : State) :
    Keeps s.vitals (exchangeReplied x src kind payload s).vitals := by
  unfold exchangeReplied
  refine .trans (.trans ?_ (repliedByKind_keeps x src kind payload _)) (tryRelease_keeps _)
  exact (updatePresence_keeps true x.dest (clearExchange s)).after rfl

theorem exchangeMissed_keeps (x : Exchange) (s : State) : Keeps s.vitals (exchangeMissed x s).vitals := by
  unfold exchangeMissed
  refine .trans (.trans ?_ (unrepliedByKind_keeps x _)) (tryRelease_keeps _)
  exact (updatePresence_keeps false x.dest (clearExchange s)).after rfl

theorem downstreamFrame_keeps (src kind : Byte) (payload : List Byte) (s : State) :
    Keeps s.vitals (downstreamFrame src kind payload s).vitals := by
  unfold downstreamFrame
  split
  · split
    · exact exchangeReplied_keeps _ src kind payload s
    · exact .refl _
  · exact .refl _

theorem lateExpiry_keeps (s : State) : Keeps s.vitals (lateExpiry s).vitals := by
  unfold lateExpiry
  split
  · split
    · exact exchangeMissed_keeps _ s
    · exact .refl _
  · exact .refl _

theorem beginOwn_keeps (f : OwnFrame) (rest : List OwnFrame) (s : State) : Keeps s.vitals (beginOwn f rest s).vitals := by
  unfold beginOwn
  dsimp only
  split
  · exact .refl _
  · exact (ownFrameEnds_keeps false f _).after rfl

theorem beginTransit_keeps (t : TransitRec) (s : State) : Keeps s.vitals (beginTransit t s).vitals := by
  unfold beginTransit
  split
  · exact .refl _
  · exact removeTransit_consume_keeps _ _ s

theorem choosePoll_keeps (is : List Nat) (s : State) : Keeps s.vitals (choosePoll is s).vitals := by
  induction is generalizing s with
  | nil => exact .refl _
  | cons i is ih =>
    unfold choosePoll
    split
    · split
      · exact (reserve_keeps (n := 1) ‹_›).trans (.of_eq rfl)
      · split
        · exact (ih _).after rfl
        · exact .refl _
    · exact ih s

theorem nextExchange_keeps (s : State) : Keeps s.vitals (nextExchange s).vitals := by
  unfold nextExchange
  split
  · split
    · exact beginOwn_keeps _ _ s
    · split
      · exact beginTransit_keeps _ s
      · exact choosePoll_keeps _ s
  · exact .refl _

theorem frameSent_keeps (s : State) : Keeps s.vitals (frameSent s).vitals := .of_eq (by simp [State.vitals])

/-! ## The tables (R178, R182) -/

theorem rehome_keeps (i : Nat) (old new : Route) (s : State) : Keeps s.vitals (rehome i old new s).vitals := by
  have ended (t : State) : Keeps t.vitals (endCoveredExchange old t).vitals := by
    unfold endCoveredExchange
    split
    · split
      · exact (unrepliedByKind_keeps _ _).after rfl
      · exact .refl _
    · exact .refl _
  have dropped (t : State) : Keeps t.vitals (if old.inUse then dropOwnFrames old.base t else t).vitals := by
    split
    · exact dropOwnFrames_keeps _ t
    · exact .refl _
  unfold rehome
  refine .trans (.trans ?_ ((ended _).after rfl)) (tryRelease_keeps _)
  refine .trans (.trans (.trans ?_ (reportIf_keeps _ _ _)) (reportIf_keeps _ _ _)) (dropped _)
  exact (passLoss_keeps _ _ _).after rfl

theorem storeRouteWrite_keeps (w : Write) (s : State) : Keeps s.vitals (storeRouteWrite w s).vitals := by
  unfold storeRouteWrite
  dsimp only
  split
  · exact rehome_keeps _ _ _ s
  · exact .refl _

theorem storeSelectionWrite_keeps (w : Write) (s : State) : Keeps s.vitals (storeSelectionWrite w s).vitals :=
  (selRefresh_keeps (storeSelection_resold w.index (selectionWritten w (selOf s w.index)) s)).trans (settleCash_keeps s _)

theorem storeTrayWrite_keeps (w : Write) (s : State) : Keeps s.vitals (storeTrayWrite w s).vitals := by
  refine .trans ?_ (settleCash_keeps s _)
  exact selRefresh_keeps ⟨id, rfl⟩

theorem storeCoolingWrite_keeps (w : Write) (s : State) : Keeps s.vitals (storeCoolingWrite w s).vitals := by
  unfold storeCoolingWrite
  refine .trans ?_ (evaluateClaims_keeps _)
  split
  · exact .refl _
  · split
    · split
      · exact (enterGuard_keeps _).after rfl
      · exact .refl _
    · exact (disableCooling_keeps _).after rfl

theorem storeCoinWrite_keeps (w : Write) (s : State) : Keeps s.vitals (storeCoinWrite w s).vitals := (settleCash_keeps _ _).after rfl

theorem storeBillWrite_keeps (w : Write) (s : State) : Keeps s.vitals (storeBillWrite w s).vitals := (settleCash_keeps _ _).after rfl

theorem storeTubeWrite_keeps (w : Write) (s : State) : Keeps s.vitals (storeTubeWrite w s).vitals :=
  (storeTube_keeps _ _ _).trans (settleCash_keeps _ _)

theorem storeVendSettingsWrite_keeps (w : Write) (s : State) : Keeps s.vitals (storeVendSettingsWrite w s).vitals :=
  (settleCash_keeps _ _).after rfl

theorem storeCalibrationWrite_keeps (w : Write) (s : State) : Keeps s.vitals (storeCalibrationWrite w s).vitals := .refl _

theorem storeDriveLinkWrite_keeps (w : Write) (s : State) : Keeps s.vitals (storeDriveLinkWrite w s).vitals := .refl _

theorem ownedWrite_keeps {store : Write → State → State} (stored : ∀ w s, Keeps s.vitals (store w s).vitals) (id : Nat)
    (refusal : State → Write → Option Status) (payload : List Byte) (s : State) :
    Keeps s.vitals (ownedWrite id refusal store payload s).2.vitals := by
  unfold ownedWrite
  split
  · exact .refl _
  · split
    · exact .refl _
    · exact stored _ s

theorem writeSelection_keeps (payload : List Byte) (s : State) : Keeps s.vitals (writeSelection payload s).2.vitals :=
  ownedWrite_keeps storeSelectionWrite_keeps _ _ _ _

theorem writeTray_keeps (payload : List Byte) (s : State) : Keeps s.vitals (writeTray payload s).2.vitals :=
  ownedWrite_keeps storeTrayWrite_keeps _ _ _ _

theorem writeCoin_keeps (payload : List Byte) (s : State) : Keeps s.vitals (writeCoin payload s).2.vitals :=
  ownedWrite_keeps storeCoinWrite_keeps _ _ _ _

theorem writeBill_keeps (payload : List Byte) (s : State) : Keeps s.vitals (writeBill payload s).2.vitals :=
  ownedWrite_keeps storeBillWrite_keeps _ _ _ _

theorem writeTube_keeps (payload : List Byte) (s : State) : Keeps s.vitals (writeTube payload s).2.vitals :=
  ownedWrite_keeps storeTubeWrite_keeps _ _ _ _

theorem writeRoute_keeps (payload : List Byte) (s : State) : Keeps s.vitals (writeRoute payload s).2.vitals :=
  ownedWrite_keeps storeRouteWrite_keeps _ _ _ _

theorem writeVendSettings_keeps (payload : List Byte) (s : State) : Keeps s.vitals (writeVendSettings payload s).2.vitals :=
  ownedWrite_keeps storeVendSettingsWrite_keeps _ _ _ _

theorem writeCooling_keeps (payload : List Byte) (s : State) : Keeps s.vitals (writeCooling payload s).2.vitals :=
  ownedWrite_keeps storeCoolingWrite_keeps _ _ _ _

theorem writeCalibration_keeps (payload : List Byte) (s : State) : Keeps s.vitals (writeCalibration payload s).2.vitals :=
  ownedWrite_keeps storeCalibrationWrite_keeps _ _ _ _

theorem writeDriveLink_keeps (payload : List Byte) (s : State) : Keeps s.vitals (writeDriveLink payload s).2.vitals :=
  ownedWrite_keeps storeDriveLinkWrite_keeps _ _ _ _

theorem tableWriteAnswer_keeps (payload : List Byte) (s : State) : Keeps s.vitals (tableWriteAnswer payload s).2.vitals := by
  unfold tableWriteAnswer
  split
  · exact .refl _
  · split
    · exact writeSelection_keeps _ s
    · exact writeTray_keeps _ s
    · exact writeCoin_keeps _ s
    · exact writeBill_keeps _ s
    · exact writeTube_keeps _ s
    · exact writeRoute_keeps _ s
    · exact writeVendSettings_keeps _ s
    · exact writeCooling_keeps _ s
    · exact writeCalibration_keeps _ s
    · exact writeDriveLink_keeps _ s
    all_goals exact .refl _

/-! ## The commands (section 10.2) -/

theorem onlineMode_ne (s : State) : onlineMode s ≠ .safe := by
  unfold onlineMode
  split <;> nofun

theorem goOnlineCommand_keeps (s : State) : Keeps s.vitals (goOnlineCommand s).2.vitals := by
  unfold goOnlineCommand
  split
  · exact .refl _
  · next setup =>
    split
    · exact .refl _
    · exact changeMode_keeps (by simp [not_not.1 setup]) (onlineMode_ne s)

theorem goOfflineCommand_keeps (s : State) : Keeps s.vitals (goOfflineCommand s).2.vitals := by
  unfold goOfflineCommand
  split
  · exact .refl _
  · next mode =>
    split
    · exact .refl _
    · exact (changeMode_keeps (m := .setup) (s := { s with mgt := { s.mgt with returnMode := .setup } }) (not_or.1 mode).2 nofun).after rfl

theorem payoutRefusal_none {s : State} {r : PayoutRequest} (h : payoutRefusal s r = none) :
    s.mgt.mode ≠ .safe ∧ canReserve 1 s = true := by
  unfold payoutRefusal at h
  split at h
  · cases h
  next mode =>
  refine ⟨fun safe => mode (by simp [safe]), ?_⟩
  repeat' split at h
  all_goals simp_all

theorem payoutCommand_keeps (params : List Byte) (s : State) : Keeps s.vitals (payoutCommand params s).2.vitals := by
  unfold payoutCommand
  split
  · exact .refl _
  · split
    · exact .refl _
    · next passes =>
      obtain ⟨awake, slot⟩ := payoutRefusal_none passes
      exact ((reserve_keeps slot).trans (openPayout_keeps _ _ _ (s := reserve 1 s) awake)).trans (evaluateClaims_keeps _)

theorem tubeCountFrame_keeps (params : List Byte) (s : State) : Keeps s.vitals (tubeCountFrame params s).2.vitals := by
  unfold tubeCountFrame
  split
  · unfold tubeCountCommand
    split
    · exact .refl _
    · exact (storeTube_keeps _ _ s).trans (settleCash_keeps _ _)
  · exact .refl _

theorem vendFrame_keeps (params : List Byte) (s : State) : Keeps s.vitals (vendFrame params s).2.vitals := by
  unfold vendFrame
  split
  · split
    · exact vendCommand_keeps _ _ s
    · exact .refl _
  · exact .refl _

theorem hostBillMaskFrame_keeps (params : List Byte) (s : State) : Keeps s.vitals (hostBillMaskFrame params s).2.vitals := by
  unfold hostBillMaskFrame
  split
  · exact hostBillMaskCommand_keeps _ s
  · exact .refl _

/-- R135: economy evaluated again is what R135 gives. -/
theorem ecoRefresh_salesCurrent {v : Vitals} {s : State} {asked : Bool} {r : Rpq} (current : SalesCurrent v.state)
    (same : s.vitals = { v with ecoRequested := asked, rpq := r }) : SalesCurrent (ecoRefresh s).vitals.state := by
  have eco : (ecoRefresh s).vitals = { s.vitals with
      ecoEffective := s.vitals.ecoRequested && !s.vitals.hold && !s.vitals.sel.chilledOnSale, rpq := (ecoRefresh s).rpq } := by
    simp [State.vitals, ecoRefresh_effective]
  rw [eco, same]
  obtain ⟨flags, least, none, chilled, -⟩ := current
  exact ⟨flags, least, none, chilled, by simp [Vitals.state, and_assoc]⟩

theorem requestEconomy_keeps (on : Bool) (s : State) : Keeps s.vitals (requestEconomy on s).vitals := by
  let asked : State := reportIf (s.clg.ecoRequested != on) .economy { s with clg := { s.clg with ecoRequested := on } }
  have resold : Resold s.vitals asked.vitals :=
    ⟨(reportIf_keeps _ _ { s with clg := { s.clg with ecoRequested := on } }).reports, by simp [asked, State.vitals]⟩
  have rest := (resold.trans (ecoRefresh_resold asked))
  have queue := rest.queue
  have sales (current : SalesCurrent s.vitals.state) : SalesCurrent (ecoRefresh asked).vitals.state :=
    ecoRefresh_salesCurrent current (asked := on) (r := asked.rpq) (by simp [asked, State.vitals])
  have parts := rest.rest
  show Keeps s.vitals (ecoRefresh asked).vitals
  rw [parts] at sales ⊢
  exact { reports := queue, sales := sales }

theorem economyCommand_keeps (on : Bool) (s : State) : Keeps s.vitals (economyCommand on s).2.vitals := by
  unfold economyCommand
  split
  · exact .refl _
  · exact requestEconomy_keeps on s

theorem clearHold_keeps (s : State) : Keeps s.vitals (clearHold s).vitals := by
  unfold clearHold
  split
  · refine .trans ?_ (settleCash_keeps s _)
    refine selRefresh_keeps ⟨?_, by simp [State.vitals]⟩
    exact (report_keeps .safetyHold { s with clg := { s.clg with hold := false, warmTime := 0 } }).reports
  · exact .refl _

theorem holdReleaseCommand_keeps (s : State) : Keeps s.vitals (holdReleaseCommand s).2.vitals := by
  unfold holdReleaseCommand
  split
  · exact .refl _
  · split
    · exact clearHold_keeps s
    · exact .refl _

theorem sweepRefusal_none {s : State} {w : Sweep} (h : sweepRefusal s w = none) :
    s.mgt.mode ≠ .safe ∧ s.spd.sweep = none ∧ canReserve 1 s = true := by
  unfold sweepRefusal at h
  split at h
  · cases h
  next mode =>
  split at h
  · cases h
  next free =>
  refine ⟨fun safe => mode (by simp [safe]), by simpa using free, ?_⟩
  repeat' split at h
  all_goals simp_all

theorem sweepCommand_keeps (params : List Byte) (s : State) : Keeps s.vitals (sweepCommand params s).2.vitals := by
  unfold sweepCommand
  split
  · split
    · dsimp only
      split
      · exact .refl _
      · next t0 t1 c0 c1 order rt rc _ _ passes =>
        obtain ⟨awake, free, slot⟩ := sweepRefusal_none passes
        refine .trans (.trans ?_ (sweepWalk_keeps _)) (evaluateClaims_keeps _)
        generalize made : sweepOf s t0.toNat t1.toNat c0.toNat c1.toNat (order == 1) (rt == 1) (rc == 1) = w
        have check : w.check = .none := by rw [← made]; rfl
        have begun : Keeps s.vitals { s.vitals with sweep := some w } :=
          keeps_sweep (v := s.vitals) (by simp [State.vitals, free, check]) (by simp [State.vitals, free])
            fun safe => absurd safe awake
        exact begun.trans ((reserve_keeps (s := { s with spd := { s.spd with sweep := some w } }) slot).after rfl)
    · exact .refl _
  · exact .refl _

theorem sweepStopCommand_keeps (s : State) : Keeps s.vitals (sweepStopCommand s).2.vitals :=
  (stopSweep_keeps s).trans (evaluateClaims_keeps _)

theorem transitCommand_keeps (dest : Nat) (kind : Byte) (payload : List Byte) (s : State) :
    Keeps s.vitals (transitCommand dest kind payload s).2.vitals := by
  unfold transitCommand
  split
  · exact .refl _
  · next passes =>
    have slot : canReserve 1 s = true := by
      unfold transitRefusal at passes
      repeat' split at passes
      all_goals simp_all
    exact (reserve_keeps slot).trans (.of_eq rfl)

theorem reportPollAnswer_keeps (s : State) : Keeps s.vitals (reportPollAnswer s).2.vitals := by
  unfold reportPollAnswer
  split
  · exact .refl _
  · next head => 
    dsimp only
    split
    · exact popReport_keeps (by simp [head])
    · split
      · exact popReport_keeps (by simp [head])
      · exact keeps_rpq id

theorem noParams_keeps {f : State → Answer × State} (h : ∀ s, Keeps s.vitals (f s).2.vitals) (params : List Byte) (s : State) :
    Keeps s.vitals (noParams f params s).2.vitals := by
  unfold noParams
  split
  · exact h s
  · exact .refl _

end Sys2Proof.Machine
end

section
/-! SUPPORT. The resets, the Upstream Link and every row keep every invariant (chapter 8, sections 2.2, 2.6, 4.5 and 10.2). -/

namespace Sys2Proof.Machine

/-! ## The management reset (R187) -/

theorem appendResult_keeps (ev : Option EventReport) (s : State) : Keeps s.vitals (appendResult ev s).vitals := by
  unfold appendResult
  split
  · exact appendEvent_keeps _ s
  · exact .refl _

theorem appendResults_keeps (vend payout : Option EventReport) (s : State) :
    Keeps s.vitals (appendResults vend payout s).vitals := by
  unfold appendResults
  split
  · dsimp only
    split
    · exact ((appendResult_keeps vend { s with freeIx := s.freeIx + 1 }).after rfl).trans (appendResult_keeps payout _)
    · exact ((appendResult_keeps payout { s with freeIx := s.freeIx + 1 }).after rfl).trans (appendResult_keeps vend _)
  · exact (appendResult_keeps vend s).trans (appendResult_keeps payout _)

theorem resetVendSettles_resold (drop : Bool) (s : State) : Resold s.vitals (resetVendSettles drop s).vitals := by
  unfold resetVendSettles
  split
  · dsimp only
    split
    · exact .refl _
    · exact recordOutcome_resold _ _ _ s
  · exact .refl _

theorem resetVendSettles_keeps (drop : Bool) (s : State) : Keeps s.vitals (resetVendSettles drop s).vitals := by
  unfold resetVendSettles
  split
  · dsimp only
    split
    · exact .refl _
    · exact recordOutcome_keeps _ _ _ s
  · exact .refl _

/-- R37, R49, R142, R187: the Spiral Drive, the loads and the mode after a management reset. -/
theorem resetMode_vitals (s : State) : (resetMode (resetSpirals (resetLoads s))).vitals = { s.vitals with
    rowOn := none, colsOn := [], turn := none, sweep := none
    mode := if s.cmn.supplyLow then .safe else .setup
    lds := { s.lds with claims := [], vendUnits := 0, payoutUnits := 0, coilUnits := 0 } } := by
  cases turn : s.spd.turn <;> simp [resetMode, resetSpirals, resetLoads, stopTurn, driversOff, State.vitals, turn]

/-- R96: a payout that the reset ends without a report of its own. -/
theorem endPayoutQuietly_vitals {s : State} (claims : s.lds.claims = []) (units : s.lds.payoutUnits = 0) :
    ∃ d, (endPayoutWith (fun _ a => a) s).vitals = { s.vitals with
        payout := none, drive := d, rpq := (endPayoutWith (fun _ a => a) s).rpq } ∧
      (d = none ∨ (d = s.chg.drive ∧ s.chg.payout = none)) ∧
      (QueueSafe s.rpq → QueueSafe (endPayoutWith (fun _ a => a) s).rpq) := by
  cases before : s.chg.payout with
  | none => exact ⟨s.chg.drive, by simp [endPayoutWith, before, State.vitals], .inr ⟨rfl, rfl⟩, by simp [endPayoutWith, before]⟩
  | some p =>
    have lds : { s.lds with claims := [], payoutUnits := 0 } = s.lds := by rw [← claims, ← units]
    refine ⟨none, ?_, .inl rfl, (endPayoutWith_keeps (fun _ t => .refl t.vitals) (by simp [before]) (keeps_endPayout s.vitals)).reports⟩
    simp only [endPayoutWith, before, State.vitals]
    split <;> simp [withdrawClaim, claims, lds]

/-- R187: the work of every block ended. -/
theorem endWork_keeps (drop : Bool) (s : State) :
    Keeps s.vitals (endPayoutWith (fun _ a => a) (resetVendSettles drop (resetMode (resetSpirals (resetLoads s))))).vitals := by
  have work := resetMode_vitals s
  generalize resetMode (resetSpirals (resetLoads s)) = a at work ⊢
  obtain ⟨vendQueue, vend⟩ := resetVendSettles_resold drop a
  have vendSales := (resetVendSettles_keeps drop a).sales
  generalize resetVendSettles drop a = b at vend vendQueue vendSales ⊢
  obtain ⟨d, ended, driveIs, endQueue⟩ := endPayoutQuietly_vitals (s := b)
    ((congrArg (·.lds.claims) vend).trans (congrArg (·.lds.claims) work))
    ((congrArg (·.lds.payoutUnits) vend).trans (congrArg (·.lds.payoutUnits) work))
  generalize endPayoutWith _ b = c at ended endQueue ⊢
  have driveB : b.chg.drive = s.chg.drive := (congrArg Vitals.drive vend).trans (congrArg Vitals.drive work)
  have payoutB : b.chg.payout = s.chg.payout := (congrArg Vitals.payout vend).trans (congrArg Vitals.payout work)
  rw [driveB, payoutB] at driveIs
  have idle := (keeps_resetWork (v := s.vitals) driveIs).trans (keeps_resetMode _)
  have queue : QueueSafe s.rpq → QueueSafe c.vitals.rpq := fun safe =>
    endQueue (vendQueue ((congrArg Vitals.rpq work).symm ▸ safe))
  have sales : SalesCurrent s.vitals.state → SalesCurrent c.vitals.state := fun current => by
    rw [ended]
    refine vendSales ?_
    rw [work]
    exact current
  rw [vend, work] at ended
  refine idle.trans (Resold.keeps_of ⟨queue, ?_⟩ sales)
  rw [ended]
  rfl

theorem refileStart_keeps (s : State) : Keeps s.vitals (refileStart s).vitals := by
  unfold refileStart
  split
  · next waits =>
    have moving : ¬s.clg.comp.still := by obtain e | ⟨e, -⟩ := waits <;> simp [CompState.still, e]
    refine fileStart_keeps ?_ fun off => moving (.inl off)
    rintro ⟨-, quiet, -⟩ safe
    obtain ⟨-, -, -, -, -, rests, -⟩ := quiet safe
    exact moving rests
  · exact .refl _

/-- R23, R96, R198: the results of the work that a reset ends, in the emptied queue. -/
def resetReports (s : State) : State :=
  appendResults (resetVendReport (windowDrop s) s) (resetPayoutReport s) (emptyReports s)

theorem managementReset_eq (s : State) : managementReset s =
    evaluateClaims (refileStart (cshRefresh (resetCash (endPayoutWith (fun _ a => a) (resetVendSettles (windowDrop s)
      (resetMode (resetSpirals (resetLoads (resetCard (resetLink (resetReports s))))))))))) := rfl

theorem resetCash_keeps (s : State) : Keeps s.vitals (resetCash s).vitals := .refl _

theorem resetCard_keeps (s : State) : Keeps s.vitals (resetCard s).vitals := setSession_keeps Crd.powerOn s

theorem resetLink_keeps (s : State) : Keeps s.vitals (resetLink s).vitals := .of_eq (by simp [State.vitals])

theorem resetReports_keeps (s : State) : Keeps s.vitals (resetReports s).vitals :=
  (emptyReports_keeps s).trans (appendResults_keeps _ _ _)

theorem managementReset_keeps (s : State) : Keeps s.vitals (managementReset s).vitals := by
  have started := ((resetReports_keeps s).trans (resetLink_keeps _)).trans (resetCard_keeps _)
  have worked := (started.trans (endWork_keeps (windowDrop s) _)).trans (resetCash_keeps _)
  have checked := (worked.trans (cshRefresh_keeps _)).trans (refileStart_keeps _)
  rw [managementReset_eq]
  exact checked.trans (evaluateClaims_keeps _)

theorem resetCommand_keeps (s : State) : Keeps s.vitals (resetCommand s).2.vitals := by
  simp only [resetCommand]
  exact managementReset_keeps s

/-! ## The power-on reset (R146) -/

theorem salesCurrent_powerOn {s : State} (sel : s.sel = Sel.powerOn) (effective : s.clg.ecoEffective = false)
    (asked : s.clg.ecoRequested = false) : SalesCurrent s := by
  have flag (i : Nat) : tget s.sel.vendable false i = false := by rw [sel]; exact tget_replicate_same _ i
  have entry (i : Nat) : selOf s i = Selection.powerOn := by rw [selOf, sel]; exact tget_replicate_same _ i
  refine ⟨fun i _ => ?_, ?_, ?_, ?_, ?_⟩
  · simp only [flag, entry, OnSale, Bool.false_eq_true, false_iff]
    rintro ⟨active, -⟩
    cases active
  · rw [sel]; nofun
  · simp only [flag, implies_true, iff_true]; rw [sel]; rfl
  · simp only [flag, Bool.false_eq_true, false_and, and_false, exists_false, iff_false]
    rw [sel]
    nofun
  · simp [effective, asked]

/-- R146: every invariant holds after a power-on reset. -/
theorem keeps_powered (v : Vitals) (l : PowerOnLevels) (s : State) : Keeps v (poweredState l s).vitals := by
  constructor
  case units => intro; exact ⟨Nat.zero_le _, nofun⟩
  case payout => intro; exact ⟨nofun, nofun⟩
  case compressor => intro; exact ⟨nofun, nofun⟩
  case unclaimed => intro; nofun
  case check => intro; nofun
  case matrix => intro; simp [State.vitals, poweredState, Spd.powerOn]
  case reports => intro; simp [QueueSafe, State.vitals, poweredState, State.reset, Rpq.powerOn]
  case sales => intro; exact salesCurrent_powerOn rfl rfl rfl
  case quiet =>
    intro
    refine (quietInSafe_iff _).2 ⟨?_, fun _ => ⟨rfl, rfl, ⟨rfl, rfl, rfl, rfl⟩, rfl, nofun, .inr (.inl rfl), nofun⟩,
      ⟨fun on => by simp [State.vitals, poweredState, Spd.powerOn] at on, nofun⟩, nofun, nofun, nofun⟩
    simp only [State.vitals, poweredState, poweredMonitor]
    split <;> simp [*]

theorem requestActive_keeps (s : State) : Keeps s.vitals (requestActive s).vitals := .of_eq (by simp [State.vitals])

theorem powerOn_keeps (v : Vitals) (l : PowerOnLevels) (s : State) : Keeps v (powerOn l s).vitals := by
  have supply := (keeps_powered v l s).trans (reportIf_keeps (decide (l.volts < 190)) .supply _)
  have door (t : State) : Keeps t.vitals (if l.doorOpen then coolDoor true (report .door t) else t).vitals := by
    split
    · exact (report_keeps .door t).trans (.of_eq rfl)
    · exact .refl _
  unfold powerOn
  dsimp only
  split
  · exact (supply.trans (door _)).trans (requestActive_keeps _)
  · exact supply.trans (door _)

/-! ## The Upstream Link (R156, R178, R183) -/

theorem commandAnswer_keeps (payload : List Byte) (s : State) : Keeps s.vitals (commandAnswer payload s).2.vitals := by
  unfold commandAnswer
  split
  · exact .refl _
  · split
    · exact noParams_keeps goOnlineCommand_keeps _ s
    · exact noParams_keeps goOfflineCommand_keeps _ s
    · exact vendFrame_keeps _ s
    · exact noParams_keeps vendCancelCommand_keeps _ s
    · exact noParams_keeps refundCommand_keeps _ s
    · exact payoutCommand_keeps _ s
    · exact tubeCountFrame_keeps _ s
    · exact hostBillMaskFrame_keeps _ s
    · exact noParams_keeps (economyCommand_keeps true) _ s
    · exact noParams_keeps (economyCommand_keeps false) _ s
    · exact noParams_keeps holdReleaseCommand_keeps _ s
    · exact sweepCommand_keeps _ s
    · exact noParams_keeps sweepStopCommand_keeps _ s
    · exact noParams_keeps auditClearCommand_keeps _ s
    · exact .refl _

theorem managementAnswer_keeps (kind : Byte) (payload : List Byte) (s : State) :
    Keeps s.vitals (managementAnswer kind payload s).2.vitals := by
  unfold managementAnswer
  split
  · exact noParams_keeps (fun _ => .refl _) _ s
  split
  · exact .refl _
  split
  · exact tableWriteAnswer_keeps _ s
  split
  · exact commandAnswer_keeps _ s
  split
  · exact noParams_keeps reportPollAnswer_keeps _ s
  split
  · exact noParams_keeps resetCommand_keeps _ s
  · exact .refl _

theorem deliver_keeps {act : State → Answer × State} (h : ∀ s, Keeps s.vitals (act s).2.vitals) (src kind : Byte) (s : State) :
    Keeps s.vitals (deliver src kind act s).vitals := by
  unfold deliver
  dsimp only
  split
  · exact .refl _
  · have acted : Keeps s.vitals (act s.taken).2.vitals := (h s.taken).after rfl
    exact acted

theorem endUpstream_keeps (r : Receiver) (s : State) : Keeps s.vitals (endUpstream r s).vitals := by
  unfold endUpstream sortFrame
  split
  · split
    · exact deliver_keeps (managementAnswer_keeps _ _) _ _ s
    · split
      · exact deliver_keeps (transitCommand_keeps _ _ _) _ _ s
      · exact .refl _
  · exact .refl _

theorem endDownstream_keeps (good : Option (Byte × Byte × Byte × List Byte)) (s : State) :
    Keeps s.vitals (endDownstream good s).vitals := by
  unfold endDownstream
  split
  · exact .refl _
  · split
    · refine .trans ?_ (lateExpiry_keeps _)
      split
      · exact downstreamFrame_keeps _ _ _ s
      · exact .refl _
    · exact lateExpiry_keeps s

theorem setRx_vitals (seg : Segment) (r : Receiver) (s : State) : (setRx seg r s).vitals = s.vitals := by cases seg <;> rfl

theorem frameEnds_keeps (seg : Segment) (s : State) : Keeps s.vitals (frameEnds seg s).vitals := by
  unfold frameEnds
  dsimp only
  split
  · exact .of_eq (setRx_vitals ..)
  · split
    · exact (endUpstream_keeps _ _).after (setRx_vitals ..)
    · exact (endDownstream_keeps _ _).after (setRx_vitals ..)
  · exact .refl _
  · exact .refl _

theorem characterTaken_keeps (seg : Segment) (bits : BitVec 9) (stopMark : Bool) (s : State) :
    Keeps s.vitals (characterTaken seg bits stopMark s).vitals := by
  unfold characterTaken
  split
  · exact .refl _
  · exact .of_eq (setRx_vitals ..)

theorem breakTaken_keeps (seg : Segment) (s : State) : Keeps s.vitals (breakTaken seg s).vitals := by
  have upstream (t : State) : Keeps t.vitals (breakUpstream t).vitals := by
    unfold breakUpstream
    split <;> exact .refl _
  have downstream (t : State) : Keeps t.vitals (breakDownstream t).vitals := by
    unfold breakDownstream
    split
    · exact .refl _
    · split
      · exact exchangeMissed_keeps _ t
      · exact .refl _
  unfold breakTaken
  split
  · exact .refl _
  · dsimp only
    split
    · exact (upstream _).after rfl
    · exact (downstream _).after rfl

theorem breakEnds_keeps (seg : Segment) (s : State) : Keeps s.vitals (breakEnds seg s).vitals := by
  unfold breakEnds
  split
  · exact .of_eq (setRx_vitals ..)
  · exact .refl _

end Sys2Proof.Machine
end

section
/-! SUPPORT. Every row, and with them every step, keeps every invariant. -/

namespace Sys2Proof.Machine

/-! ## Payouts (section 4.5) -/

theorem execPayoutPulseEnd_keeps {s t : State} (h : execPayoutPulseEnd s = .next t) : Keeps s.vitals t.vitals := by
  unfold execPayoutPulseEnd at h
  split at h
  · next p present =>
    split at h
    · next start pulse =>
      have busy : p.busy := .inl (by simp [pulse])
      dsimp only at h
      split at h <;> cases h
      · exact ((mayPay_of_busy (s := pulseOff p (s.upTo (start + ms 80))) (v := s.vitals) present busy id rfl).nextCoin rfl).trans
          (evaluateClaims_keeps _)
      · exact keeps_payout (v := s.vitals) (q := { p with pulse := none }) present busy (by simp) (fun window => ⟨window, rfl⟩)
          (.inl rfl)
    · cases h; exact .refl _
  · cases h; exact .refl _

/-- R91: the coin seen, before what follows it. -/
theorem coinPaid_vitals (p : Payout) (s : State) : (coinPaid p s).vitals = { s.vitals with
    payout := (coinPaid p s).chg.payout, rpq := (coinPaid p s).rpq } := by
  simp [State.vitals, coinPaid]

theorem coinPaid_queue (p : Payout) (s : State) : QueueSafe s.rpq → QueueSafe (coinPaid p s).rpq := fun safe => by
  unfold coinPaid
  exact (settleCash_keeps _ _).reports ((storeTube_keeps _ _ _).reports safe)

theorem coinPaid_payout (p : Payout) (s : State) : ∃ q, (coinPaid p s).chg.payout = some q ∧ q.pulse = p.pulse ∧ q.window = none := by
  simp [coinPaid]

/-- R95: from `v` the payout of `s` may end. -/
theorem keeps_closed {v : Vitals} {s : State} (queue : QueueSafe v.rpq → QueueSafe s.rpq)
    (same : s.vitals = { v with payout := s.chg.payout, drive := s.chg.drive, rpq := s.rpq }) : Keeps v s.vitals.closed := by
  rw [same]
  exact (keeps_endPayout v).trans (keeps_rpq queue)

/-- R92, R93, R96: what follows a window without a coin, or a jam. -/
theorem afterFailure_keeps {v : Vitals} {s : State} {p q : Payout} (before : v.payout = some p) (window : p.window.isSome)
    (now : s.chg.payout = some q) (cut : q.cut = p.cut) (queue : QueueSafe v.rpq → QueueSafe s.rpq)
    (same : s.vitals = { v with payout := s.chg.payout, drive := s.chg.drive, rpq := s.rpq }) :
    Keeps v (afterFailure s).vitals := by
  by_cases ended : p.cut = true
  · rw [afterFailure, now]
    dsimp only
    rw [if_pos (.inl (cut.trans ended))]
    exact endPayoutWith_keeps consumeSlot_keeps (by simp [now]) (keeps_closed queue same)
  · exact (mayPay_of_busy before (.inr ⟨window, by simpa using ended⟩) queue same).afterFailure now

/-- R91: the sensor has become active. -/
def State.coinSensed (s : State) : State :=
  { s.upTo (s.chg.sensorInactiveSince + ms 5) with chg := { s.chg with sensorActive := true } }

theorem execPayoutCoinSeen_eq (s : State) : execPayoutCoinSeen s =
    if s.chg.sensorActive then .next s
    else
      match s.chg.payout with
      | some p => if p.window.isSome then .next (evaluateClaims (afterCoin p (coinPaid p s.coinSensed))) else .next s.coinSensed
      | none => .next s.coinSensed := rfl

theorem afterCoin_keeps {p : Payout} {s : State} (present : s.chg.payout = some p) (window : p.window.isSome) :
    Keeps s.vitals (afterCoin p (coinPaid p s)).vitals := by
  obtain ⟨q, now, pulse, closed⟩ := coinPaid_payout p s
  have queue := coinPaid_queue p s
  have drive : (coinPaid p s).chg.drive = s.chg.drive := by simp [coinPaid]
  have same : (coinPaid p s).vitals = { s.vitals with
      payout := (coinPaid p s).chg.payout, drive := (coinPaid p s).chg.drive, rpq := (coinPaid p s).rpq } := by
    rw [drive]; exact coinPaid_vitals p s
  unfold afterCoin
  split
  · next pulsed =>
    have seen : Keeps s.vitals { s.vitals with payout := some q, drive := s.chg.drive } :=
      keeps_payout (v := s.vitals) present (.inl pulsed) (by simp [pulse]) (by simp [closed]) (.inr rfl)
    rw [same, now, drive]
    exact seen.trans (keeps_rpq queue)
  · split
    · exact endPayoutWith_keeps consumeSlot_keeps (by simp [now]) (keeps_closed queue same)
    · next whole =>
      have pays := mayPay_of_busy (v := s.vitals) present (.inr ⟨window, by simpa using whole⟩) queue same
      split
      · exact pays.afterFailure now
      · exact pays.nextCoin now

theorem execPayoutCoinSeen_keeps {s t : State} (h : execPayoutCoinSeen s = .next t) : Keeps s.vitals t.vitals := by
  rw [execPayoutCoinSeen_eq] at h
  split at h
  · cases h; exact .refl _
  · split at h
    · next p present =>
      split at h <;> cases h
      · next window => exact ((afterCoin_keeps (s := s.coinSensed) present window).after rfl).trans (evaluateClaims_keeps _)
      · exact .of_eq rfl
    · cases h; exact .of_eq rfl

theorem tubeEmpty_vitals (i : Nat) (s : State) : (tubeEmpty i s).vitals = { s.vitals with rpq := (tubeEmpty i s).rpq } := by
  simp [State.vitals, tubeEmpty]

theorem tubeEmpty_keeps (i : Nat) (s : State) : Keeps s.vitals (tubeEmpty i s).vitals :=
  (storeTube_keeps _ _ s).trans (settleCash_keeps s _)

theorem tubeJammed_keeps (i : Nat) (s : State) : Keeps s.vitals (tubeJammed i s).vitals :=
  (storeTube_keeps _ _ s).trans (settleCash_keeps s _)

/-- R92: the window of a coin ended, its drive off. -/
def State.windowEnded (p : Payout) (start : Time) (s : State) : State :=
  { s.upTo (start + ms 400) with chg := { s.chg with drive := none, payout := some { p with pulse := none, window := none } } }

theorem execSensorWindowExpiry_keeps {s t : State} (h : execSensorWindowExpiry s = .next t) : Keeps s.vitals t.vitals := by
  unfold execSensorWindowExpiry at h
  split at h
  · next p present =>
    split at h
    · next start window =>
      cases h
      refine .trans ?_ (evaluateClaims_keeps _)
      show Keeps s.vitals (afterFailure (if p.cut ∨ p.jammed then s.windowEnded p start
        else tubeEmpty p.tube (s.windowEnded p start))).vitals
      have open_ : p.window.isSome := by simp [window]
      split
      · exact afterFailure_keeps (v := s.vitals) present open_ rfl rfl id rfl
      · refine afterFailure_keeps (v := s.vitals) (q := { p with pulse := none, window := none }) present open_ ?_ rfl ?_ ?_
        · simp [tubeEmpty, State.windowEnded]
        · exact (tubeEmpty_keeps p.tube (s.windowEnded p start)).reports
        · rw [tubeEmpty_vitals]
          simp [tubeEmpty, State.windowEnded, State.vitals]
    · cases h; exact .refl _
  · cases h; exact .refl _

theorem execDriveJam_keeps {least : Nat} {s t : State} (h : execDriveJam least s = .next t) : Keeps s.vitals t.vitals := by
  unfold execDriveJam at h
  split at h
  · next p present =>
    split at h
    · next start pulse =>
      split at h
      · have busy : p.busy := .inl (by simp [pulse])
        let u := pulseOff { p with jammed := true } (s.upTo (start + ms 20))
        have queue : QueueSafe s.rpq → QueueSafe (tubeJammed p.tube u).rpq := (tubeJammed_keeps p.tube u).reports
        have now : (tubeJammed p.tube u).chg.payout = some { p with jammed := true, pulse := none } := by
          simp [tubeJammed, u, pulseOff]
        have drive : (tubeJammed p.tube u).chg.drive = none := by simp [tubeJammed, u, pulseOff]
        have same : (tubeJammed p.tube u).vitals = { s.vitals with
            payout := (tubeJammed p.tube u).chg.payout
            drive := (tubeJammed p.tube u).chg.drive
            rpq := (tubeJammed p.tube u).rpq } := by
          simp [tubeJammed, u, pulseOff, State.vitals]
        dsimp only at h
        split at h <;> cases h
        · have seen : Keeps s.vitals { s.vitals with payout := some { p with jammed := true, pulse := none }, drive := none } :=
            keeps_payout (v := s.vitals) present busy (by simp) (fun window => ⟨window, rfl⟩) (.inl rfl)
          show Keeps s.vitals (tubeJammed p.tube u).vitals
          rw [same, now, drive]
          exact seen.trans (keeps_rpq queue)
        · exact ((mayPay_of_busy (v := s.vitals) present busy queue same).afterFailure now).trans (evaluateClaims_keeps _)
      · cases h; exact .refl _
    · cases h; exact .refl _
  · cases h; exact .refl _

theorem storeTube_settle_keeps (i : Nat) (x : Tube) (s : State) : Keeps s.vitals (settleCash s (storeTube i x s)).vitals :=
  (storeTube_keeps i x s).trans (settleCash_keeps s _)

/-! ## Grants beside a coil check (R45, R140) -/

/-- R140: a claim granted leaves the list. -/
theorem grantClaim_claims (c : Claim) (s : State) :
    (grantClaim c s).lds.claims = s.lds.claims.filter fun d => d.kind != c.kind := by
  have paid (p : Payout) (t : State) (gone : ∀ d ∈ t.lds.claims, d.kind ≠ .payout) :
      (payFirst p t).lds.claims = t.lds.claims := by
    have filtered : (t.lds.claims.filter fun d => d.kind != .payout) = t.lds.claims :=
      List.filter_eq_self.2 fun d mem => by simpa using gone d mem
    unfold payFirst
    split
    · rfl
    · simp only [endPayout, endPayoutWith]
      split <;> simp [withdrawClaim, filtered]
  simp only [grantClaim]
  split
  · next kind => unfold grantVend; split <;> rw [kind] <;> rfl
  · next kind =>
    unfold beginPaying
    rw [kind]
    split
    · exact paid _ _ fun d mem => by simpa using (List.mem_filter.1 mem).2
    · rfl
  · next kind => unfold energizeCheck; split <;> rw [kind] <;> rfl
  · next kind =>
    unfold startCompressor
    rw [kind]
    dsimp only
    split
    · rfl
    · simp [withdrawClaim]

/-- R45: no other grant touches the sweep. -/
theorem grantClaim_sweep {c : Claim} (s : State) (other : c.kind ≠ .coilCheck) : (grantClaim c s).spd.sweep = s.spd.sweep := by
  simp only [grantClaim]
  split
  · unfold grantVend; split <;> rfl
  · simp
  · exact absurd ‹_› other
  · simp

theorem evaluateUpTo_sweep (n : Nat) {s : State} (alone : ∀ c ∈ s.lds.claims, c.kind ≠ .coilCheck) :
    (evaluateUpTo n s).spd.sweep = s.spd.sweep := by
  induction n generalizing s with
  | zero => rfl
  | succ n ih =>
    unfold evaluateUpTo
    split
    · next c granted =>
      rw [ih (s := grantClaim c s), grantClaim_sweep s (alone c (nextGrant_fits granted).2.1)]
      intro d mem
      rw [grantClaim_claims] at mem
      exact alone d (List.mem_filter.1 mem).1
    · rfl

theorem evaluateClaims_sweep {s : State} (alone : ∀ c ∈ s.lds.claims, c.kind ≠ .coilCheck) :
    (evaluateClaims s).spd.sweep = s.spd.sweep := evaluateUpTo_sweep _ alone

/-! ## Coil checks (R45) -/

theorem energizedCheck_eq {s : State} {w : Sweep} {since : Time} (h : energizedCheck s = some (w, since)) :
    s.spd.sweep = some w ∧ w.check = .energized since := by
  unfold energizedCheck at h
  split at h
  · next x before =>
    split at h
    · next on => cases h; exact ⟨before, on⟩
    · cases h
  · cases h

/-- R45: a check that was energized has ended, its units evaluated, and the sweep's record with its result stands. -/
theorem checkEnded_keeps {s : State} {w x : Sweep} {since : Time} (before : s.spd.sweep = some w)
    (energized : w.check = .energized since) (check : x.check = .none) (paused : x.paused = w.paused) :
    Keeps s.vitals { (evaluateClaims (releaseCheck w s)).vitals with sweep := some x } := by
  have released : Keeps s.vitals (releaseCheck w s).vitals := keeps_checkOff (v := s.vitals) before energized
  have kept := released.trans (evaluateClaims_keeps _)
  constructor
  case units => exact kept.units
  case payout => exact kept.payout
  case compressor => exact kept.compressor
  case unclaimed => exact kept.unclaimed
  case check =>
    rintro - y since ⟨⟩ on
    rw [check] at on
    cases on
  case matrix => exact kept.matrix
  case reports => exact kept.reports
  case sales => exact kept.sales
  case quiet =>
    intro quiet
    have claimed := quiet.2.2.2.1
    have alone (c : Claim) (mem : c ∈ (releaseCheck w s).lds.claims) : c.kind ≠ .coilCheck := fun kind => by
      obtain ⟨y, found, waits⟩ := claimed ⟨c, mem, kind⟩
      cases before.symm.trans found
      simp [energized] at waits
    have sweep : (evaluateClaims (releaseCheck w s)).spd.sweep = some { w with check := .none } := evaluateClaims_sweep alone
    refine (keeps_sweep (v := (evaluateClaims (releaseCheck w s)).vitals) ?_ ?_ ?_).quiet (kept.quiet quiet)
    · simp [State.vitals, sweep, check]
    · simp [State.vitals, sweep]
    · simp [State.vitals, sweep, check, paused]

/-- R45: the sweep's record once a check has its result. -/
def Sweep.counted (h : Health) (w : Sweep) : Sweep := { w with
  check := .none
  lastChecked := some (posIndex w.cursorTray w.cursorCol)
  okCount := if h = .ok then w.okCount + 1 else w.okCount
  openCount := if h = .opened then w.openCount + 1 else w.openCount
  shortCount := if h = .shorted then w.shortCount + 1 else w.shortCount }

/-- R45: a result stored and counted. -/
def checkStored (h : Health) (w : Sweep) (s : State) : State :=
  settleCash s (selRefresh (storeHealth w.cursorTray w.cursorCol h { s with spd := { s.spd with sweep := some (w.counted h) } }))

theorem finishCheck_eq (h : Health) (w : Sweep) (s : State) : finishCheck h w s =
    match (w.counted h).advance with
    | none => sweepFinish false (w.counted h) (checkStored h w s)
    | some (t, c) => sweepWalk { checkStored h w s with spd := { (checkStored h w s).spd with
        sweep := some { w.counted h with cursorTray := t, cursorCol := c } } } := rfl

theorem finishCheck_keeps (h : Health) (w : Sweep) (s : State) :
    Keeps { s.vitals with sweep := some (w.counted h) } (finishCheck h w s).vitals := by
  have stored : Keeps { s.vitals with sweep := some (w.counted h) } (checkStored h w s).vitals := by
    let u : State := { s with spd := { s.spd with sweep := some (w.counted h) } }
    exact ((selRefresh_keeps (s := u) (storeHealth_resold _ _ _ u)).after rfl).trans (settleCash_keeps _ _)
  have sweep : (checkStored h w s).spd.sweep = some (w.counted h) := by simp [checkStored]
  rw [finishCheck_eq]
  refine stored.trans ?_
  split
  · exact sweepFinish_keeps sweep rfl
  · next t c _ =>
    have moved := keeps_sweep (v := (checkStored h w s).vitals) (sweep := some { w.counted h with cursorTray := t, cursorCol := c })
      (by simp [State.vitals, sweep]) (by simp [State.vitals, sweep]) (by simp [State.vitals, sweep])
    exact moved.trans ((sweepWalk_keeps _).after rfl)

theorem endCoilCheck_keeps {h : Health} {s : State} {w : Sweep} {since : Time} (before : s.spd.sweep = some w)
    (energized : w.check = .energized since) : Keeps s.vitals (endCoilCheck h w s).vitals := by
  have ended := checkEnded_keeps before energized (x := w.counted h) rfl rfl
  exact (ended.trans (finishCheck_keeps h w _)).trans (evaluateClaims_keeps _)

end Sys2Proof.Machine
end

section
/-! SUPPORT. Each row, and with them each step, keeps every invariant. -/

namespace Sys2Proof.Machine

/-! ## The Spiral Drive's rows (chapter 2) -/

theorem execCamChange_keeps {tray : Fin 8} {col : Fin 10} {closed : Bool} {s t : State}
    (h : execCamChange tray col closed s = .next t) : Keeps s.vitals t.vitals := by
  unfold execCamChange at h
  dsimp only at h
  split at h
  · next x m running =>
    have turn := runningMotor_turn running
    split at h
    · cases h; exact .of_eq rfl
    · split at h
      · split at h <;> cases h
        · exact (motorHome_keeps _ turn).after rfl
        · exact .of_eq rfl
      · cases h
        exact keeps_turn (v := s.vitals) turn rfl
  · cases h; exact .of_eq rfl

/-- R33 to R35: a fault of a running motor, found now or at its time. -/
theorem motorFault_row_keeps {col : Nat} {finding : Option Health} {r : TurnResult} {x : Turn} {m : Motor} {s u : State}
    (running : runningMotor col s = some (x, m)) (turn : u.spd.turn = s.spd.turn) (same : u.vitals = s.vitals) :
    Keeps s.vitals (motorFault col finding r x u).vitals :=
  (motorFault_keeps col finding r x (by simp [turn, runningMotor_turn running])).after same

theorem execStuckAtHome_keeps {col : Fin 10} {s t : State} (h : execStuckAtHome col s = .next t) : Keeps s.vitals t.vitals := by
  unfold execStuckAtHome at h
  split at h
  · next running =>
    split at h <;> cases h
    · exact .refl _
    · exact motorFault_row_keeps running rfl rfl
  · cases h; exact .refl _

theorem execNoHome_keeps {col : Fin 10} {s t : State} (h : execNoHome col s = .next t) : Keeps s.vitals t.vitals := by
  unfold execNoHome at h
  split at h
  · next running =>
    split at h <;> cases h
    · exact motorFault_row_keeps running rfl rfl
    · exact .refl _
  · cases h; exact .refl _

theorem untestedMotor_turn {col : Nat} {s : State} {x : Turn} (h : untestedMotor col s = some x) : s.spd.turn = some x := by
  unfold untestedMotor at h
  split at h
  · split at h
    · cases h; assumption
    · cases h
  · cases h

theorem execOpenTest_keeps {col : Fin 10} {peak : Nat} {s t : State} (h : execOpenTest col peak s = .next t) :
    Keeps s.vitals t.vitals := by
  unfold execOpenTest at h
  split at h
  · next x untested =>
    have turn := untestedMotor_turn untested
    dsimp only at h
    split at h <;> cases h
    · exact (motorFault_keeps _ _ _ _ (s := s.upTo (x.start + ms 100)) (by simp [State.upTo, turn])).after rfl
    · exact keeps_turn (v := s.vitals) turn rfl
  · cases h; exact .refl _

theorem execMotorShort_keeps {col : Fin 10} {sample : Nat} {s t : State} (h : execMotorShort col sample s = .next t) :
    Keeps s.vitals t.vitals := by
  unfold execMotorShort at h
  split at h
  · next running =>
    split at h <;> cases h
    · exact motorFault_row_keeps running rfl rfl
    · exact .refl _
  · cases h; exact .refl _

theorem execMotorJam_keeps {col : Fin 10} {least : Nat} {s t : State} (h : execMotorJam col least s = .next t) :
    Keeps s.vitals t.vitals := by
  unfold execMotorJam at h
  split at h
  · next running =>
    split at h <;> cases h
    · exact motorFault_row_keeps running rfl rfl
    · exact .refl _
  · cases h; exact .refl _

theorem lateDrop_keeps (s : State) : Keeps s.vitals (lateDrop s).vitals := by
  unfold lateDrop
  split
  · split
    · exact (report_keeps _ _).after rfl
    · exact .refl _
  · exact .refl _

theorem execDropEvent_keeps {s t : State} (h : execDropEvent s = .next t) : Keeps s.vitals t.vitals := by
  unfold execDropEvent at h
  dsimp only at h
  split at h
  · cases h; exact .refl _
  · split at h <;> cases h
    · next x turn => exact keeps_turn (v := s.vitals) (t := x) turn rfl
    · exact (lateDrop_keeps _).after rfl

theorem execDropWindowClose_keeps {s t : State} (h : execDropWindowClose s = .next t) : Keeps s.vitals t.vitals := by
  unfold execDropWindowClose at h
  split at h
  · next x turn =>
    split at h
    · next r since done =>
      cases h
      exact (turnReport_keeps (s := s.upTo (since + ms 1500)) r x.dropSeen turn (by simp [done])).after rfl
    · cases h; exact .refl _
  · cases h; exact .refl _

theorem execCoilCheckEnd_keeps {peak : Nat} {s t : State} (h : execCoilCheckEnd peak s = .next t) : Keeps s.vitals t.vitals := by
  unfold execCoilCheckEnd at h
  split at h
  · next w since check =>
    obtain ⟨sweep, energized⟩ := energizedCheck_eq check
    split at h <;> cases h
    · exact .refl _
    · exact (endCoilCheck_keeps (s := s.upTo (since + ms 50)) sweep energized).after rfl
  · cases h; exact .refl _

theorem execCoilCheckShort_keeps {sample : Nat} {s t : State} (h : execCoilCheckShort sample s = .next t) :
    Keeps s.vitals t.vitals := by
  unfold execCoilCheckShort at h
  split at h
  · next check =>
    obtain ⟨sweep, energized⟩ := energizedCheck_eq check
    split at h <;> cases h
    · exact endCoilCheck_keeps sweep energized
    · exact .refl _
  · cases h; exact .refl _

/-! ## The Cooling Unit's rows (chapter 6) -/

theorem sampleHold_keeps (s : State) : Keeps s.vitals (sampleHold s).vitals := by
  unfold sampleHold
  split
  · refine .trans (.trans (.trans ?_ (settleCash_keeps s _)) (holdCancelsVend_keeps _)) (evaluateClaims_keeps _)
    refine selRefresh_keeps ⟨?_, by simp [State.vitals]⟩
    exact (report_keeps .safetyHold { s with clg := { s.clg with hold := true } }).reports
  · exact .refl _

/-- R112: the sample's records and temperatures. -/
def sampleTaken (airA airB coil condenser : Nat) (s : State) : State :=
  sampleTemps (sampleSensors airA airB coil condenser
    { s.upTo s.clg.nextSample with clg := { s.clg with nextSample := s.clg.nextSample + seconds 1 } })

theorem execCoolingSample_eq (airA airB coil condenser : BitVec 10) (s : State) :
    execCoolingSample airA airB coil condenser s = .next (sampleHold (sampleWarm (evaluateClaims (setFans
      (sampleTransitions s.clg.blind (sampleTaken airA.toNat airB.toNat coil.toNat condenser.toNat s)))))) := rfl

theorem sampleTaken_keeps (airA airB coil condenser : Nat) (s : State) :
    Keeps s.vitals (sampleTaken airA airB coil condenser s).vitals := by
  unfold sampleTaken sampleSensors
  refine .trans ?_ (sampleTemps_keeps _)
  refine .trans (.trans (.trans ?_ (sampleSensor_keeps 1 _ _)) (sampleSensor_keeps 2 _ _)) (sampleSensor_keeps 3 _ _)
  exact (sampleSensor_keeps 0 _ _).after rfl

theorem sampleWarm_keeps (s : State) : Keeps s.vitals (sampleWarm s).vitals := .of_eq rfl

theorem execCoolingSample_keeps {airA airB coil condenser : BitVec 10} {s t : State}
    (h : execCoolingSample airA airB coil condenser s = .next t) : Keeps s.vitals t.vitals := by
  rw [execCoolingSample_eq] at h
  obtain rfl := Host.Outcome.next.inj h
  refine .trans (.trans ?_ (sampleWarm_keeps _)) (sampleHold_keeps _)
  refine .trans ?_ (evaluateClaims_keeps _)
  refine .trans ?_ (setFans_keeps _)
  exact (sampleTaken_keeps _ _ _ _ s).trans (sampleTransitions_keeps _ _)

theorem execStartEnd_keeps {s t : State} (h : execStartEnd s = .next t) : Keeps s.vitals t.vitals := by
  unfold execStartEnd at h
  split at h
  · next starts =>
    cases h
    obtain ⟨four, -, comp⟩ := starts
    have released : Keeps s.vitals { s.vitals with lds := { s.lds with compUnits := 1 } } := keeps_startEnd (v := s.vitals) four
    refine .trans ?_ (evaluateClaims_keeps _)
    split
    · next start =>
      have moving : ¬s.clg.comp.still := by simp [CompState.still, start]
      refine released.trans ((moveOn_keeps ?_ (by decide)).after rfl)
      exact moving
    · exact released
  · cases h; exact .refl _

theorem execGuardExpiry_keeps {s t : State} (h : execGuardExpiry s = .next t) : Keeps s.vitals t.vitals := by
  unfold execGuardExpiry at h
  split at h <;> cases h
  · refine .trans ?_ (evaluateClaims_keeps _)
    exact (leaveGuard_keeps _).after rfl
  · exact .refl _

theorem execMinimumRunEnd_keeps {s t : State} (h : execMinimumRunEnd s = .next t) : Keeps s.vitals t.vitals := by
  unfold execMinimumRunEnd at h
  split at h
  · next run =>
    cases h
    split
    · exact .of_eq rfl
    · refine .trans ?_ (evaluateClaims_keeps _)
      refine (stopByDemand_keeps (s := s.upTo (s.clg.startedAt + minimumRun)) ?_).after rfl
      simp [CompState.still, State.upTo, run]
  · cases h; exact .refl _

theorem execForcedDefrost_keeps {s t : State} (h : execForcedDefrost s = .next t) : Keeps s.vitals t.vitals := by
  unfold execForcedDefrost at h
  split at h <;> cases h
  · next run =>
    refine .trans ?_ (evaluateClaims_keeps _)
    refine .trans ((compStop_keeps (s.upTo (forcedDefrostTime s))).after rfl) (enterDefrost_keeps ?_)
    simp [CompState.still, compStop, contactorOff, State.upTo, run]
  · exact .refl _

theorem execDefrostMaximum_keeps {s t : State} (h : execDefrostMaximum s = .next t) : Keeps s.vitals t.vitals := by
  unfold execDefrostMaximum at h
  split at h <;> cases h
  · next defrost =>
    refine .trans ?_ (evaluateClaims_keeps _)
    refine (enterDrip_keeps (s := s.upTo (s.clg.stateSince + minutes s.clg.maxInForce)) ?_).after rfl
    simp [CompState.still, State.upTo, defrost]
  · exact .refl _

theorem execDripEnd_keeps {s t : State} (h : execDripEnd s = .next t) : Keeps s.vitals t.vitals := by
  unfold execDripEnd at h
  split at h <;> cases h
  · refine .trans ?_ (evaluateClaims_keeps _)
    exact (enterGuard_keeps _).after rfl
  · exact .refl _

theorem endBlindOn_keeps {s : State} (on : s.clg.comp = .blindOn) : Keeps s.vitals (endBlindOn s).vitals := by
  have moving : ¬s.clg.comp.still := by simp [CompState.still, on]
  unfold endBlindOn
  split
  · exact (compStop_keeps s).trans (enterDefrost_keeps moving)
  · have stopped : Keeps s.vitals (compStop { s with clg := { s.clg with stateSince := s.now } }).vitals :=
      (compStop_keeps _).after rfl
    exact stopped.trans (moveOn_keeps moving (by decide))

theorem execBlindOnEnd_keeps {s t : State} (h : execBlindOnEnd s = .next t) : Keeps s.vitals t.vitals := by
  unfold execBlindOnEnd at h
  split at h <;> cases h
  · next on =>
    refine .trans ?_ (evaluateClaims_keeps _)
    exact (endBlindOn_keeps (s := s.upTo (max s.clg.startedAt s.clg.blindSince + minutes 10)) on.1).after rfl
  · exact .refl _

theorem execBlindOffEnd_keeps {s t : State} (h : execBlindOffEnd s = .next t) : Keeps s.vitals t.vitals := by
  unfold execBlindOffEnd at h
  split at h <;> cases h
  · next off =>
    let u := s.upTo (s.clg.stateSince + minutes 10)
    have moving : ¬u.clg.comp.still := by simp [CompState.still, u, State.upTo, off]
    have on : (setComp .blindOn u).clg.comp = .blindOn := setComp_comp _ _
    refine .trans ?_ (evaluateClaims_keeps _)
    refine .trans ((moveOn_keeps (s := u) moving (by decide)).after rfl) (fileStart_keeps ?_ (by rw [on]; nofun))
    rintro ⟨-, quiet, -⟩ safe
    obtain ⟨-, -, -, -, -, rests, -⟩ := quiet safe
    have still : (setComp .blindOn u).clg.comp.still := rests
    simp [CompState.still, on] at still
  · exact .refl _

theorem execGraceWindowEnd_keeps {s t : State} (h : execGraceWindowEnd s = .next t) : Keeps s.vitals t.vitals := by
  unfold execGraceWindowEnd at h
  split at h <;> cases h <;> exact .of_eq rfl

theorem execStarvationGuard_keeps {s t : State} (h : execStarvationGuard s = .next t) : Keeps s.vitals t.vitals := by
  unfold execStarvationGuard at h
  split at h <;> cases h
  · refine .trans ?_ (evaluateClaims_keeps _)
    refine keeps_claims (v := s.vitals) fun c mem => ?_
    obtain ⟨d, given, rfl⟩ := List.mem_map.1 mem
    exact ⟨d, given, by split <;> rfl, by split <;> rfl⟩
  · exact .refl _

/-! ## The Cabinet Monitor's rows and the Cash Unit's (chapters 3, 5 and 7) -/

theorem requestInactive_keeps (s : State) : Keeps s.vitals (requestInactive s).vitals := .of_eq (by simp [State.vitals])

theorem execServiceRequestChange_keeps {active : Bool} {s t : State} (h : execServiceRequestChange active s = .next t) :
    Keeps s.vitals t.vitals := by
  unfold execServiceRequestChange at h
  dsimp only at h
  split at h <;> cases h
  · exact .refl _
  · split
    · exact (requestActive_keeps _).after rfl
    · exact (requestInactive_keeps _).after rfl

theorem execDoorChange_keeps {isOpen : Bool} {s t : State} (h : execDoorChange isOpen s = .next t) : Keeps s.vitals t.vitals := by
  unfold execDoorChange at h
  split at h <;> cases h
  · exact .refl _
  · exact doorTaken_keeps isOpen s

theorem execSupplyLow_keeps {volts : Nat} {s t : State} (h : execSupplyLow volts s = .next t) : Keeps s.vitals t.vitals := by
  unfold execSupplyLow at h
  dsimp only at h
  split at h <;> cases h
  · exact supplyLow_keeps (by simp) (by simp [State.vitals, supplySampled, State.upTo])
      fun safe => (report_keeps .supply _).reports safe
  · exact .refl _

theorem execSupplyGood_keeps {volts : Nat} {s t : State} (h : execSupplyGood volts s = .next t) : Keeps s.vitals t.vitals := by
  unfold execSupplyGood at h
  dsimp only at h
  split at h <;> cases h
  · exact leaveSafe_keeps (by simp [State.vitals, supplySampled, State.upTo]) fun safe => (report_keeps .supply _).reports safe
  · exact .refl _

theorem execSupplySample_keeps {volts : Nat} {s t : State} (h : execSupplySample volts s = .next t) : Keeps s.vitals t.vitals := by
  unfold execSupplySample at h
  split at h <;> cases h <;> exact .of_eq rfl

theorem execClassReport_keeps {cls : Option (Fin 16)} {s t : State} (h : execClassReport cls s = .next t) :
    Keeps s.vitals t.vitals := by
  unfold execClassReport at h
  split at h <;> cases h
  · exact coinDecided_keeps _ s
  · exact .of_eq rfl

theorem execGateTimeout_keeps {s t : State} (h : execGateTimeout s = .next t) : Keeps s.vitals t.vitals := by
  unfold execGateTimeout at h
  split at h <;> cases h <;> exact .of_eq rfl

theorem execLeverPress_keeps {s t : State} (h : execLeverPress s = .next t) : Keeps s.vitals t.vitals := by
  unfold execLeverPress at h
  dsimp only at h
  split at h <;> cases h
  · exact .refl _
  · split
    · next passes => exact (startRefund_keeps (s := s.leverDown) passes).after rfl
    · exact .of_eq rfl

theorem execEscrowExpiry_keeps {s t : State} (h : execEscrowExpiry s = .next t) : Keeps s.vitals t.vitals := by
  unfold execEscrowExpiry at h
  split at h <;> cases h
  · exact (dropEscrow_keeps _).after rfl
  · exact .refl _

theorem execApprovalDeadlineExpiry_keeps {s t : State} (h : execApprovalDeadlineExpiry s = .next t) :
    Keeps s.vitals t.vitals := by
  unfold execApprovalDeadlineExpiry at h
  split at h <;> cases h
  · exact (deadlineExpires_keeps _).after rfl
  · exact .refl _

/-! ## The tubes' rows and the segments' (chapters 4, 8 and 9) -/

theorem execLowSensorChange_keeps {tube : Fin 6} {covered : Bool} {s t : State} (h : execLowSensorChange tube covered s = .next t) :
    Keeps s.vitals t.vitals := by
  unfold execLowSensorChange at h
  dsimp only at h
  split at h <;> cases h
  · exact .refl _
  · exact storeTube_settle_keeps _ _ s

theorem execFullSensorChange_keeps {tube : Fin 6} {covered : Bool} {s t : State}
    (h : execFullSensorChange tube covered s = .next t) : Keeps s.vitals t.vitals := by
  unfold execFullSensorChange at h
  dsimp only at h
  split at h <;> cases h
  · exact .refl _
  · exact storeTube_settle_keeps _ _ s

theorem execReply_keeps {src kind : Byte} {payload : List Byte} {s t : State} (h : execReply src kind payload s = .next t) :
    Keeps s.vitals t.vitals := by
  cases h
  exact (endDownstream_keeps _ _).after rfl

theorem execResponseTimeout_keeps {s t : State} (h : execResponseTimeout s = .next t) : Keeps s.vitals t.vitals := by
  unfold execResponseTimeout at h
  dsimp only at h
  split at h
  · split at h
    · cases h; exact .refl _
    · split at h <;> cases h
      · exact .of_eq rfl
      · exact (exchangeMissed_keeps _ _).after rfl
  · cases h; exact .refl _

theorem execAnswerStart_keeps {s t : State} (h : execAnswerStart s = .next t) : Keeps s.vitals t.vitals := by
  unfold execAnswerStart at h
  split at h <;> cases h <;> exact .of_eq rfl

theorem execAnswerSent_keeps {s t : State} (h : execAnswerSent s = .next t) : Keeps s.vitals t.vitals := by
  unfold execAnswerSent at h
  dsimp only at h
  split at h <;> cases h <;> exact .of_eq rfl

theorem execDownstreamFrameSent_keeps {s t : State} (h : execDownstreamFrameSent s = .next t) : Keeps s.vitals t.vitals := by
  unfold execDownstreamFrameSent at h
  split at h <;> cases h
  · exact (frameSent_keeps _).after rfl
  · exact .refl _

theorem execPollDue_keeps {entry : Fin 8} {s t : State} (h : execPollDue entry s = .next t) : Keeps s.vitals t.vitals := by
  unfold execPollDue at h
  dsimp only at h
  split at h <;> cases h <;> exact .of_eq rfl

/-! ## Every command and every step -/

theorem delivered_keeps {act : State → Answer × State} {src kind : Byte} {s t : State} (acts : ∀ s, Keeps s.vitals (act s).2.vitals)
    (h : Host.Outcome.next (deliver src kind act s) = (.next t : Result)) : Keeps s.vitals t.vitals := by
  cases h
  exact deliver_keeps acts src kind s

theorem exec_keeps {i : Instr} {s t : State} (h : exec i s = .next t) : Keeps s.vitals t.vitals := by
  cases i
  case powerOnReset levels => cases h; exact powerOn_keeps _ levels s
  case reset => exact delivered_keeps (noParams_keeps resetCommand_keeps _) h
  case ping => exact delivered_keeps (noParams_keeps (fun _ => .refl _) _) h
  case tableRead => exact delivered_keeps (fun _ => .refl _) h
  case tableWrite => exact delivered_keeps (tableWriteAnswer_keeps _) h
  case selectionWrite => exact delivered_keeps (writeSelection_keeps _) h
  case trayWrite => exact delivered_keeps (writeTray_keeps _) h
  case coinTableWrite => exact delivered_keeps (writeCoin_keeps _) h
  case billTableWrite => exact delivered_keeps (writeBill_keeps _) h
  case tubeTableWrite => exact delivered_keeps (writeTube_keeps _) h
  case routeTableWrite => exact delivered_keeps (writeRoute_keeps _) h
  case vendSettingsWrite => exact delivered_keeps (writeVendSettings_keeps _) h
  case coolingSettingsWrite => exact delivered_keeps (writeCooling_keeps _) h
  case calibrationWrite => exact delivered_keeps (writeCalibration_keeps _) h
  case driveAndLinkSettingsWrite => exact delivered_keeps (writeDriveLink_keeps _) h
  case reportPoll => exact delivered_keeps (noParams_keeps reportPollAnswer_keeps _) h
  case goOnline => exact delivered_keeps (noParams_keeps goOnlineCommand_keeps _) h
  case goOffline => exact delivered_keeps (noParams_keeps goOfflineCommand_keeps _) h
  case vend => exact delivered_keeps (vendFrame_keeps _) h
  case vendCancel => exact delivered_keeps (noParams_keeps vendCancelCommand_keeps _) h
  case refund => exact delivered_keeps (noParams_keeps refundCommand_keeps _) h
  case payout => exact delivered_keeps (payoutCommand_keeps _) h
  case tubeCount => exact delivered_keeps (tubeCountFrame_keeps _) h
  case hostBillMask => exact delivered_keeps (hostBillMaskFrame_keeps _) h
  case economyOn => exact delivered_keeps (noParams_keeps (economyCommand_keeps true) _) h
  case economyOff => exact delivered_keeps (noParams_keeps (economyCommand_keeps false) _) h
  case holdRelease => exact delivered_keeps (noParams_keeps holdReleaseCommand_keeps _) h
  case sweep => exact delivered_keeps (sweepCommand_keeps _) h
  case sweepStop => exact delivered_keeps (noParams_keeps sweepStopCommand_keeps _) h
  case auditClear => exact delivered_keeps (noParams_keeps auditClearCommand_keeps _) h
  case transit => exact delivered_keeps (transitCommand_keeps _ _ _) h
  case endOfFrame seg => cases h; exact frameEnds_keeps seg s
  case reply => exact execReply_keeps h
  case responseTimeout => exact execResponseTimeout_keeps h
  case lineBreak seg => cases h; exact breakTaken_keeps seg s
  case breakEnd seg => cases h; exact breakEnds_keeps seg s
  case answerStart => exact execAnswerStart_keeps h
  case answerSent => exact execAnswerSent_keeps h
  case exchangeStart => cases h; exact nextExchange_keeps s
  case downstreamFrameSent => exact execDownstreamFrameSent_keeps h
  case pollDue => exact execPollDue_keeps h
  case serviceRequestChange => exact execServiceRequestChange_keeps h
  case doorChange => exact execDoorChange_keeps h
  case supplyLow => exact execSupplyLow_keeps h
  case supplyGood => exact execSupplyGood_keeps h
  case classReport => exact execClassReport_keeps h
  case clearReport => cases h; exact .of_eq rfl
  case gateTimeout => exact execGateTimeout_keeps h
  case leverPress => exact execLeverPress_keeps h
  case escrowExpiry => exact execEscrowExpiry_keeps h
  case approvalDeadlineExpiry => exact execApprovalDeadlineExpiry_keeps h
  case camChange => exact execCamChange_keeps h
  case stuckAtHome => exact execStuckAtHome_keeps h
  case noHome => exact execNoHome_keeps h
  case openTest => exact execOpenTest_keeps h
  case motorShort => exact execMotorShort_keeps h
  case motorJam => exact execMotorJam_keeps h
  case dropEvent => exact execDropEvent_keeps h
  case dropWindowClose => exact execDropWindowClose_keeps h
  case coilCheckEnd => exact execCoilCheckEnd_keeps h
  case coilCheckShort => exact execCoilCheckShort_keeps h
  case payoutPulseEnd => exact execPayoutPulseEnd_keeps h
  case payoutCoinSeen => exact execPayoutCoinSeen_keeps h
  case sensorWindowExpiry => exact execSensorWindowExpiry_keeps h
  case driveJam => exact execDriveJam_keeps h
  case lowSensorChange => exact execLowSensorChange_keeps h
  case fullSensorChange => exact execFullSensorChange_keeps h
  case coolingSample => exact execCoolingSample_keeps h
  case startEnd => exact execStartEnd_keeps h
  case guardExpiry => exact execGuardExpiry_keeps h
  case minimumRunEnd => exact execMinimumRunEnd_keeps h
  case forcedDefrost => exact execForcedDefrost_keeps h
  case defrostMaximum => exact execDefrostMaximum_keeps h
  case dripEnd => exact execDripEnd_keeps h
  case blindOnEnd => exact execBlindOnEnd_keeps h
  case blindOffEnd => exact execBlindOffEnd_keeps h
  case graceWindowEnd => exact execGraceWindowEnd_keeps h
  case starvationGuard => exact execStarvationGuard_keeps h
  case characterTaken => cases h; exact characterTaken_keeps ..
  case supplySample => exact execSupplySample_keeps h
  case leverRelease => cases h; exact .of_eq rfl
  case dropCurtainClear => cases h; exact .of_eq rfl
  case payoutSensorInactive => cases h; exact .of_eq rfl

/-- Every step keeps every invariant that the state has before it. -/
theorem step_keeps {s t : State} (h : step s = .next t) : Keeps s.vitals t.vitals := by
  unfold step at h
  split at h
  · exact (exec_keeps h).after rfl
  · cases h; exact .of_eq rfl

end Sys2Proof.Machine
end

section
/-! SUPPORT. The invariants after reset and after every step, and vendability after every stored write (R3, R4, R29, R135, R136, R141,
R144, R193). -/

namespace Sys2Proof.Machine

/-- Settles O57: each of the invariants is among those that every step keeps. -/
theorem everyStepKeepsUnitsAndDrivesSafe : Obligations.EveryStepKeepsUnitsAndDrivesSafe := by
  refine ⟨fun s t safe h => (step_keeps h).units safe, fun s t h => ?_⟩
  obtain ⟨-, payout, compressor, unclaimed, check, matrix, -, -, -⟩ := step_keeps h
  exact ⟨payout, compressor, unclaimed, check, matrix⟩

/-- Settles O58: the report queue's invariant is among those that every step keeps. -/
theorem everyStepKeepsTheReportsSafe : Obligations.EveryStepKeepsTheReportsSafe := fun s t safe h =>
  (reportsSafe_iff t).2 ((step_keeps h).reports ((reportsSafe_iff s).1 safe))

/-- Settles O59: the invariant of SAFE, with the ownership of what is driven, is among those that every step keeps. -/
theorem everyStepKeepsSafeQuiet : Obligations.EveryStepKeepsSafeQuiet := fun _ _ quiet h => (step_keeps h).quiet quiet

theorem salesCurrent_reset : SalesCurrent State.reset := salesCurrent_powerOn rfl rfl rfl

/-- Settles O60: the parts of the state after reset are those of a power-on reset with the levels of log entry 5. -/
theorem resetMeetsEveryInvariant : Obligations.ResetMeetsEveryInvariant := by
  refine ⟨?_, ?_, ?_, ?_, ?_, ?_, ?_, ?_, ?_, ?_, ?_⟩
  case refine_1 => exact ⟨by decide, nofun⟩
  case refine_2 => exact ⟨by decide, by decide, fun k => by simp [State.reset, Rpq.powerOn], nofun, by simp [State.reset, Rpq.powerOn]⟩
  case refine_3 => exact ⟨nofun, nofun⟩
  case refine_4 => exact ⟨nofun, nofun⟩
  case refine_5 => nofun
  case refine_6 => nofun
  case refine_7 => exact ⟨by decide, by decide⟩
  case refine_8 => exact ⟨nofun, nofun⟩
  case refine_9 => nofun
  case refine_10 => exact ⟨fun on => by simp [State.reset, Spd.powerOn] at on, nofun⟩
  case refine_11 => nofun

theorem settleCash_salesCurrent {before s : State} (h : SalesCurrent s) : SalesCurrent (settleCash before s) :=
  (settleCash_keeps before s).sales h

theorem storeSelectionWrite_salesCurrent (w : Write) (s : State) : SalesCurrent (storeSelectionWrite w s) :=
  settleCash_salesCurrent (selRefresh_salesCurrent _)

theorem storeTrayWrite_salesCurrent (w : Write) (s : State) : SalesCurrent (storeTrayWrite w s) :=
  settleCash_salesCurrent (selRefresh_salesCurrent _)

/-- R6, R25: a delivered write that its owner stores leaves what its store leaves, but for the Upstream Link. -/
theorem delivered_salesCurrent {src : Byte} {id : Nat} {p : List Byte} {w : Write} {refusal : State → Write → Option Status}
    {store : Write → State → State} {s : State} (free : Deliverable s) (read : readWrite id p = .ok w)
    (passes : refusal s.taken w = none) (stored : ∀ u, SalesCurrent (store w u)) :
    SalesCurrent (deliver src kTableWrite (ownedWrite id refusal store p) s) := by
  rw [deliver_eq _ _ _ free, ownedWrite_read read, passes]
  exact stored s.taken

/-- Settles O11: what table 1 or 2 stores ends in an evaluation of vendability, and every step keeps what that evaluation
gives. -/
theorem storedEntriesSetVendability : Obligations.StoredEntriesSetVendability := by
  refine ⟨fun src p w s t free write => ?_, salesCurrent_reset, fun s t current h => (step_keeps h).sales current⟩
  obtain ⟨read, passes, h⟩ | ⟨read, passes, h⟩ := write <;> cases h
  · exact delivered_salesCurrent free read passes (storeSelectionWrite_salesCurrent w)
  · exact delivered_salesCurrent free read passes (storeTrayWrite_salesCurrent w)

end Sys2Proof.Machine
end

section
/-! SUPPORT. The step, the power-on reset and the management rows: what they are, as one equation each (R146, R147, R149, R178). -/

namespace Sys2Proof.Machine

/-- Settles O1: a step is the command at the front of the queue. -/
theorem stepRunsTheFrontCommand : Obligations.StepRunsTheFrontCommand := by
  intro c rest s front
  rw [step, front]

/-- Settles O4: each row delivers what its KIND and its table id or command code select. -/
theorem eachRowIsItsFrameDelivered : Obligations.EachRowIsItsFrameDelivered := by
  intro src p s
  and_intros <;> rfl

/-! ## The power-on reset (R146) -/

/-- R174: the Downstream Link as the segment is released. -/
def Dlk.releasedTo (d : Dlk) : Dlk := { d with
  seg := .released
  requestWaiting := false
  sgr := true
  dde := false
  polls := tmap (fun p => { p with due := false, deferred := false }) d.polls }

/-- R173, R174: outside ONLINE a request with nothing in flight takes the segment at once. -/
theorem requestActive_idle {s : State} (owned : s.dlk.seg = .owned) (mode : s.mgt.mode ≠ .online)
    (exchange : s.dlk.exchange = none) (sending : s.dlk.sending = none) :
    requestActive s = { s with dlk := s.dlk.releasedTo } := by
  rw [requestActive, if_pos owned, if_neg mode, pendRelease, tryRelease, if_pos ⟨rfl, exchange, sending⟩]
  rfl

/-- R131, R147: the Cooling Unit after a power-on reset; an open door opens the grace window. -/
def poweredCooling (l : PowerOnLevels) : Clg :=
  { Clg.powerOn with grace := if l.doorOpen then some ⟨0, minutes 45⟩ else none }

/-- R149, R173: the Downstream Link after a power-on reset; an active request line takes the segment. -/
def poweredLink (l : PowerOnLevels) : Dlk :=
  if l.srqActive then Dlk.powerOn.releasedTo else Dlk.powerOn

/-- R146, R147: the first reports of a power-on reset. -/
def poweredReports (l : PowerOnLevels) : Rpq := { Rpq.powerOn with
  queue := (if l.volts < 190 then [.state .supply] else []) ++ (if l.doorOpen then [.state .door] else []) }

theorem reported_rpq (k : StateKey) {s : State} (new : .state k ∉ s.rpq.queue)
    (free : s.rpq.queue.length + s.rpq.reserved < 32) :
    report k s = { s with rpq := { s.rpq with queue := s.rpq.queue ++ [.state k] } } := by
  rw [report, if_neg new, if_pos (show 0 < freeSlots s by unfold freeSlots; omega)]

/-- R146, R149, R173: what a power-on reset leaves. -/
theorem powerOn_eq (l : PowerOnLevels) (s : State) : powerOn l s =
    { poweredState l s with clg := poweredCooling l, dlk := poweredLink l, rpq := poweredReports l } := by
  have supply : reportIf (decide (l.volts < 190)) .supply (poweredState l s) = { poweredState l s with
      rpq := { Rpq.powerOn with queue := if l.volts < 190 then [.state .supply] else [] } } := by
    unfold reportIf
    split
    · next low => rw [reported_rpq _ (by simp [poweredState, State.reset, Rpq.powerOn])
        (by simp [poweredState, State.reset, Rpq.powerOn]), if_pos (of_decide_eq_true low)]; rfl
    · next low => rw [if_neg fun h => low (decide_eq_true h)]; rfl
  have door : (if l.doorOpen then coolDoor true (report .door { poweredState l s with
        rpq := { Rpq.powerOn with queue := if l.volts < 190 then [.state .supply] else [] } })
      else { poweredState l s with rpq := { Rpq.powerOn with queue := if l.volts < 190 then [.state .supply] else [] } }) =
      { poweredState l s with clg := poweredCooling l, rpq := poweredReports l } := by
    cases isOpen : l.doorOpen with
    | false =>
      simp only [poweredCooling, poweredReports, isOpen, Bool.false_eq_true, if_false, List.append_nil]
      rfl
    | true =>
      rw [if_pos rfl, reported_rpq _ (by dsimp only; split <;> simp) (by dsimp only; split <;> simp [Rpq.powerOn])]
      simp [coolDoor, setFans, graceOpens, poweredCooling, poweredReports, isOpen, poweredState, poweredMonitor, State.reset,
        Clg.powerOn]
  unfold powerOn
  dsimp only
  rw [supply, door]
  cases active : l.srqActive with
  | false =>
    simp only [poweredLink, active, Bool.false_eq_true, if_false]
    rfl
  | true =>
    have mode : (poweredState l s).mgt.mode ≠ .online := by
      simp only [poweredState]
      split <;> nofun
    have released := requestActive_idle (s := { poweredState l s with clg := poweredCooling l, rpq := poweredReports l }) rfl mode rfl rfl
    rw [if_pos rfl, released, poweredLink, if_pos active]
    rfl

/-- Settles O2: the tables and totals are those of the power-on values. -/
theorem powerOnResetSetsEveryTable : Obligations.PowerOnResetSetsEveryTable := by
  intro l s
  refine ⟨powerOn l s, rfl, ?_⟩
  rw [powerOn_eq]
  refine ⟨fun i hi => ⟨?entry, ?vendable, ?health, ?late⟩, rfl, fun i hi => ⟨?tray, ?bill, ?mask, ?route⟩, fun i hi => ?coin,
    fun i hi => ?tube, fun i hi => ?anomaly, rfl, fun i hi => ?sensor, rfl, rfl, rfl, rfl, rfl, rfl, rfl⟩
  case vendable | health | late | mask => exact tget_replicate _ _ hi
  case entry | tray | bill | coin | sensor => exact tget_replicate_same _ i
  case tube =>
    show tget (tmk 6 (poweredTube l)) Tube.powerOn i = _
    rw [tget_tmk _ _ hi]
    rfl
  case anomaly => exact congrArg Anomaly.count (tget_replicate _ _ hi)
  case route =>
    show tget (poweredLink l).routes Route.powerOn i = _
    unfold poweredLink
    split <;> exact tget_replicate_same _ i

/-- Settles O3: everything but the first reports, the grace window and the segment is at its power-on values. -/
theorem powerOnResetEndsAllWork : Obligations.PowerOnResetEndsAllWork := by
  refine ⟨fun l s => ⟨powerOn l s, rfl, ?_⟩, fun l s => ⟨powerOn l s, rfl, ?_⟩⟩ <;> rw [powerOn_eq]
  · cases active : l.srqActive
    all_goals
      simp only [poweredLink, active]
      and_intros <;> rfl
  · have link : (poweredLink l).seg = (if l.srqActive then .released else .owned) ∧ (poweredLink l).sgr = l.srqActive ∧
        (poweredLink l).requestWaiting = false := by
      cases active : l.srqActive <;> simp only [poweredLink, active] <;> and_intros <;> rfl
    obtain ⟨seg, sgr, waiting⟩ := link
    have supply : ms 10 = 0 + ms 10 := (Nat.zero_add _).symm
    have grace : (poweredCooling l).grace = if l.doorOpen then some ⟨0, 0 + minutes 45⟩ else none := by
      rw [Nat.zero_add]
      rfl
    exact ⟨rfl, rfl, rfl, rfl, rfl, rfl, rfl, supply, rfl, rfl, grace, rfl, seg, sgr, waiting, rfl⟩

end Sys2Proof.Machine
end

section
/-! SUPPORT. The answer that ULK sends (R155 to R157). -/

namespace Sys2Proof.Machine

/-- Settles O51: each of the two rows moves the clock and the answer alone. -/
theorem answersAreSentOnceAndInFull : Obligations.AnswersAreSentOnceAndInFull := by
  intro s
  refine ⟨fun chars turnaround answer => ?_, fun sending => ?_⟩
  · refine ⟨beginAnswer chars s, ?_, rfl, rfl, by constructor <;> simp [beginAnswer]⟩
    show execAnswerStart s = _
    rw [execAnswerStart, turnaround, answer]
  · refine ⟨_, if_pos sending, rfl, rfl, by constructor <;> simp⟩

end Sys2Proof.Machine
end

section
/-! SUPPORT. Writes of the selection and the tube tables: their checks as one chain, and what they store (R6, R7, R76). -/

namespace Sys2Proof.Machine

/-! ## The fields a write may give -/

/-- Of a layout split in two lists, only fields of the first are given exactly when none of the second is. -/
theorem not_only_iff {w : Write} {n : Nat} (len : w.given.length = n) (allowed barred : List Nat)
    (split : ∀ i < n, i ∈ allowed ∨ i ∈ barred) (apart : ∀ i ∈ barred, i ∉ allowed) :
    ¬w.only allowed = true ↔ barred.any w.has = true := by
  rw [only_iff, List.any_eq_true]
  constructor
  · intro given
    obtain ⟨i, hi⟩ := not_forall.1 given
    obtain ⟨has, outside⟩ := Classical.not_imp.1 hi
    have inside : i < n := by
      by_contra beyond
      simp [has_eq_false_of_le (show w.given.length ≤ i by omega)] at has
    exact ⟨i, (split i inside).resolve_left outside, has⟩
  · rintro ⟨i, hi, has⟩ only
    exact apart i hi (only i has)

/-! ## Table 1 (R6, R7) -/

theorem selectionPermitted_iff {w : Write} (len : w.given.length = 11) (m : Mode) :
    (!selectionPermitted m w) = true ↔
      m = .safe ∨ (m ≠ .setup ∧ (w.get 0 = some 0 ∨ [1, 2, 3, 4, 9, 10].any w.has = true)) := by
  have others := not_only_iff len [0, 5, 6, 7, 8] [1, 2, 3, 4, 9, 10] (by decide) (by decide)
  have permitted : ¬(w.only [0, 5, 6, 7, 8] && w.get 0 != some 0) = true ↔
      w.get 0 = some 0 ∨ [1, 2, 3, 4, 9, 10].any w.has = true := by
    rw [Bool.and_eq_true, not_and_or, others, bne_iff_ne, not_not, or_comm]
  cases m <;> simp only [selectionPermitted, permitted, Bool.not_eq_true', ← Bool.not_eq_true, reduceCtorEq, ne_eq,
    not_true_eq_false, not_false_eq_true, true_and, false_and, or_false, false_or, true_or]

theorem selectionInRange_iff (w : Write) :
    (!selectionInRange w) = true ↔
      7 < w.nat 1 0 ∨ 9 < w.nat 2 0 ∨ w.nat 6 1 = 0 ∨ 9999 < w.nat 6 1 ∨ (255 < w.nat 7 0 ∧ w.nat 7 0 ≠ 65535) ∨
        2 < w.nat 9 0 ∨ w.get 0 = some 3 ∨ w.get 0 = some 4 := by
  simp only [selectionInRange, Bool.not_eq_true', Bool.and_eq_false_iff, decide_eq_false_iff_not, bne_eq_false_iff_eq,
    not_and_or, not_or, Nat.not_le, Nat.lt_one_iff, or_assoc, ne_eq]

/-- R6: the checks of a selection write, as one chain. -/
theorem selectionRefusal_eq (s : State) {w : Write} (len : w.given.length = 11) :
    selectionRefusal s w =
      if 80 ≤ w.index then some .badIndex
      else if s.mgt.mode = .safe ∨
          (s.mgt.mode ≠ .setup ∧ (w.get 0 = some 0 ∨ [1, 2, 3, 4, 9, 10].any w.has = true)) then some .wrongMode
      else if s.vnd.ctx.any (fun v => v.selection = w.index) = true then some .entryBusy
      else if 7 < w.nat 1 0 ∨ 9 < w.nat 2 0 ∨ w.nat 6 1 = 0 ∨ 9999 < w.nat 6 1 ∨ (255 < w.nat 7 0 ∧ w.nat 7 0 ≠ 65535) ∨
          2 < w.nat 9 0 ∨ w.get 0 = some 3 ∨ w.get 0 = some 4 then some .badValue
      else none := by
  have busy : (s.vnd.ctx.map fun v => v.selection == w.index).getD false =
      s.vnd.ctx.any fun v => v.selection = w.index := by
    cases s.vnd.ctx <;> rfl
  simp only [selectionRefusal, selectionPermitted_iff len, busy, selectionInRange_iff]

/-- The stock that a write names, 0xFFFF meaning that it is not tracked. -/
theorem stockWritten_eq (w : Write) (held : Option Nat) :
    ((w.get 7).map fun v => if v = 65535 then none else some v.toNat).getD held =
      if w.has 7 then (if w.nat 7 0 = 65535 then none else some (w.nat 7 0)) else held := by
  have untracked (v : Int) : v = 65535 ↔ v.toNat = 65535 := by omega
  cases hv : w.get 7 with
  | none => simp [Write.has, hv]
  | some v => simp [Write.has, Write.nat, hv, untracked]

theorem faultCleared_iff (w : Write) (e : Selection) :
    faultCleared w e = true ↔ (e.state = .jammed ∨ e.state = .emptySuspect) ∧ (w.get 0 = some 1 ∨ w.get 0 = some 2) := by
  simp only [faultCleared, Bool.and_eq_true, Bool.or_eq_true, beq_iff_eq]

/-- R6, R7: the entry that a write stores, field by field. -/
theorem selectionWritten_eq (w : Write) (e : Selection) :
    selectionWritten w e =
      { state := if w.has 0 then selStateOf (w.int 0 0) else e.state
        tray := w.nat 1 e.tray
        column := w.nat 2 e.column
        twin := w.bool 3 e.twin
        chilled := w.bool 4 e.chilled
        perishable := w.bool 5 e.perishable
        price := w.nat 6 e.price
        stock := if w.has 7 then (if w.nat 7 0 = 65535 then none else some (w.nat 7 0)) else e.stock
        secondTurn := w.bool 8 e.secondTurn
        noDropRun := w.nat 9
          (if (e.state = .jammed ∨ e.state = .emptySuspect) ∧ (w.get 0 = some 1 ∨ w.get 0 = some 2) then 0
           else e.noDropRun)
        sales := w.nat 10 e.sales } := by
  have state : ((w.get 0).map selStateOf).getD e.state = if w.has 0 then selStateOf (w.int 0 0) else e.state := by
    cases h : w.get 0 <;> simp [Write.has, Write.int, h]
  simp only [selectionWritten, state, stockWritten_eq, faultCleared_iff]

theorem storeSelection_table (i : Nat) (e : Selection) (s : State) :
    (storeSelection i e s).sel.table = tset s.sel.table i e := by
  simp [storeSelection]

/-- R8: a changed state or stock is reported. -/
theorem storeSelection_reported {i : Nat} {e : Selection} {s : State}
    (changed : e.state ≠ (selOf s i).state ∨ e.stock ≠ (selOf s i).stock) :
    Reported (.selection i) (storeSelection i e s) := by
  have differs : ((selOf s i).state != e.state || (selOf s i).stock != e.stock) = true := by
    rw [Bool.or_eq_true, bne_iff_ne, bne_iff_ne]
    exact changed.imp Ne.symm Ne.symm
  rw [storeSelection, differs]
  exact report_reported _ _

/-- What a stored selection write leaves (R6, R7). -/
structure SelectionStored (w : Write) (s t : State) : Prop where
  entry : selOf t w.index = selectionWritten w (selOf s w.index)
  others : ∀ j, j ≠ w.index → selOf t j = selOf s j
  reported : (selOf t w.index).state ≠ (selOf s w.index).state ∨ (selOf t w.index).stock ≠ (selOf s w.index).stock →
    Reported (.selection w.index) t
  only : ChangesOnly (.ulk :: Block.sales) s t
  account : SameAccount s t
  link : SameLink s t
  cooling : SameCooling s t

theorem storeSelectionWrite_entry {w : Write} (s : State) (h : w.index < 80) :
    selOf (storeSelectionWrite w s) w.index = selectionWritten w (selOf s w.index) := by
  simp [storeSelectionWrite, selOf, storeSelection_table, tget_tset_same _ _ _ h]

theorem storeSelectionWrite_stored {w : Write} (s : State) (x : Ulk) (h : w.index < 80) :
    SelectionStored w s { storeSelectionWrite w s.taken with ulk := x } where
  entry := storeSelectionWrite_entry s.taken h
  others j hj := by simp [storeSelectionWrite, selOf, storeSelection_table, tget_tset_ne _ _ _ hj]
  reported changed := by
    have entry := storeSelectionWrite_entry s.taken h
    have stored : Reported (.selection w.index) (storeSelection w.index (selectionWritten w (selOf s w.index)) s.taken) :=
      storeSelection_reported (by rw [← show selOf { storeSelectionWrite w s.taken with ulk := x } w.index =
        selectionWritten w (selOf s w.index) from entry]; exact changed)
    exact (stored.selRefresh.settleCash s.taken).of_rpq rfl
  only := by constructor <;> simp [Block.sales, storeSelectionWrite]
  account := (settleCash_sameAccount _ _).of_csh (by simp)
  link := (settleCash_sameLink _ _).of_dlk (by simp)
  cooling := by
    simp only [SameCooling, storeSelectionWrite, settleCash_frame]
    exact (selRefresh_sameCooling _).of_clg (by simp)

/-- Settles O10: the checks as one chain of answers, and at its end what the stored entry leaves. -/
theorem selectionWriteChecksThenStores : Obligations.SelectionWriteChecksThenStores := by
  intro src p w s h hr
  refine ⟨_, rfl, ?_⟩
  have outcome := deliver_ownedWrite src (refusal := selectionRefusal) (store := storeSelectionWrite) h hr rfl
    (by simp [storeSelectionWrite])
  simp only [selectionRefusal_eq s (readWrite_length hr), writeOutcome_ite] at outcome
  refine else_imp (fun inTable => else_imp fun _ => else_imp fun _ => else_imp fun _ => ?_) outcome
  rintro ⟨answered, beside⟩
  obtain ⟨entry, others, reported, only, account, link, cooling⟩ :=
    beside ▸ storeSelectionWrite_stored (w := w) s _ (Nat.lt_of_not_le inTable)
  exact ⟨answered, entry.trans (selectionWritten_eq _ _), others, reported, only, account, link, cooling⟩

/-! ## Table 5 (R76) -/

theorem tubePermitted_iff {w : Write} (len : w.given.length = 8) (m : Mode) :
    (!tubePermitted m w) = true ↔
      m = .safe ∨ [2, 5, 6, 7].any w.has = true ∨ (m ≠ .setup ∧ [0, 1, 4].any w.has = true) := by
  have setup := not_only_iff len [0, 1, 3, 4] [2, 5, 6, 7] (by decide) (by decide)
  have later := not_only_iff len [3] ([2, 5, 6, 7] ++ [0, 1, 4]) (by decide) (by decide)
  rw [List.any_append, Bool.or_eq_true] at later
  cases m <;> simp [tubePermitted, setup, later, ← Bool.not_eq_true]

theorem Tube.not_inRange_iff (n : Tube) :
    (!n.inRange) = true ↔ 9999 < n.denom ∨ n.capacity = 0 ∨ 200 < n.capacity ∨ n.capacity < n.reserve ∨ n.lowLevel = 0 ∨
      n.capacity < n.lowLevel := by
  simp only [Tube.inRange, Bool.not_eq_true', Bool.and_eq_false_iff, decide_eq_false_iff_not, not_and_or, Nat.not_le,
    Nat.lt_one_iff, or_assoc]

/-- R76: the checks of a tube write, as one chain. -/
theorem tubeRefusal_eq (s : State) {w : Write} (len : w.given.length = 8) :
    tubeRefusal s w =
      let n := tubeWritten w (tubeOf s w.index)
      if 6 ≤ w.index then some .badIndex
      else if s.mgt.mode = .safe ∨ ([2, 5, 6, 7].any w.has = true) ∨
          (s.mgt.mode ≠ .setup ∧ [0, 1, 4].any w.has = true) then some .wrongMode
      else if s.chg.payout.isSome then some .entryBusy
      else if 9999 < n.denom ∨ n.capacity = 0 ∨ 200 < n.capacity ∨ n.capacity < n.reserve ∨ n.lowLevel = 0 ∨
          n.capacity < n.lowLevel then some .badValue
      else none := by
  simp only [tubeRefusal, tubePermitted_iff len, Tube.not_inRange_iff]

/-- What a stored tube write leaves, its answer among it (R76, R81). -/
structure TubeWriteStored (w : Write) (s t : State) : Prop where
  entry : tubeOf t w.index = tubeWritten w (tubeOf s w.index)
  others : ∀ j, j ≠ w.index → tubeOf t j = tubeOf s j
  reported : tubeWritten w (tubeOf s w.index) ≠ tubeOf s w.index → Reported (.tube w.index) t
  chg : t.chg = { s.chg with tubes := t.chg.tubes }
  only : ChangesOnly (.ulk :: .chg :: Block.cash) s t
  account : SameAccount s t
  link : SameLink s t

theorem storeTubeWrite_stored {w : Write} (s : State) (x : Ulk) (h : w.index < 6) :
    TubeWriteStored w s { storeTubeWrite w s.taken with ulk := x } := by
  obtain ⟨entry, others, reported, chg, -, account, link⟩ :=
    settleTube_stored (tubeWritten w (tubeOf s w.index)) s.taken h
  exact ⟨entry, others, fun changed => (reported changed).of_rpq rfl, chg,
    by constructor <;> simp [Block.cash, storeTubeWrite], account, link⟩

/-- Settles O13: the checks as one chain of answers, and at its end the tube as stored. -/
theorem tubeWriteChecksThenStores : Obligations.TubeWriteChecksThenStores := by
  intro src p w s h hr
  refine ⟨_, rfl, ?_⟩
  have outcome := deliver_ownedWrite src (refusal := tubeRefusal) (store := storeTubeWrite) h hr rfl
    (by simp [storeTubeWrite])
  simp only [tubeRefusal_eq s (readWrite_length hr), writeOutcome_ite] at outcome
  refine else_imp (fun inTable => else_imp fun _ => else_imp fun _ => else_imp fun _ => ?_) outcome
  rintro ⟨answered, beside⟩
  obtain ⟨entry, others, reported, chg, only, account, link⟩ :=
    beside ▸ storeTubeWrite_stored (w := w) s _ (Nat.lt_of_not_le inTable)
  exact ⟨answered, entry, others, reported, chg, only, account, link⟩

end Sys2Proof.Machine
end

section
/-! SUPPORT. Refused frames change nothing (R179), and a transit's checks, answer and place in the queue (R171). -/

namespace Sys2Proof.Machine

/-! ## A status other than OK (R179) -/

/-- An answer with a status other than OK stands beside the state it was given in. -/
def KeptUnlessOk (s : State) (r : Answer × State) : Prop := r.1.status ≠ .ok → r.2 = s

theorem keptUnlessOk_same (s : State) (a : Answer) : KeptUnlessOk s (a, s) := fun _ => rfl

theorem keptUnlessOk_ok (s t : State) (fields : List Byte) : KeptUnlessOk s (okAnswer fields, t) :=
  fun notOk => absurd rfl notOk

/-- A frame answered by a chain of checks, of which each refusal leaves the state. -/
theorem keptUnlessOk_elim (s t : State) (r : Option Status) (fields : List Byte) :
    KeptUnlessOk s (r.elim (okAnswer fields, t) fun st => (refuse st, s)) := by
  cases r with
  | none => exact keptUnlessOk_ok s t fields
  | some st => exact keptUnlessOk_same s _

theorem keptUnlessOk_ite {s : State} {c : Prop} [Decidable c] {x y : Answer × State} (hx : KeptUnlessOk s x)
    (hy : KeptUnlessOk s y) : KeptUnlessOk s (if c then x else y) := by
  split
  · exact hx
  · exact hy

theorem keptUnlessOk_noParams {s : State} {f : State → Answer × State} (h : KeptUnlessOk s (f s)) (p : List Byte) :
    KeptUnlessOk s (noParams f p s) :=
  keptUnlessOk_ite h (keptUnlessOk_same s _)

/-! ## Table writes -/

theorem ownedWrite_keptUnlessOk (id : Nat) (refusal : State → Write → Option Status) (store : Write → State → State)
    (p : List Byte) (s : State) : KeptUnlessOk s (ownedWrite id refusal store p s) := by
  unfold ownedWrite
  split
  · exact keptUnlessOk_same s _
  · split
    · exact keptUnlessOk_same s _
    · exact keptUnlessOk_ok s _ _

theorem tableWriteAnswer_keptUnlessOk (p : List Byte) (s : State) : KeptUnlessOk s (tableWriteAnswer p s) := by
  unfold tableWriteAnswer
  split
  · exact keptUnlessOk_same s _
  · split
    on_goal 11 => exact keptUnlessOk_same s _
    on_goal 11 => exact keptUnlessOk_same s _
    on_goal 11 => exact keptUnlessOk_same s _
    on_goal 11 => exact keptUnlessOk_same s _
    all_goals exact ownedWrite_keptUnlessOk _ _ _ _ s

/-! ## Commands -/

theorem goOnlineCommand_keptUnlessOk (s : State) : KeptUnlessOk s (goOnlineCommand s) := by
  unfold goOnlineCommand
  refine keptUnlessOk_ite (keptUnlessOk_same s _) ?_
  split
  · exact keptUnlessOk_same s _
  · exact keptUnlessOk_ok s _ _

theorem vendCommand_eq (i : Nat) (pay : Payment) (s : State) :
    vendCommand i pay s = (vendRefusal s i pay).elim (okAnswer [], acceptVend i pay s) fun st => (refuse st, s) := by
  unfold vendCommand
  cases vendRefusal s i pay <;> rfl

theorem vendFrame_keptUnlessOk (p : List Byte) (s : State) : KeptUnlessOk s (vendFrame p s) := by
  unfold vendFrame
  split
  · split
    · rw [vendCommand_eq]; exact keptUnlessOk_elim s _ _ _
    · exact keptUnlessOk_same s _
  · exact keptUnlessOk_same s _

theorem vendCancelCommand_keptUnlessOk (s : State) : KeptUnlessOk s (vendCancelCommand s) := by
  unfold vendCancelCommand
  split
  · exact keptUnlessOk_same s _
  · exact keptUnlessOk_ite (keptUnlessOk_ok s _ _) (keptUnlessOk_same s _)

theorem payoutCommand_keptUnlessOk (p : List Byte) (s : State) : KeptUnlessOk s (payoutCommand p s) := by
  unfold payoutCommand
  split
  · exact keptUnlessOk_same s _
  · split
    · exact keptUnlessOk_same s _
    · exact keptUnlessOk_ok s _ _

theorem tubeCountFrame_keptUnlessOk (p : List Byte) (s : State) : KeptUnlessOk s (tubeCountFrame p s) := by
  unfold tubeCountFrame
  split
  · rw [tubeCountCommand_eq]; exact keptUnlessOk_elim s _ _ _
  · exact keptUnlessOk_same s _

theorem hostBillMaskFrame_keptUnlessOk (p : List Byte) (s : State) : KeptUnlessOk s (hostBillMaskFrame p s) := by
  unfold hostBillMaskFrame
  split
  · exact keptUnlessOk_ite (keptUnlessOk_same s _) (keptUnlessOk_ok s _ _)
  · exact keptUnlessOk_same s _

theorem sweepCommand_keptUnlessOk (p : List Byte) (s : State) : KeptUnlessOk s (sweepCommand p s) := by
  unfold sweepCommand
  split
  · refine keptUnlessOk_ite ?_ (keptUnlessOk_same s _)
    dsimp only
    split
    · exact keptUnlessOk_same s _
    · exact keptUnlessOk_ok s _ _
  · exact keptUnlessOk_same s _

theorem sweepStopCommand_keptUnlessOk (s : State) : KeptUnlessOk s (sweepStopCommand s) := keptUnlessOk_ok s _ _

theorem commandAnswer_keptUnlessOk (p : List Byte) (s : State) : KeptUnlessOk s (commandAnswer p s) := by
  unfold commandAnswer
  split
  · exact keptUnlessOk_same s _
  · split
    · exact keptUnlessOk_noParams (goOnlineCommand_keptUnlessOk s) _
    · exact keptUnlessOk_noParams
        (keptUnlessOk_ite (keptUnlessOk_same s _) (keptUnlessOk_ite (keptUnlessOk_same s _) (keptUnlessOk_ok s _ _))) _
    · exact vendFrame_keptUnlessOk _ s
    · exact keptUnlessOk_noParams (vendCancelCommand_keptUnlessOk s) _
    · exact keptUnlessOk_noParams (by rw [refundCommand_eq]; exact keptUnlessOk_elim s _ _ _) _
    · exact payoutCommand_keptUnlessOk _ s
    · exact tubeCountFrame_keptUnlessOk _ s
    · exact hostBillMaskFrame_keptUnlessOk _ s
    · exact keptUnlessOk_noParams (keptUnlessOk_ite (keptUnlessOk_same s _) (keptUnlessOk_ok s _ _)) _
    · exact keptUnlessOk_noParams (keptUnlessOk_ite (keptUnlessOk_same s _) (keptUnlessOk_ok s _ _)) _
    · exact keptUnlessOk_noParams
        (keptUnlessOk_ite (keptUnlessOk_same s _) (keptUnlessOk_ite (keptUnlessOk_ok s _ _) (keptUnlessOk_same s _))) _
    · exact sweepCommand_keptUnlessOk _ s
    · exact keptUnlessOk_noParams (sweepStopCommand_keptUnlessOk s) _
    · exact keptUnlessOk_noParams
        (keptUnlessOk_ite (keptUnlessOk_same s _) (keptUnlessOk_ite (keptUnlessOk_same s _) (keptUnlessOk_ok s _ _))) _
    · exact keptUnlessOk_same s _

/-! ## All frames -/

theorem reportPollAnswer_keptUnlessOk (s : State) : KeptUnlessOk s (reportPollAnswer s) := by
  unfold reportPollAnswer
  split
  · exact keptUnlessOk_same s _
  · exact keptUnlessOk_ite (keptUnlessOk_ok s _ _) (keptUnlessOk_ite (keptUnlessOk_ok s _ _) (keptUnlessOk_ok s _ _))

theorem resetCommand_keptUnlessOk (s : State) : KeptUnlessOk s (resetCommand s) := keptUnlessOk_ok s _ _

theorem pingAnswer_keptUnlessOk (s : State) : KeptUnlessOk s ((fun a => (pingAnswer a, a)) s) := keptUnlessOk_same s _

theorem managementAnswer_keptUnlessOk (kind : Byte) (p : List Byte) (s : State) :
    KeptUnlessOk s (managementAnswer kind p s) := by
  unfold managementAnswer
  refine keptUnlessOk_ite (keptUnlessOk_noParams (pingAnswer_keptUnlessOk s) p) ?_
  refine keptUnlessOk_ite (keptUnlessOk_same s _) ?_
  refine keptUnlessOk_ite (tableWriteAnswer_keptUnlessOk p s) ?_
  refine keptUnlessOk_ite (commandAnswer_keptUnlessOk p s) ?_
  refine keptUnlessOk_ite (keptUnlessOk_noParams (reportPollAnswer_keptUnlessOk s) p) ?_
  exact keptUnlessOk_ite (keptUnlessOk_noParams (resetCommand_keptUnlessOk s) p) (keptUnlessOk_same s _)

theorem transitCommand_eq (dest : Nat) (kind : Byte) (payload : List Byte) (s : State) :
    transitCommand dest kind payload s =
      (transitRefusal s dest kind).elim (okAnswer [ch s.dlk.nextTag], queueTransit dest kind payload s)
        fun st => (refuse st, s) := by
  unfold transitCommand
  cases transitRefusal s dest kind <;> rfl

/-- Settles O5: each frame by its KIND, each command by its code, each refusal beside the state it was found in. -/
theorem refusedFramesChangeNothing : Obligations.RefusedFramesChangeNothing := by
  intro kind payload dest s
  refine ⟨managementAnswer_keptUnlessOk kind payload s, ?_⟩
  rw [transitCommand_eq]
  exact keptUnlessOk_elim s _ _ _

/-! ## Transits (R171) -/

theorem isEntryOf_iff (role : Role) (s : State) (i : Nat) :
    isEntryOf role s i = true ↔ (entryOf role s).map (·.1) = some i := beq_iff_eq

/-- R171, check 2: the KINDs of the SV640's own frames, and a POLL to the BILL or the CARD entry. -/
theorem kindOwned_iff (s : State) (i : Nat) (kind : Byte) :
    kindOwned s i kind = true ↔
      kind ∈ [0x30, 0x31, 0x32, 0x33, 0x34] ∨
        (kind = 0x20 ∧ ∃ r ∈ [Role.bill, Role.card], (entryOf r s).map (·.1) = some i) := by
  simp only [kindOwned, actsPassive, Bool.or_eq_true, Bool.and_eq_true, Bool.not_not, List.contains_iff_mem, beq_iff_eq,
    isEntryOf_iff, List.mem_cons, List.not_mem_nil, or_false, exists_eq_or_imp, exists_eq_left, kEnable, kEscrowAction,
    kApprovalRequest, kVendResult, kSessionEnd, kPoll]

/-- R171: the checks of a transit to a covered address, as one chain. -/
theorem transitRefusal_covered {s : State} {dest i : Nat} {r : Route} (kind : Byte) (covered : coveringEntry s dest = some (i, r)) :
    transitRefusal s dest kind =
      if kind ∈ [0x30, 0x31, 0x32, 0x33, 0x34] ∨
          (kind = 0x20 ∧ ∃ r ∈ [Role.bill, Role.card], (entryOf r s).map (·.1) = some i) then some .kindOwned
      else if 4 ≤ s.dlk.transits.length then some .transitFull
      else if 32 ≤ s.rpq.queue.length + s.rpq.reserved then some .queueFull
      else none := by
  simp only [transitRefusal, covered, ← kindOwned_iff, canReserve_one_ite]

/-- A refused transit is answered with its refusal. -/
theorem deliver_transit_refused (src kind : Byte) (payload : List Byte) {dest : Nat} {st : Status} {s : State}
    (h : Deliverable s) (refused : transitRefusal s dest kind = some st) :
    RefusedWith src kind st s (deliver src kind (transitCommand dest kind payload) s) :=
  deliver_refused src kind _ h (by
    rw [transitCommand_eq, show transitRefusal s.taken dest kind = some st from refused]; rfl)

theorem queueTransit_eq (dest : Nat) (kind : Byte) (payload : List Byte) (s : State) :
    queueTransit dest kind payload s = { s with
      rpq := { s.rpq with reserved := s.rpq.reserved + 1 }
      dlk := { s.dlk with
        nextTag := (s.dlk.nextTag + 1) % 256
        transits := s.dlk.transits ++ [⟨s.dlk.nextTag, dest, kind, payload, false⟩] } } := rfl

/-- What an accepted transit leaves (R171). -/
structure TransitQueued (src dest kind : Byte) (payload : List Byte) (s t : State) : Prop where
  answered : Answered src kind (okAnswer [ch s.dlk.nextTag]) s t
  dlk : t.dlk = { s.dlk with
    nextTag := (s.dlk.nextTag + 1) % 256
    transits := s.dlk.transits ++ [⟨s.dlk.nextTag, dest.toNat, kind, payload, false⟩] }
  rpq : t.rpq = { s.rpq with reserved := s.rpq.reserved + 1 }
  only : ChangesOnly [.ulk, .dlk, .rpq] s t

theorem deliver_transit_accepted (src dest kind : Byte) (payload : List Byte) {s : State} (h : Deliverable s)
    (accepted : transitRefusal s dest.toNat kind = none) :
    TransitQueued src dest kind payload s (deliver src kind (transitCommand dest.toNat kind payload) s) := by
  have acted := deliver_acted src kind (transitCommand dest.toNat kind payload) (s := s)
    (a := okAnswer [ch s.dlk.nextTag]) (u := queueTransit dest.toNat kind payload s.taken) h
    (by rw [transitCommand_eq, show transitRefusal s.taken dest.toNat kind = none from accepted]; rfl)
    (by rw [queueTransit_eq])
  have only := acted.only (bs := [.dlk, .rpq]) (by rw [queueTransit_eq]; constructor <;> simp)
  obtain ⟨answered, beside⟩ := acted
  exact ⟨answered, by rw [beside]; rfl, by rw [beside]; rfl, only⟩

/-- Settles O8: the checks as one chain of answers, and at its end the transit as queued. -/
theorem transitsAreTaggedAndQueued : Obligations.TransitsAreTaggedAndQueued := by
  intro src dest kind payload s h
  refine ⟨_, rfl, ?_⟩
  cases covered : coveringEntry s dest.toNat with
  | none => exact deliver_transit_refused src kind payload h (by rw [transitRefusal, covered])
  | some p =>
    obtain ⟨i, r⟩ := p
    have chain := transitRefusal_covered kind covered
    dsimp only
    split
    · exact deliver_transit_refused src kind payload h (by rw [chain, if_pos ‹_›])
    · rw [if_neg ‹_›] at chain
      split
      · exact deliver_transit_refused src kind payload h (by rw [chain, if_pos ‹_›])
      · rw [if_neg ‹_›] at chain
        split
        · exact deliver_transit_refused src kind payload h (by rw [chain, if_pos ‹_›])
        · rw [if_neg ‹_›] at chain
          obtain ⟨answered, dlk, rpq, only⟩ := deliver_transit_accepted src dest kind payload h chain
          exact ⟨answered, dlk, rpq, only⟩

end Sys2Proof.Machine
end

section
/-! SUPPORT. The characters of entries and records (R190, R192), and the answer to REPORT POLL (R191, R196, R197). -/

namespace Sys2Proof.Machine

/-! ## Characters (R190) -/

theorem w2_eq (n : Nat) : w2 n = [BitVec.ofNat 8 n, BitVec.ofNat 8 (n / 256)] := rfl

theorem w2opt_eq (v : Option Nat) : w2opt v = w2 (v.getD 0xFFFF) := by cases v <;> rfl

theorem i2opt_eq (v : Option Int) : i2opt v = w2 ((v.getD 0x8000) % 65536).toNat := by cases v <;> rfl

theorem opt1_eq (v : Option Nat) : opt1 v = BitVec.ofNat 8 (v.getD 0xFF) := by cases v <;> rfl

theorem lowFirst_three (n : Nat) : lowFirst 3 n = w2 n ++ [BitVec.ofNat 8 (n / 65536)] := by
  simp [w2, lowFirst, ch, Nat.div_div_eq_div_mul]

/-! ## Codes: a name's place in its list (R192) -/

theorem SelState.idxOf_eq (x : SelState) :
    [SelState.unused, .active, .disabled, .jammed, .emptySuspect].idxOf x = x.code := by cases x <;> rfl

theorem Payment.idxOf_eq (x : Payment) : [Payment.cash, .card, .free].idxOf x = x.code := by cases x <;> rfl

theorem VendOutcome.idxOf_eq (x : VendOutcome) :
    [VendOutcome.success, .noDrop, .jammed, .motorOpen, .denied, .cancelled, .interrupted].idxOf x = x.code := by
  cases x <;> rfl

theorem Health.idxOf_eq (x : Health) : [Health.unknown, .ok, .opened, .shorted].idxOf x = x.code := by cases x <;> rfl

theorem TubeState.idxOf_eq (x : TubeState) : [TubeState.ok, .empty, .jammed].idxOf x = x.code := by cases x <;> rfl

theorem PayoutSource.idxOf_eq (x : PayoutSource) : [PayoutSource.change, .refund, .service].idxOf x = x.code := by
  cases x <;> rfl

theorem SessionState.idxOf_eq (x : SessionState) :
    [SessionState.none, .opened, .approvalWait, .vending].idxOf x = x.code := by cases x <;> rfl

theorem CompState.idxOf_eq (x : CompState) :
    [CompState.disabled, .guard, .idle, .waitSupply, .start, .run, .defrost, .drip, .blindOn, .blindOff].idxOf x = x.code := by
  cases x <;> rfl

theorem Presence.idxOf_eq (x : Presence) : [Presence.absent, .present, .lost].idxOf x = x.code := by cases x <;> rfl

/-! ## Records (R161, R192) -/

/-- R161: a node that no entry in use stands for has the fields of an absent one. -/
theorem nodeFields_none {s : State} {a : Nat}
    (h : ∀ i < 8, ¬((routeOf s i).inUse = true ∧ (routeOf s i).base = a)) : nodeFields s a = [ch 0, 0, 0] := by
  have absent : (s.dlk.routes.toList.find? fun r => r.inUse && r.base == a) = none := by
    rw [List.find?_eq_none]
    intro r mem
    obtain ⟨i, hi, rfl⟩ := List.getElem_of_mem mem
    rw [Vector.length_toList] at hi
    have entry := h i hi
    rw [routeOf, tget_of_lt _ _ hi] at entry
    simpa using entry
  rw [nodeFields, absent]
  rfl

/-- R161: the fields of a node are those of the first entry in use that stands for it. -/
theorem nodeFields_first {s : State} {a i : Nat} (hi : i < 8) (used : (routeOf s i).inUse = true) (base : (routeOf s i).base = a)
    (first : ∀ j < i, ¬((routeOf s j).inUse = true ∧ (routeOf s j).base = a)) :
    nodeFields s a = [ch (routeOf s i).presence.code, ch (routeOf s i).missed, ch (routeOf s i).discarded] := by
  have found : (s.dlk.routes.toList.find? fun r => r.inUse && r.base == a) = some (routeOf s i) := by
    rw [List.find?_eq_some_iff_getElem]
    refine ⟨by simp [used, base], i, by simpa using hi, ?_, fun j hj => ?_⟩
    · simp [routeOf, tget_of_lt _ _ hi]
    · have earlier := first j hj
      rw [routeOf, tget_of_lt _ _ (hj.trans hi)] at earlier
      rw [Bool.not_eq_true', ← Bool.not_eq_true, Bool.and_eq_true, beq_iff_eq]
      simpa using earlier
  rw [nodeFields, found]

/-- R123, log entry 23: the run time sent, in whole seconds. -/
theorem runTicksNow_eq (s : State) : runTicksNow s =
    min (seconds 86400) (s.clg.runTicks + if s.clg.contactor then s.now - s.clg.startedAt else 0) := rfl

/-- No record reads U's receiver. -/
theorem recordOf_taken (s : State) (r : Report) : recordOf s.taken r = recordOf s r := by
  cases r with
  | state k => cases k <;> rfl
  | event e => rfl

/-! ## REPORT POLL (R191, R196) -/

/-- What the removal of the head leaves (R196): its slot goes to the lowest dirty key, or makes the deferred polls eligible. -/
structure HeadRemoved (rest : List Report) (s t : State) : Prop where
  queue : t.rpq.queue = rest ++ (s.rpq.dirty.take 1).map .state
  dirty : t.rpq.dirty = s.rpq.dirty.drop 1
  reserved : t.rpq.reserved = s.rpq.reserved
  partSent : t.rpq.partSent = false
  dlk : t.dlk = { s.dlk with polls := t.dlk.polls }
  polls : ∀ i, pollOf t i = { pollOf s i with deferred :=
    (pollOf s i).deferred && !(s.rpq.dirty.isEmpty && s.rpq.queue.length + s.rpq.reserved == 32) }
  only : ChangesOnly [.rpq, .dlk] s t

/-- R196: a deferred poll becomes eligible again. -/
theorem pollOf_clearDeferred (s : State) (i : Nat) : pollOf (clearDeferred s) i = { pollOf s i with deferred := false } :=
  tget_tmap (fun p : PollSlot => ({ p with deferred := false } : PollSlot)) s.dlk.polls ⟨0, false, false⟩ i

theorem popReport_removed {s : State} {r : Report} {rest : List Report} (head : s.rpq.queue = r :: rest)
    (bound : s.rpq.queue.length + s.rpq.reserved ≤ 32) : HeadRemoved rest s (popReport s) := by
  have count : s.rpq.queue.length = rest.length + 1 := by rw [head, List.length_cons]
  have popped := slotFreed_cases { s with rpq := { s.rpq with queue := s.rpq.queue.drop 1, partSent := false } }
  rw [← popReport] at popped
  simp only [head, List.drop_succ_cons, List.drop_zero] at popped
  obtain ⟨full, -⟩ | ⟨-, k, ks, dirty, after⟩ | ⟨last, dirty, after⟩ | ⟨more, dirty, after⟩ := popped
  · omega
  · rw [after]
    exact ⟨by simp [dirty], by simp [dirty], rfl, rfl, rfl, fun i => by simp [dirty, pollOf], by constructor <;> simp⟩
  · have full : s.rpq.queue.length + s.rpq.reserved = 32 := by omega
    rw [after]
    refine ⟨by simp [clearDeferred, dirty], by simp [clearDeferred, dirty], rfl, rfl, rfl, fun i => ?_, by constructor <;> simp⟩
    rw [pollOf_clearDeferred]
    simp [dirty, full, pollOf]
  · have free : (s.rpq.queue.length + s.rpq.reserved == 32) = false := beq_false_of_ne (by omega)
    rw [after]
    exact ⟨by simp [dirty], by simp [dirty], rfl, rfl, rfl, fun i => by simp [dirty, free, pollOf], by constructor <;> simp⟩

/-- R191, R197: what REPORT POLL answers and leaves, with an entry at the head. -/
theorem reportPollAnswer_cons {s : State} {r : Report} {rest : List Report} (head : s.rpq.queue = r :: rest) :
    reportPollAnswer s =
      if s.rpq.partSent = false ∧ 45 < (recordOf s r).length then
        (okAnswer (1 :: (recordOf s r).take 45), { s with rpq := { s.rpq with partSent := true } })
      else
        (okAnswer (if s.rpq.partSent then 2 :: (recordOf s r).drop 45 else 0 :: recordOf s r), popReport s) := by
  unfold reportPollAnswer
  rw [head]
  dsimp only
  cases s.rpq.partSent with
  | true => rfl
  | false =>
    by_cases long : 45 < (recordOf s r).length
    · simp [long, Nat.not_le.2 long]
    · simp [long, Nat.not_lt.1 long]

theorem deliver_reportPoll_nil (src : Byte) {s : State} (h : Deliverable s) (empty : s.rpq.queue = []) :
    let t := deliver src kReportPoll (noParams reportPollAnswer []) s
    Answered src kReportPoll (okAnswer [0, 0]) s t ∧ ChangesOnly [.ulk] s t := by
  have acts : noParams reportPollAnswer [] s.taken = (okAnswer [0, 0], s.taken) := by
    rw [noParams_nil, reportPollAnswer, show s.taken.rpq.queue = [] from empty]
  have acted := deliver_acted src kReportPoll _ h acts rfl
  exact ⟨acted.1, acted.only (.refl [] _)⟩

/-- R197: the first part of a long record, which leaves the entry. -/
theorem deliver_reportPoll_part (src : Byte) {s : State} {r : Report} {rest : List Report} (h : Deliverable s)
    (head : s.rpq.queue = r :: rest) (long : s.rpq.partSent = false ∧ 45 < (recordOf s r).length) :
    let t := deliver src kReportPoll (noParams reportPollAnswer []) s
    Answered src kReportPoll (okAnswer (1 :: (recordOf s r).take 45)) s t ∧ t.rpq = { s.rpq with partSent := true } ∧
      ChangesOnly [.ulk, .rpq] s t := by
  have answer := reportPollAnswer_cons (s := s.taken) head
  rw [recordOf_taken, if_pos (show s.taken.rpq.partSent = false ∧ _ from long), ← noParams_nil reportPollAnswer] at answer
  have acted := deliver_acted src kReportPoll _ h answer rfl
  exact ⟨acted.1, congrArg State.rpq acted.2, acted.only (bs := [.rpq]) (by constructor <;> simp)⟩

/-- R191, R196, R197: a whole record or the rest of one, with its entry removed. -/
theorem deliver_reportPoll_head (src : Byte) {s : State} {r : Report} {rest : List Report} (h : Deliverable s)
    (head : s.rpq.queue = r :: rest) (bound : s.rpq.queue.length + s.rpq.reserved ≤ 32)
    (last : ¬(s.rpq.partSent = false ∧ 45 < (recordOf s r).length)) :
    let t := deliver src kReportPoll (noParams reportPollAnswer []) s
    Answered src kReportPoll
      (okAnswer (if s.rpq.partSent then 2 :: (recordOf s r).drop 45 else 0 :: recordOf s r)) s t ∧
    HeadRemoved rest s { t with ulk := s.ulk } ∧ ChangesOnly [.ulk, .rpq, .dlk] s t := by
  have answer := reportPollAnswer_cons (s := s.taken) head
  rw [recordOf_taken, if_neg (show ¬(s.taken.rpq.partSent = false ∧ _) from last), ← noParams_nil reportPollAnswer] at answer
  have acted := deliver_acted src kReportPoll _ h answer (by simp [popReport])
  obtain ⟨queue, dirty, reserved, partSent, dlk, polls, only⟩ := popReport_removed (s := s.taken) head bound
  have within := acted.only only
  obtain ⟨answered, beside⟩ := acted
  refine ⟨answered, ?_, within⟩
  rw [beside]
  exact ⟨queue, dirty, reserved, partSent, dlk, polls, by constructor <;> simp [popReport]⟩

/-- Settles O7: the head of the queue answered whole or in parts, and the record of each report by its kind. -/
theorem reportPollAnswersTheHead : Obligations.ReportPollAnswersTheHead := by
  refine ⟨fun src s h bound => ⟨_, rfl, ?_⟩, ?_⟩
  · cases head : s.rpq.queue with
    | nil => exact deliver_reportPoll_nil src h head
    | cons r rest =>
      dsimp only
      split
      next long => exact deliver_reportPoll_part src h head long
      next last =>
        obtain ⟨answered, ⟨queue, dirty, reserved, partSent, dlk, polls, -⟩, only⟩ :=
          deliver_reportPoll_head src h head bound last
        rw [head] at polls
        exact ⟨answered, queue, dirty, reserved, partSent, dlk, polls, only⟩
  intro s b w g f st ev session comp ran
  refine ⟨rfl, rfl, fun i => ?_, fun i => ?_, fun i => ?_, fun a => ⟨fun absent => ?_, fun i hi used base first => ?_⟩, ?_, ?_,
    fun i => ?_, rfl, rfl, rfl, rfl, ?_, fun i => rfl, fun a => rfl, fun i p o price informed drop => ?_,
    fun src requested paid short coins => ?_, fun tag node kind payload => ?_, fun tag => rfl,
    fun stopped last ok op short => ?_, fun node code params => rfl⟩
  · simp only [st, recordOf, StateKey.fields, w2opt_eq, SelState.idxOf_eq]; rfl
  · simp only [Health.idxOf_eq]; rfl
  · simp only [TubeState.idxOf_eq]; rfl
  · simp only [st, recordOf, StateKey.fields, nodeFields_none absent]; rfl
  · simp only [st, recordOf, StateKey.fields, nodeFields_first hi used base first, Presence.idxOf_eq]; rfl
  · simp only [st, session, recordOf, StateKey.fields, fundsFields, w2opt_eq, SessionState.idxOf_eq]; rfl
  · simp only [st, comp, recordOf, StateKey.fields, i2opt_eq, lowFirst_three, CompState.idxOf_eq]; rfl
  · simp only [st, recordOf, StateKey.fields, i2opt_eq]; rfl
  · simp only [st, recordOf, StateKey.fields, i2opt_eq]; rfl
  · simp only [Payment.idxOf_eq, VendOutcome.idxOf_eq]
    cases informed <;> cases drop <;> rfl
  · simp only [PayoutSource.idxOf_eq]; rfl
  · simp [ev, recordOf, EventReport.record, b, ch]
  · simp only [ev, recordOf, EventReport.record, opt1_eq]; rfl

end Sys2Proof.Machine
end

section
/-! SUPPORT. The payloads of table writes, read back (R178, R190, R192), the forms of management frames, and the layouts of the
entries of every table (R180 to R182). -/

namespace Sys2Proof.Machine

/-! ## One field (R190) -/

theorem ch_toNat {n : Nat} (h : n < 256) : (ch n).toNat = n := by
  rw [ch, BitVec.toNat_ofNat, Nat.mod_eq_of_lt h]

theorem val2_ch {n : Nat} (h : n < 65536) : val2 (ch n) (ch (n / 256)) = n := by
  rw [val2, ch_toNat (n := n / 256) (by omega), ch, BitVec.toNat_ofNat]
  omega

/-- R190: the two characters of a signed value are read as that value. -/
theorem sval2_ch {v : Int} (low : -32768 ≤ v) (high : v < 32768) :
    sval2 (ch (v % 65536).toNat) (ch ((v % 65536).toNat / 256)) = v := by
  rw [sval2, val2_ch (by omega)]
  split <;> omega

/-- A field is read from its own characters, whatever follows them. -/
theorem readField_chars {f : FieldForm} {v : Int} (h : f.carries v) (rest : List Byte) :
    readField f (f.chars v ++ rest) = some (v, rest) := by
  cases f with
  | byte =>
    obtain ⟨low, high⟩ := h
    simp [FieldForm.chars, readField, ch_toNat (show v.toNat < 256 by omega), Int.toNat_of_nonneg low]
  | code allowed =>
    obtain ⟨low, high⟩ := h
    simp [FieldForm.chars, readField, ch_toNat (show v.toNat < 256 by omega), Int.toNat_of_nonneg low]
  | word =>
    obtain ⟨low, high⟩ := h
    have same : (v % 65536).toNat = v.toNat := by omega
    have value := val2_ch (show v.toNat < 65536 by omega)
    change some ((val2 (ch (v % 65536).toNat) (ch ((v % 65536).toNat / 256)) : Int), rest) = _
    rw [same, value, Int.toNat_of_nonneg low]
  | sword =>
    obtain ⟨low, high⟩ := h
    change some (sval2 (ch (v % 65536).toNat) (ch ((v % 65536).toNat / 256)), rest) = _
    rw [sval2_ch low high]

theorem FieldForm.carries_of_holds {f : FieldForm} {v : Int} (h : f.holds v) : f.carries v := by
  cases f with
  | code allowed => exact ⟨h.1, h.2.1⟩
  | byte => exact h
  | word => exact h
  | sword => exact h

/-- A field is read exactly when as many characters stand as its form has. -/
theorem readField_length (f : FieldForm) (vals : List Byte) :
    (∀ v rest, readField f vals = some (v, rest) → vals.length = (f.chars 0).length + rest.length) ∧
    (readField f vals = none ↔ vals.length < (f.chars 0).length) := by
  cases f <;> rcases vals with _ | ⟨a, _ | ⟨b, vals⟩⟩ <;>
    simp +contextual [readField, FieldForm.chars, i2, w2, lowFirst, eq_comm] <;>
    omega

/-! ## The fields of a write (R178, R192) -/

theorem fieldMask_cons (g : Option Int) (gs : List (Option Int)) :
    fieldMask (g :: gs) = (if g.isSome then 1 else 0) + 2 * fieldMask gs := rfl

theorem fieldMask_lt (gs : List (Option Int)) : fieldMask gs < 2 ^ gs.length := by
  induction gs with
  | nil => decide
  | cons g gs ih =>
    rw [fieldMask_cons, List.length_cons, Nat.pow_succ]
    split <;> omega

theorem fieldMask_pos {gs : List (Option Int)} (h : ∃ g ∈ gs, g.isSome) : fieldMask gs ≠ 0 := by
  induction gs with
  | nil => simp at h
  | cons g gs ih =>
    rw [fieldMask_cons]
    cases given : g.isSome with
    | true => simp
    | false =>
      obtain ⟨x, mem, some⟩ := h
      have later : x ∈ gs := by
        rcases List.mem_cons.1 mem with rfl | later
        · simp [given] at some
        · exact later
      have := ih ⟨x, later, some⟩
      simpa using this

/-- R178: the mask and the values that lay out the fields given are read as those fields. -/
theorem readFields_layout {fs : List FieldForm} {gs : List (Option Int)} (len : gs.length = fs.length)
    (h : ∀ p ∈ fs.zip gs, ∀ v, p.2 = some v → p.1.carries v) :
    readFields fs (fieldMask gs) (fieldChars fs gs) = some gs := by
  induction fs generalizing gs with
  | nil =>
    obtain rfl := List.length_eq_zero_iff.1 len
    rfl
  | cons f fs ih =>
    obtain _ | ⟨g, gs⟩ := gs
    · simp at len
    have tail := ih (gs := gs) (by simpa using len) fun p mem => h p (List.mem_cons_of_mem _ mem)
    rw [fieldMask_cons]
    cases g with
    | none =>
      have even : (0 + 2 * fieldMask gs) % 2 ≠ 1 := by omega
      have half : (0 + 2 * fieldMask gs) / 2 = fieldMask gs := by omega
      simp only [readFields, Option.isSome_none, Bool.false_eq_true, if_false, if_neg even, half]
      rw [show fieldChars (f :: fs) (none :: gs) = fieldChars fs gs from rfl, tail]
      rfl
    | some v =>
      have odd : (1 + 2 * fieldMask gs) % 2 = 1 := by omega
      have half : (1 + 2 * fieldMask gs) / 2 = fieldMask gs := by omega
      have carried : f.carries v := h (f, some v) List.mem_cons_self v rfl
      simp only [readFields, Option.isSome_some, if_true, if_pos odd, half]
      rw [show fieldChars (f :: fs) (some v :: gs) = f.chars v ++ fieldChars fs gs from rfl, readField_chars carried]
      simp only [tail, Option.map_some]

/-- R178: a mask and values are read exactly when the table has the fields named and the length is theirs. -/
theorem readFields_isSome (fs : List FieldForm) (mask : Nat) (vals : List Byte) :
    (readFields fs mask vals).isSome ↔ mask < 2 ^ fs.length ∧ vals.length = namedLength fs mask := by
  induction fs generalizing mask vals with
  | nil =>
    simp only [readFields, namedLength, List.length_nil, Nat.pow_zero, Nat.lt_one_iff, List.length_eq_zero_iff]
    split <;> simp [*]
  | cons f fs ih =>
    have named : mask < 2 ^ (f :: fs).length ↔ mask / 2 < 2 ^ fs.length := by
      rw [List.length_cons, Nat.pow_succ]; omega
    obtain ⟨read, short⟩ := readField_length f vals
    rw [named]
    by_cases odd : mask % 2 = 1
    · cases field : readField f vals with
      | none =>
        have := short.1 field
        simp only [readFields, namedLength, if_pos odd, field, Option.isSome_none, Bool.false_eq_true, false_iff]
        omega
      | some p =>
        have := read p.1 p.2 field
        simp only [readFields, namedLength, if_pos odd, field, Option.isSome_map, ih]
        omega
    · simp only [readFields, namedLength, if_neg odd, Option.isSome_map, ih, Nat.zero_add]

/-- R190: a field given within its form is coded. -/
theorem fieldsCoded_of_holds {fs : List FieldForm} {gs : List (Option Int)}
    (h : ∀ p ∈ fs.zip gs, ∀ v, p.2 = some v → p.1.holds v) : fieldsCoded fs gs = true := by
  rw [fieldsCoded, List.all_eq_true]
  intro p mem
  obtain ⟨f, g⟩ := p
  have held := h _ mem
  cases g with
  | none => cases f <;> rfl
  | some v =>
    cases f with
    | code allowed => exact List.contains_iff_mem.2 (held v rfl).2.2
    | byte => rfl
    | word => rfl
    | sword => rfl

/-- R190: a character outside its list fails the write. -/
theorem fieldsCoded_of_outside {fs : List FieldForm} {gs : List (Option Int)} {allowed : List Nat} {v : Int}
    (mem : (FieldForm.code allowed, some v) ∈ fs.zip gs) (outside : v.toNat ∉ allowed) : fieldsCoded fs gs = false := by
  rw [fieldsCoded, List.all_eq_false]
  refine ⟨_, mem, ?_⟩
  simpa [fieldCoded] using outside

/-! ## A whole payload -/

theorem tableForms_length (id : Nat) : (tableForms id).length ≤ 11 := by
  unfold tableForms
  split <;> decide

/-- R178, R190: what is read of a payload of at least three characters. -/
theorem readWrite_eq (id : Nat) (ix lo hi : Byte) (vals : List Byte) :
    readWrite id (ix :: lo :: hi :: vals) =
      if val2 lo hi = 0 then .error .badFrame
      else (readFields (tableForms id) (val2 lo hi) vals).elim (.error .badFrame) fun gs =>
        if (id = 7 ∨ id = 8 ∨ id = 10) ∧ ix ≠ 0 then .error .badIndex
        else if fieldsCoded (tableForms id) gs then .ok ⟨ix.toNat, gs⟩
        else .error .badValue := by
  simp only [readWrite]
  split
  · rfl
  · cases readFields (tableForms id) (val2 lo hi) vals <;> rfl

/-- The payload that lays out the fields given, read: the index and the fields, unless a check of the index or of the characters
fails. -/
theorem readWrite_writePayload {id : Nat} (ix : Byte) {gs : List (Option Int)} (len : gs.length = (tableForms id).length)
    (carried : ∀ p ∈ (tableForms id).zip gs, ∀ v, p.2 = some v → p.1.carries v) (given : ∃ g ∈ gs, g.isSome) :
    readWrite id (writePayload id ix gs) =
      if (id = 7 ∨ id = 8 ∨ id = 10) ∧ ix ≠ 0 then .error .badIndex
      else if fieldsCoded (tableForms id) gs then .ok ⟨ix.toNat, gs⟩
      else .error .badValue := by
  have small : fieldMask gs < 65536 :=
    (fieldMask_lt gs).trans_le ((Nat.pow_le_pow_right Nat.two_pos (len ▸ tableForms_length id)).trans (by decide))
  have mask := val2_ch small
  change readWrite id (ix :: ch (fieldMask gs) :: ch (fieldMask gs / 256) :: fieldChars (tableForms id) gs) = _
  rw [readWrite_eq, mask, if_neg (fieldMask_pos given), readFields_layout len carried]
  rfl

/-- Settles O9: the mask, each field and the codes of the payload laid out are read back. -/
theorem tableWritePayloadsAreReadBack : Obligations.TableWritePayloadsAreReadBack := by
  intro id ix gs low high len held given index
  rw [readWrite_writePayload ix len (fun p mem v hv => FieldForm.carries_of_holds (held p mem v hv)) given,
    if_neg (by rintro ⟨id7 | id8 | id10, ix0⟩ <;> simp_all), if_pos (fieldsCoded_of_holds held)]

end Sys2Proof.Machine
end

section
/-! SUPPORT. PING, TABLE READ, the forms of management frames, and the layouts of the entries (R178, R180 to R182, R190, R192). -/

namespace Sys2Proof.Machine

/-! ## Codes -/

theorem Mode.idxOf_eq (x : Mode) : [Mode.setup, .online, .service, .safe].idxOf x = x.code := by cases x <;> rfl

theorem ReturnMode.idxOf_eq (x : ReturnMode) : [ReturnMode.setup, .online, .service].idxOf x = x.code := by cases x <;> rfl

theorem Role.idxOf_eq (x : Role) : [Role.bill, .card, .passive].idxOf x = x.code := by cases x <;> rfl

theorem SegState.idxOf_eq (x : SegState) : [SegState.owned, .releasePending, .released].idxOf x = x.code := by
  cases x <;> rfl

theorem lowFirst_four (n : Nat) : lowFirst 4 n = w2 n ++ w2 (n / 65536) := by
  simp [w2, lowFirst, Nat.div_div_eq_div_mul]

/-! ## PING and TABLE READ (R180, R181) -/

/-- A frame that is only answered. -/
theorem deliver_only_answers (src k : Byte) (act : State → Answer × State) {a : Answer} {s : State} (h : Deliverable s)
    (acts : act s.taken = (a, s.taken)) :
    Answered src k a s (deliver src k act s) ∧ ChangesOnly [.ulk] s (deliver src k act s) := by
  have acted := deliver_acted src k act h acts rfl
  exact ⟨acted.1, acted.only (.refl [] _)⟩

/-- No table reads U's receiver. -/
theorem entryFields_taken (s : State) (id ix : Nat) : entryFields s.taken id ix = entryFields s id ix :=
  entryFields_ulk s _ id ix

theorem tableSize_eq (n : Nat) :
    tableSize n = if n = 0 then 0 else [80, 8, 16, 8, 6, 8, 1, 1, 9, 1, 80, 1, 1].getD (n - 1) 0 := by
  match n with
  | 0 | 1 | 2 | 3 | 4 | 5 | 6 | 7 | 8 | 9 | 10 | 11 | 12 | 13 => rfl
  | n + 14 => simp [tableSize]

theorem tableSize_eq_zero_iff (n : Nat) : tableSize n = 0 ↔ n = 0 ∨ 13 < n := by
  match n with
  | 0 | 1 | 2 | 3 | 4 | 5 | 6 | 7 | 8 | 9 | 10 | 11 | 12 | 13 => simp [tableSize]
  | n + 14 => simp [tableSize]

/-- R181: the answer to a TABLE READ of a table id and an index. -/
theorem tableReadAnswer_pair (s : State) (id ix : Byte) :
    tableReadAnswer s [id, ix] =
      if id = 0 ∨ 13 < id.toNat then refuse .noTable
      else if [80, 8, 16, 8, 6, 8, 1, 1, 9, 1, 80, 1, 1].getD (id.toNat - 1) 0 ≤ ix.toNat then refuse .badIndex
      else okAnswer (id :: ix :: entryFields s id.toNat ix.toNat) := by
  have zero : id.toNat = 0 ↔ id = 0 := by bv_omega
  have echo (b : Byte) : ch b.toNat = b := BitVec.ofNat_toNat .. |>.trans (BitVec.setWidth_eq b)
  simp only [tableReadAnswer, tableSize_eq_zero_iff, zero, entryAnswer, echo]
  split
  · rfl
  · next inside =>
    rw [tableSize_eq, if_neg (fun h => inside (.inl (zero.1 h)))]

/-! ## Frames of a wrong form (R178, R183) -/

/-- R178: a KIND that names no management frame. -/
theorem managementAnswer_unknown {kind : Byte} (h : kind ∉ [0x10, 0x11, 0x12, 0x13, 0x14, 0x15]) (p : List Byte) (s : State) :
    managementAnswer kind p s = (refuse .badFrame, s) := by
  simp only [List.mem_cons, List.not_mem_nil, or_false, not_or] at h
  obtain ⟨h10, h11, h12, h13, h14, h15⟩ := h
  unfold managementAnswer
  exact (if_neg h10).trans ((if_neg h11).trans ((if_neg h12).trans ((if_neg h13).trans ((if_neg h14).trans (if_neg h15)))))

theorem managementAnswer_tableRead (p : List Byte) (s : State) :
    managementAnswer 0x11 p s = (tableReadAnswer s p, s) := rfl

theorem managementAnswer_tableWrite (p : List Byte) (s : State) :
    managementAnswer 0x12 p s = tableWriteAnswer p s := rfl

theorem managementAnswer_command (p : List Byte) (s : State) :
    managementAnswer 0x13 p s = commandAnswer p s := rfl

theorem noParams_cons {f : State → Answer × State} {p : List Byte} (h : p ≠ []) (s : State) :
    noParams f p s = (refuse .badFrame, s) := if_neg h

theorem noParams_length {f : State → Answer × State} {p : List Byte} (h : p.length ≠ 0) (s : State) :
    noParams f p s = (refuse .badFrame, s) := noParams_cons (fun e => h (by rw [e]; rfl)) s

/-- R178: PING, REPORT POLL and RESET have an empty payload. -/
theorem managementAnswer_payload {kind : Byte} (h : kind ∈ [0x10, 0x14, 0x15]) {p : List Byte} (some : p ≠ []) (s : State) :
    managementAnswer kind p s = (refuse .badFrame, s) := by
  simp only [List.mem_cons, List.not_mem_nil, or_false] at h
  obtain rfl | rfl | rfl := h <;> exact noParams_cons some s

theorem tableReadAnswer_length {p : List Byte} (h : p.length ≠ 2) (s : State) : tableReadAnswer s p = refuse .badFrame := by
  unfold tableReadAnswer
  split
  · exact absurd rfl h
  · rfl

theorem vendFrame_length {p : List Byte} (h : p.length ≠ 2) (s : State) : vendFrame p s = (refuse .badFrame, s) := by
  unfold vendFrame
  split
  · exact absurd rfl h
  · rfl

theorem tubeCountFrame_length {p : List Byte} (h : p.length ≠ 2) (s : State) : tubeCountFrame p s = (refuse .badFrame, s) := by
  unfold tubeCountFrame
  split
  · exact absurd rfl h
  · rfl

theorem hostBillMaskFrame_length {p : List Byte} (h : p.length ≠ 1) (s : State) :
    hostBillMaskFrame p s = (refuse .badFrame, s) := by
  unfold hostBillMaskFrame
  split
  · exact absurd rfl h
  · rfl

theorem sweepCommand_length {p : List Byte} (h : p.length ≠ 7) (s : State) : sweepCommand p s = (refuse .badFrame, s) := by
  unfold sweepCommand
  split
  · exact absurd rfl h
  · rfl

/-- R183: the number of parameters of each command other than PAYOUT. -/
def paramCount (n : Nat) : Nat := [0, 0, 0, 2, 0, 0, 0, 2, 1, 0, 0, 0, 7, 0, 0].getD n 0

/-- R178: a command other than PAYOUT with another number of parameters. -/
theorem commandAnswer_length {code : Byte} {params : List Byte} (notPayout : code ≠ 6)
    (h : params.length ≠ paramCount code.toNat) (s : State) : commandAnswer (code :: params) s = (refuse .badFrame, s) := by
  have other : code.toNat ≠ 6 := by bv_omega
  simp only [commandAnswer]
  generalize code.toNat = n at h other
  split
  · exact noParams_length h s
  · exact noParams_length h s
  · exact vendFrame_length h s
  · exact noParams_length h s
  · exact noParams_length h s
  · exact absurd rfl other
  · exact tubeCountFrame_length h s
  · exact hostBillMaskFrame_length h s
  · exact noParams_length h s
  · exact noParams_length h s
  · exact noParams_length h s
  · exact sweepCommand_length h s
  · exact noParams_length h s
  · exact noParams_length h s
  · rfl

/-- R183: a code that names no command. -/
theorem commandAnswer_unknown {code : Byte} (h : code = 0 ∨ 14 < code.toNat) (params : List Byte) (s : State) :
    commandAnswer (code :: params) s = (refuse .badFrame, s) := by
  have outside : code.toNat = 0 ∨ 14 < code.toNat := h.imp (fun e => by rw [e]; rfl) id
  simp only [commandAnswer]
  generalize code.toNat = n at outside
  split <;> simp at outside ⊢

/-- R178, R190: the form of PAYOUT decides before its length. -/
theorem payoutCommand_form (form : Byte) (rest : List Byte) (s : State) :
    (1 < form.toNat → payoutCommand (form :: rest) s = (refuse .badValue, s)) ∧
    (form = 0 ∨ form = 1 → rest.length ≠ 2 → payoutCommand (form :: rest) s = (refuse .badFrame, s)) := by
  constructor
  · intro above
    have neither : form ≠ 0 ∧ form ≠ 1 := by constructor <;> bv_omega
    simp only [payoutCommand, payoutRequest, if_pos neither]
  · intro named length
    have either : ¬(form ≠ 0 ∧ form ≠ 1) := by tauto
    have request : payoutRequest (form :: rest) = .error .badFrame := by
      simp only [payoutRequest, if_neg either]
      split
      · exact absurd rfl length
      · rfl
    rw [payoutCommand, request]

theorem commandAnswer_payout (params : List Byte) (s : State) : commandAnswer (6 :: params) s = payoutCommand params s := rfl

/-- R178, R183: a COMMAND of a wrong code or length. -/
theorem commandAnswer_badFrame {code : Byte} {params : List Byte}
    (h : code = 0 ∨ 14 < code.toNat ∨ (code ≠ 6 ∧ params.length ≠ paramCount code.toNat) ∨
      (code = 6 ∧ (params = [] ∨ (params.head? = some 0 ∨ params.head? = some 1) ∧ params.length ≠ 3))) (s : State) :
    commandAnswer (code :: params) s = (refuse .badFrame, s) := by
  obtain zero | above | ⟨notPayout, length⟩ | ⟨rfl, rfl | ⟨named, length⟩⟩ := h
  · exact commandAnswer_unknown (.inl zero) params s
  · exact commandAnswer_unknown (.inr above) params s
  · exact commandAnswer_length notPayout length s
  · rfl
  · obtain _ | ⟨form, rest⟩ := params
    · rfl
    · rw [commandAnswer_payout]
      refine (payoutCommand_form form rest s).2 (by simpa using named) (by simpa using length)

/-! ## Table writes of a wrong form (R178, R182, R190) -/

/-- R182: a write to one of the ten writable tables is its owner's. -/
theorem tableWriteAnswer_owned {id : Byte} (low : 1 ≤ id.toNat) (high : id.toNat ≤ 10) (rest : List Byte) :
    ∃ refusal store, ∀ s, tableWriteAnswer (id :: rest) s = ownedWrite id.toNat refusal store rest s := by
  simp only [tableWriteAnswer]
  generalize id.toNat = n at low high
  match n with
  | 1 | 2 | 3 | 4 | 5 | 6 | 7 | 8 | 9 | 10 => exact ⟨_, _, fun s => rfl⟩
  | n + 11 => omega

/-- A write that is not read is answered with what ended it. -/
theorem tableWriteAnswer_error {id : Byte} (low : 1 ≤ id.toNat) (high : id.toNat ≤ 10) {rest : List Byte} {st : Status}
    (h : readWrite id.toNat rest = .error st) (s : State) : tableWriteAnswer (id :: rest) s = (refuse st, s) := by
  obtain ⟨refusal, store, owned⟩ := tableWriteAnswer_owned low high rest
  rw [owned, ownedWrite, h]

/-- R182: a table that no write names. -/
theorem tableWriteAnswer_unwritable {id : Byte} (h : id = 0 ∨ 10 < id.toNat) (rest : List Byte) (s : State) :
    tableWriteAnswer (id :: rest) s = (refuse (if id = 11 ∨ id = 12 ∨ id = 13 then .wrongMode else .noTable), s) := by
  have outside : id.toNat = 0 ∨ 10 < id.toNat := h.imp (fun e => by rw [e]; rfl) fun above => above
  have readOnly : id = 11 ∨ id = 12 ∨ id = 13 ↔ id.toNat = 11 ∨ id.toNat = 12 ∨ id.toNat = 13 := by bv_omega
  simp only [tableWriteAnswer, readOnly]
  generalize id.toNat = n at outside
  match n with
  | 0 | 11 | 12 | 13 => rfl
  | 1 | 2 | 3 | 4 | 5 | 6 | 7 | 8 | 9 | 10 => omega
  | n + 14 => rw [if_neg (by omega)]; rfl

theorem readWrite_short (id : Nat) {rest : List Byte} (h : rest.length < 3) : readWrite id rest = .error .badFrame := by
  unfold readWrite
  split
  · simp only [List.length_cons] at h; omega
  · rfl

/-- R178: a mask that names no field or one that the table does not have, or a length other than the one it calls for. -/
theorem readWrite_badFrame {id : Nat} {ix lo hi : Byte} {vals : List Byte}
    (h : val2 lo hi = 0 ∨ 2 ^ (tableForms id).length ≤ val2 lo hi ∨ vals.length ≠ namedLength (tableForms id) (val2 lo hi)) :
    readWrite id (ix :: lo :: hi :: vals) = .error .badFrame := by
  rw [readWrite_eq]
  split
  · rfl
  · next named =>
    have unread : readFields (tableForms id) (val2 lo hi) vals = none := by
      rw [← Option.not_isSome_iff_eq_none, readFields_isSome]
      rintro ⟨fields, length⟩
      omega
    rw [unread]
    rfl

/-- R182: an index other than 0 of a table with one entry. -/
theorem readWrite_badIndex {id : Nat} {ix lo hi : Byte} {vals : List Byte} (named : val2 lo hi ≠ 0)
    (fields : val2 lo hi < 2 ^ (tableForms id).length) (length : vals.length = namedLength (tableForms id) (val2 lo hi))
    (single : id = 7 ∨ id = 8 ∨ id = 10) (index : ix ≠ 0) :
    readWrite id (ix :: lo :: hi :: vals) = .error .badIndex := by
  obtain ⟨gs, read⟩ := Option.isSome_iff_exists.1 ((readFields_isSome _ _ _).2 ⟨fields, length⟩)
  rw [readWrite_eq, if_neg named, read, Option.elim_some, if_pos ⟨single, index⟩]

/-- R190: a character outside its list. -/
theorem readWrite_badValue {id : Nat} {ix : Byte} {gs : List (Option Int)} {allowed : List Nat} {v : Int}
    (len : gs.length = (tableForms id).length) (index : ¬((id = 7 ∨ id = 8 ∨ id = 10) ∧ ix ≠ 0))
    (carried : ∀ p ∈ (tableForms id).zip gs, ∀ v, p.2 = some v → p.1.carries v)
    (mem : (FieldForm.code allowed, some v) ∈ (tableForms id).zip gs) (outside : v.toNat ∉ allowed) :
    readWrite id (writePayload id ix gs) = .error .badValue := by
  have given : ∃ g ∈ gs, g.isSome := ⟨some v, (List.of_mem_zip mem).2, rfl⟩
  rw [readWrite_writePayload ix len carried given, if_neg index, fieldsCoded_of_outside mem outside]
  rfl

/-- The tables with one entry. -/
theorem single_entry_iff (id : Byte) : id ∈ ([7, 8, 10] : List Byte) ↔ id.toNat = 7 ∨ id.toNat = 8 ∨ id.toNat = 10 := by
  simp only [List.mem_cons, List.not_mem_nil, or_false]
  bv_omega

/-- A frame whose KIND's answer refuses it. -/
theorem deliver_management_refused (src kind : Byte) (p : List Byte) {st : Status} {s : State} (h : Deliverable s)
    (refused : managementAnswer kind p s.taken = (refuse st, s.taken)) :
    RefusedWith src kind st s (deliver src kind (managementAnswer kind p) s) :=
  deliver_refused src kind _ h refused

/-- Settles O6: PING and TABLE READ answered, each wrong form refused, and each layout in its order. -/
theorem pingAndReadsAnswerWhatStands : Obligations.PingAndReadsAnswerWhatStands := by
  refine ⟨fun src s h => ⟨_, rfl, ?_⟩, fun src id ix s h => ⟨_, rfl, ?_⟩, fun src id rest s h unwritable => ⟨_, rfl, ?_⟩,
    ?_, ?_⟩
  · exact deliver_only_answers src kPing _ h rfl
  · have answered := deliver_only_answers src kTableRead (fun a => (tableReadAnswer a [id, ix], a)) h rfl
    rw [tableReadAnswer_pair, entryFields_taken] at answered
    exact answered.symm
  · have unchanged := deliver_refused src kTableWrite _ h (tableWriteAnswer_unwritable unwritable rest s.taken)
    exact unchanged.symm
  · intro src kind p s h refused
    refine ⟨fun unknown => ?_, fun known some => ?_, ?_, ?_, ?_, ?_, ?_⟩
    · exact deliver_management_refused src kind p h (managementAnswer_unknown unknown p _)
    · exact deliver_management_refused src kind p h (managementAnswer_payload known some _)
    · rintro rfl length
      exact deliver_management_refused src _ p h (by rw [managementAnswer_tableRead, tableReadAnswer_length length])
    · rintro (rfl | rfl) rfl <;> exact deliver_management_refused src _ _ h rfl
    · rintro code params rfl rfl wrong
      exact deliver_management_refused src _ _ h (commandAnswer_badFrame wrong _)
    · rintro form rest rfl rfl above
      exact deliver_management_refused src _ _ h ((payoutCommand_form form rest _).1 above)
    · rintro id rest rfl rfl low high forms
      have unread {st : Status} (error : readWrite id.toNat rest = .error st) : refused st :=
        deliver_management_refused src _ _ h (tableWriteAnswer_error low high error _)
      refine ⟨fun short => unread (readWrite_short _ short), ?_, ?_⟩
      · rintro ix lo hi vals rfl mask
        refine ⟨fun wrong => unread (readWrite_badFrame wrong), fun named fields length index single => ?_⟩
        exact unread (readWrite_badIndex named fields length ((single_entry_iff id).1 single) index)
      · rintro ix gs rfl len index carried ⟨p, mem, allowed, v, rfl, outside⟩
        refine unread (readWrite_badValue len ?_ carried mem outside)
        rintro ⟨single, notZero⟩
        exact index.elim notZero fun many => many ((single_entry_iff id).2 single)
  · intro s i b w g f q funds session comp o a tube route
    simp only [session, comp, SelState.idxOf_eq, TubeState.idxOf_eq, Role.idxOf_eq, Presence.idxOf_eq, Health.idxOf_eq, Mode.idxOf_eq,
      ReturnMode.idxOf_eq, SessionState.idxOf_eq, CompState.idxOf_eq, SegState.idxOf_eq]
    refine ⟨?_, rfl, ?_, rfl, rfl, rfl, rfl, rfl, rfl, rfl, rfl, ?_, ?_, fun m k hk => getLsbD_maskByte m hk⟩
    · simp only [entryFields, Selection.fields, w2opt_eq]; rfl
    · simp only [entryFields, CoinClass.fields, opt1_eq]; rfl
    · simp only [entryFields, Audit.fields, List.flatMap_cons, List.flatMap_nil, lowFirst_four]; rfl
    · simp only [entryFields, statusFields, fundsFields, w2opt_eq, i2opt_eq]; rfl

end Sys2Proof.Machine
end

section
/-! SUPPORT. The outcome of a turn and its mark on the selection (R15, R16, R18), and the ways in which a turn completes: cam
changes and motor faults (R30, R33 to R36). -/

namespace Sys2Proof.Machine

/-! ## Outcomes (R15, R16, R18) -/

theorem underHold_iff (s : State) (i : Nat) :
    underHold s i = true ↔ (selOf s i).chilled = true ∧ (selOf s i).perishable = true ∧ s.clg.hold = true :=
  isHeld_iff s _

/-- R15, R16: what a turn report leads to, as one chain. -/
theorem turnOutcome_eq (s : State) (v : VendCtx) (r : TurnResult) (drop : Bool) :
    turnOutcome s v r drop =
      if drop then some .success
      else if r = .jam then some .jammed
      else if r = .motorOpen then some .motorOpen
      else if v.stage ≠ .turn2 ∧ (selOf s v.selection).secondTurn = true ∧
          ¬((selOf s v.selection).chilled = true ∧ (selOf s v.selection).perishable = true ∧ s.clg.hold = true) then none
      else some .noDrop := by
  simp only [← underHold_iff]
  cases r with
  | jam => simp [turnOutcome]
  | motorOpen => simp [turnOutcome]
  | complete =>
    by_cases second : v.stage = .turn2
    · simp [turnOutcome, second]
    · cases allowed : (selOf s v.selection).secondTurn <;> cases held : underHold s v.selection <;>
        simp [turnOutcome, second, allowed, held]

theorem delivered_iff (v : VendCtx) (o : VendOutcome) :
    v.delivered o = true ↔ o = .success ∨ (o = .interrupted ∧ v.dropSeen = true) := by
  simp only [VendCtx.delivered, Bool.or_eq_true, Bool.and_eq_true, beq_iff_eq]

/-- R18: a delivery on the selection entry. -/
theorem outcomeEntry_delivered {o : VendOutcome} {v : VendCtx} (h : v.delivered o = true) (jam : Bool) (e : Selection) :
    outcomeEntry o jam v e = { e with
      stock := e.stock.map (· - 1)
      noDropRun := 0
      sales := min 65535 (e.sales + 1)
      state := if o = .success ∧ jam = true then .jammed else e.state } := if_pos h

theorem outcomeEntry_noDrop (jam : Bool) (v : VendCtx) (e : Selection) :
    outcomeEntry .noDrop jam v e = { e with
      noDropRun := min 2 (e.noDropRun + 1)
      state := if 1 ≤ e.noDropRun then .emptySuspect else e.state } := rfl

theorem outcomeEntry_jammed (jam : Bool) (v : VendCtx) (e : Selection) :
    outcomeEntry .jammed jam v e = { e with state := .jammed } := rfl

/-- R18: the other outcomes leave the entry. -/
theorem outcomeEntry_kept {o : VendOutcome} {v : VendCtx} (h : v.delivered o = false) (noDrop : o ≠ .noDrop)
    (jammed : o ≠ .jammed) (jam : Bool) (e : Selection) : outcomeEntry o jam v e = e := by
  unfold outcomeEntry
  rw [if_neg (Bool.eq_false_iff.1 h)]
  split
  · exact absurd rfl noDrop
  · exact absurd rfl jammed
  · rfl

/-- Settles O25: the chain of a turn report, and each outcome's mark on the entry. -/
theorem outcomesMarkTheSelection : Obligations.OutcomesMarkTheSelection := by
  refine ⟨turnOutcome_eq, fun o jam v e => ?_⟩
  dsimp only
  rw [← delivered_iff]
  cases delivered : v.delivered o with
  | true =>
    rw [outcomeEntry_delivered delivered]
    refine ⟨rfl, fun _ => ⟨rfl, rfl, rfl, rfl⟩, fun h => absurd rfl h, ?_, ?_, fun h => absurd rfl h⟩
    · rintro rfl; cases delivered
    · rintro rfl; cases delivered
  | false =>
    by_cases noDrop : o = .noDrop
    · subst noDrop
      exact ⟨rfl, fun h => (nomatch h), fun _ => ⟨rfl, rfl⟩, fun _ => ⟨rfl, rfl⟩, fun h => (nomatch h), fun _ h => absurd rfl h⟩
    · by_cases jammed : o = .jammed
      · subst jammed
        exact ⟨rfl, fun h => (nomatch h), fun _ => ⟨rfl, rfl⟩, fun h => absurd h noDrop, fun _ => ⟨rfl, rfl⟩,
          fun _ _ h => absurd rfl h⟩
      · rw [outcomeEntry_kept delivered noDrop jammed]
        exact ⟨rfl, fun h => (nomatch h), fun _ => ⟨rfl, rfl⟩, fun h => absurd h noDrop, fun h => absurd h jammed,
          fun _ _ _ => rfl⟩

/-! ## The health that a turn finds (R36) -/

/-- A health stored at one column of a tray, read at another. -/
theorem healthAt_storeHealth {tray col c : Nat} (inTray : tray < 8) (inCol : col < 10) (h : Health) (s : State) :
    healthAt (storeHealth tray c h s) tray col = if c = col then h else healthAt s tray col := by
  unfold storeHealth
  split
  · next same =>
    split
    · next at_ => rw [← at_, same]
    · rfl
  · have inTable : posIndex tray col < 80 := by unfold posIndex; omega
    simp only [healthAt, report_frame]
    by_cases at_ : c = col
    · subst at_
      rw [if_pos rfl, tget_tset_same _ _ _ inTable]
    · rw [if_neg at_, tget_tset_ne _ _ _ (by unfold posIndex; omega)]

/-- R36: the finding of one motor. -/
theorem healthAt_storeFinding {tray col : Nat} (inTray : tray < 8) (inCol : col < 10) (m : Motor) (s : State) :
    healthAt (storeFinding tray s m) tray col =
      if m.col = col then m.stop.finding.getD (healthAt s tray col) else healthAt s tray col := by
  cases found : m.stop.finding with
  | none => simp [storeFinding, found]
  | some h => simp only [storeFinding, found, healthAt_storeHealth inTray inCol, Option.getD_some]

/-- R36: where every motor on a column has the same finding, the column's health is that finding after them all. -/
theorem healthAt_storeFindings {tray col : Nat} (inTray : tray < 8) (inCol : col < 10) (f : Option Health) (ms : List Motor)
    (s : State) (same : ∀ n ∈ ms, n.col = col → n.stop.finding = f) :
    healthAt (ms.foldl (storeFinding tray) s) tray col =
      if ms.any (fun n => n.col == col) then f.getD (healthAt s tray col) else healthAt s tray col := by
  induction ms generalizing s with
  | nil => rfl
  | cons m ms ih =>
    rw [List.foldl_cons, ih _ fun n mem => same n (List.mem_cons_of_mem _ mem), healthAt_storeFinding inTray inCol]
    by_cases at_ : m.col = col
    · rw [same m List.mem_cons_self at_]
      cases f <;> simp [at_]
    · simp [at_]

/-! ## Completed turns (R34 to R36) -/

/-- What the completion of a turn leaves. -/
structure TurnCompleted (r : TurnResult) (w : Turn) (s t : State) : Prop where
  row : t.spd.rowOn = none
  cols : t.spd.colsOn = []
  turn : t.spd.turn = some { w with completed := some (r, s.now) }
  now : t.now = s.now
  vnd : t.vnd = s.vnd
  table : t.sel.table = s.sel.table
  only : ChangesOnly (.spd :: Block.sales) s t

theorem storeFinding_drivers (tray : Nat) (m : Motor) (s : State) :
    (storeFinding tray s m).spd.rowOn = s.spd.rowOn ∧ (storeFinding tray s m).spd.colsOn = s.spd.colsOn ∧
      (storeFinding tray s m).spd.turn = s.spd.turn := by
  unfold storeFinding
  split <;> simp

theorem storeFindings_drivers (tray : Nat) (ms : List Motor) (s : State) :
    (ms.foldl (storeFinding tray) s).spd.rowOn = s.spd.rowOn ∧ (ms.foldl (storeFinding tray) s).spd.colsOn = s.spd.colsOn ∧
      (ms.foldl (storeFinding tray) s).spd.turn = s.spd.turn := by
  induction ms generalizing s with
  | nil => exact ⟨rfl, rfl, rfl⟩
  | cons m ms ih =>
    obtain ⟨row, cols, turn⟩ := ih (storeFinding tray s m)
    obtain ⟨row1, cols1, turn1⟩ := storeFinding_drivers tray m s
    exact ⟨row.trans row1, cols.trans cols1, turn.trans turn1⟩

theorem completeTurn_completed (r : TurnResult) (w : Turn) (s : State) : TurnCompleted r w s (completeTurn r w s) := by
  obtain ⟨row, cols, turn⟩ := storeFindings_drivers w.tray w.motors
    (driversOff { s with spd := { s.spd with turn := some { w with completed := some (r, s.now) } } })
  constructor
  · simpa [completeTurn] using row
  · simpa [completeTurn] using cols
  · simpa [completeTurn] using turn
  · simp
  · simp
  · simp [completeTurn]
  · constructor <;> simp [Block.sales]

/-- R36: the health of a column on which every motor of a completed turn has the same finding. -/
theorem completeTurn_health {r : TurnResult} {w : Turn} {s : State} {col : Nat} {f : Option Health} (inTray : w.tray < 8)
    (inCol : col < 10) (same : ∀ n ∈ w.motors, n.col = col → n.stop.finding = f) (some : ∃ n ∈ w.motors, n.col = col) :
    healthAt (completeTurn r w s) w.tray col = f.getD (healthAt s w.tray col) := by
  have found : w.motors.any (fun n => n.col == col) = true := by simpa using some
  have stored := healthAt_storeFindings inTray inCol f w.motors
    (driversOff { s with spd := { s.spd with turn := Option.some { w with completed := Option.some (r, s.now) } } }) same
  rw [found, if_pos rfl] at stored
  simpa [completeTurn, healthAt] using stored

/-! ## The motors of a turn -/

theorem Turn.motorAt_col {w : Turn} {col : Nat} {m : Motor} (h : w.motorAt col = some m) : m.col = col := by
  simpa using List.find?_some h

theorem Turn.mem_of_motorAt {w : Turn} {col : Nat} {m : Motor} (h : w.motorAt col = some m) : m ∈ w.motors :=
  List.mem_of_find?_eq_some h

/-- A changed motor, at its column. -/
theorem Turn.motorAt_setMotor {w : Turn} {col : Nat} {f : Motor → Motor} (keeps : ∀ m, (f m).col = m.col) :
    (w.setMotor col f).motorAt col = (w.motorAt col).map f := by
  simp only [Turn.motorAt, Turn.setMotor]
  induction w.motors with
  | nil => rfl
  | cons m ms ih =>
    by_cases at_ : m.col = col
    · simp [at_, keeps]
    · simp [at_, ih]

theorem runningMotor_eq {s : State} {w : Turn} {m : Motor} {col : Nat} (turn : s.spd.turn = some w)
    (unfinished : w.completed = none) (motor : w.motorAt col = some m) (runs : m.stop = .running) :
    runningMotor col s = some (w, m) := by
  simp [runningMotor, turn, unfinished, motor, runs]

/-! ## Cam changes (R30, R33) -/

/-- The level of a cam as it changes. -/
def camLevel (tray col : Nat) (isOpen : Bool) (s : State) : State :=
  { s with spd := { s.spd with camOpen := tset s.spd.camOpen (posIndex tray col) isOpen } }

/-- R33: the close after an opening, while another motor runs. -/
theorem motorHome_still {w : Turn} {col : Nat} (s : State) (another : ∃ n ∈ w.motors, n.col ≠ col ∧ n.stop = .running) :
    motorHome col w s =
      columnOff col { s with spd := { s.spd with turn := some (w.setMotor col fun m => { m with stop := .normal }) } } := by
  have runs : (w.setMotor col fun m => { m with stop := .normal }).motors.any (fun m => m.stop == .running) = true := by
    obtain ⟨n, mem, apart, runs⟩ := another
    exact List.any_eq_true.2 ⟨n, List.mem_map.2 ⟨n, mem, if_neg apart⟩, beq_iff_eq.2 runs⟩
  rw [motorHome, if_pos runs]

/-- R33: every motor has stopped normally after the last close. -/
theorem setMotor_normal {w : Turn} {col : Nat} (others : ∀ n ∈ w.motors, n.col ≠ col → n.stop = .normal) {n : Motor}
    (mem : n ∈ (w.setMotor col fun m => { m with stop := .normal }).motors) : n.stop = .normal := by
  obtain ⟨m, inTurn, rfl⟩ := List.mem_map.1 mem
  split
  · rfl
  · exact others m inTurn ‹_›

theorem motorHome_last {w : Turn} {col : Nat} (s : State) (others : ∀ n ∈ w.motors, n.col ≠ col → n.stop = .normal) :
    motorHome col w s = completeTurn .complete (w.setMotor col fun m => { m with stop := .normal }) s := by
  have still : (w.setMotor col fun m => { m with stop := .normal }).motors.any (fun m => m.stop == .running) = false := by
    rw [List.any_eq_false]
    intro n mem
    simp [setMotor_normal others mem]
  rw [motorHome, if_neg (by rw [still]; exact Bool.false_ne_true)]

/-- What a cam change does at a running motor of the tray. -/
theorem execCamChange_running {tray : Fin 8} {col : Fin 10} {w : Turn} {m : Motor} {s : State} (closed : Bool)
    (turn : s.spd.turn = some w) (unfinished : w.completed = none) (inTray : w.tray = tray)
    (motor : w.motorAt col = some m) (runs : m.stop = .running) :
    execCamChange tray col closed s =
      let s1 := camLevel tray col (!closed) s
      if closed then (if m.opened then .next (motorHome col w s1) else .next s1)
      else .next { s1 with spd := { s1.spd with turn := some (w.setMotor col fun m => { m with opened := true }) } } := by
  have found : runningMotor col (camLevel tray col (!closed) s) = some (w, m) := runningMotor_eq turn unfinished motor runs
  have same : ¬w.tray ≠ tray := not_not.2 inTray
  unfold execCamChange
  rw [camLevel] at found
  simp only [found, if_neg same, camLevel]

/-- Settles O26: the opening, the close before it, a twin's first close, and the last close with what it completes. -/
theorem camChangesStopTheMotors : Obligations.CamChangesStopTheMotors := by
  intro tray col t0 m s turn unfinished inTray motor runs
  have row (closed : Bool) := execCamChange_running closed turn unfinished inTray motor runs
  refine ⟨⟨_, row false, by constructor <;> simp [camLevel], rfl⟩, fun shut => ?_, fun opened another => ?_,
    fun opened others => ?_⟩
  · exact (row true).trans (by rw [shut]; rfl)
  · have home := motorHome_still (camLevel tray col false s) another
    refine ⟨_, (row true).trans (by rw [opened]; rfl), ?_, ?_, ?_⟩
    · rw [Bool.not_true, home]; constructor <;> simp [columnOff, camLevel]
    · rw [Bool.not_true, home]; rfl
    · rw [Bool.not_true, home]; rfl
  · have home := motorHome_last (camLevel tray col false s) others
    obtain ⟨row0, cols, done, now, vnd, table, only⟩ := completeTurn_completed .complete
      (t0.setMotor col fun m => { m with stop := .normal }) (camLevel tray col false s)
    have level : ChangesOnly (.spd :: Block.sales) s (camLevel tray col false s) := by
      constructor <;> simp [camLevel]
    refine ⟨_, (row true).trans (by rw [opened]; rfl), ?_⟩
    rw [Bool.not_true, home]
    refine ⟨row0, cols, ⟨_, done, rfl, rfl⟩, fun n mem inCol => ?_, now, vnd, table, level.trans only⟩
    have health := completeTurn_health (r := .complete) (w := t0.setMotor col fun m => { m with stop := .normal })
      (s := camLevel tray col false s) (col := n.col) (f := some .ok) (inTray ▸ tray.isLt) inCol
      (fun k mem _ => by rw [setMotor_normal others mem]; rfl)
      ⟨if n.col = col then { n with stop := .normal } else n, List.mem_map.2 ⟨n, mem, rfl⟩, by split <;> rfl⟩
    exact (congrArg (healthAt _ · n.col) inTray.symm).trans health

/-! ## Motor faults (R33 to R35) -/

/-- R34, R35: a motor of a turn that a fault at a column stops. -/
def faultedMotor (col : Nat) (finding : Option Health) (m : Motor) : Motor :=
  if m.col = col then { m with stop := .fault finding, openTested := true }
  else if m.stop = .running then { m with stop := .partnerFault } else m

theorem motorFault_eq (col : Nat) (finding : Option Health) (r : TurnResult) (w : Turn) (s : State) :
    motorFault col finding r w s = completeTurn r { w with motors := w.motors.map (faultedMotor col finding) } s := rfl

theorem faultedMotor_col (col : Nat) (finding : Option Health) (m : Motor) : (faultedMotor col finding m).col = m.col := by
  unfold faultedMotor
  split
  · rfl
  · split <;> rfl

theorem faultedMotor_stop (col : Nat) (finding : Option Health) (m : Motor) :
    (faultedMotor col finding m).stop ≠ .running ∧ (m.col = col → (faultedMotor col finding m).stop = .fault finding) := by
  unfold faultedMotor
  split
  · exact ⟨nofun, fun _ => rfl⟩
  · next apart =>
    refine ⟨?_, fun at_ => absurd at_ apart⟩
    split
    · nofun
    · assumption

/-- What a fault on a motor leaves (R34 to R36). -/
structure TurnFaulted (col : Nat) (finding : Option Health) (r : TurnResult) (due : Time) (w : Turn) (s t : State) : Prop where
  now : t.now = max s.now due
  row : t.spd.rowOn = none
  cols : t.spd.colsOn = []
  turn : ∃ u, t.spd.turn = some u ∧ u.completed = some (r, t.now) ∧ u.dropSeen = w.dropSeen ∧
    ∀ n ∈ u.motors, n.stop ≠ .running
  health : healthAt t w.tray col = finding.getD (healthAt s w.tray col)
  vnd : t.vnd = s.vnd
  table : t.sel.table = s.sel.table
  only : ChangesOnly (.now :: .spd :: Block.sales) s t

theorem motorFault_faulted {col : Nat} {w : Turn} {m : Motor} (finding : Option Health) (r : TurnResult) (due : Time) (s : State)
    (inTray : w.tray < 8) (inCol : col < 10) (motor : w.motorAt col = some m) :
    TurnFaulted col finding r due w s (motorFault col finding r w (s.upTo due)) := by
  obtain ⟨row, cols, turn, now, vnd, table, only⟩ := completeTurn_completed r
    { w with motors := w.motors.map (faultedMotor col finding) } (s.upTo due)
  rw [motorFault_eq]
  have clock : ChangesOnly (.now :: .spd :: Block.sales) s (s.upTo due) := by constructor <;> simp [State.upTo]
  refine ⟨now, row, cols, ⟨_, turn, by rw [now], rfl, ?_⟩, ?_, vnd, table,
    clock.trans (only.mono (List.subset_cons_self _ _))⟩
  · intro n mem
    obtain ⟨k, -, rfl⟩ := List.mem_map.1 mem
    exact (faultedMotor_stop col finding k).1
  · refine completeTurn_health (s := s.upTo due) (w := { w with motors := w.motors.map (faultedMotor col finding) })
      (f := finding) inTray inCol ?_ ?_
    · intro n mem at_
      obtain ⟨k, -, rfl⟩ := List.mem_map.1 mem
      rw [(faultedMotor_stop col finding k).2 (faultedMotor_col col finding k ▸ at_)]
      rfl
    · exact ⟨_, List.mem_map.2 ⟨m, Turn.mem_of_motorAt motor, rfl⟩, by rw [faultedMotor_col, Turn.motorAt_col motor]⟩

/-- R34: the open test of a running motor is still to be decided. -/
theorem untestedMotor_eq {s : State} {w : Turn} {m : Motor} {col : Nat} (turn : s.spd.turn = some w)
    (unfinished : w.completed = none) (motor : w.motorAt col = some m) (runs : m.stop = .running)
    (untested : m.openTested = false) : untestedMotor col s = some w := by
  have waits : w.motors.any (fun m => m.col == col && !m.openTested && (m.stop == .running || m.stop == .normal)) = true :=
    List.any_eq_true.2 ⟨m, Turn.mem_of_motorAt motor, by simp [Turn.motorAt_col motor, untested, runs]⟩
  simp only [untestedMotor, turn, unfinished, waits, and_self, if_true]

/-- Settles O27: each fault completes the turn with its result and its finding. -/
theorem motorFaultsEndTheTurn : Obligations.MotorFaultsEndTheTurn := by
  intro col sample t0 m s turn unfinished inTray motor runs _ ends
  have running := runningMotor_eq turn unfinished motor runs
  have fault {i : Instr} {due : Time} {r : TurnResult} {f : Option Health}
      (row : exec i s = .next (motorFault col f r t0 (s.upTo due))) : ends i due r f := by
    obtain ⟨now, row0, cols, u, health, vnd, table, only⟩ := motorFault_faulted f r due s inTray col.isLt motor
    exact ⟨_, row, now, row0, cols, u, health, vnd, table, only⟩
  refine ⟨fun shut => fault ?_, fun opened => fault ?_, fun untested below => fault ?_, fun untested above => ?_,
    fun short => fault ?_, fun jam => fault ?_⟩
  · change execStuckAtHome col s = _
    simp only [execStuckAtHome, running, shut, Bool.false_eq_true, if_false]
  · change execNoHome col s = _
    simp only [execNoHome, running, opened, if_true]
  · change execOpenTest col sample s = _
    simp only [execOpenTest, untestedMotor_eq turn unfinished motor runs untested]
    exact if_pos below
  · have row : execOpenTest col sample s = .next { s.upTo (t0.start + ms 100) with spd := { s.spd with
        turn := some (t0.setMotor col fun m => { m with openTested := true }) } } := by
      simp only [execOpenTest, untestedMotor_eq turn unfinished motor runs untested]
      exact if_neg (Nat.not_lt.2 above)
    refine ⟨_, row, by constructor <;> simp [State.upTo], rfl, rfl, _, rfl, ?_⟩
    rw [Turn.motorAt_setMotor (f := fun m => { m with openTested := true }) fun _ => rfl, motor, Option.map_some]
  · change execMotorShort col sample s = _
    simp only [execMotorShort, running]
    exact (if_pos short).trans (by rw [show s.upTo 0 = s from congrArg (fun n => { s with now := n }) (Nat.max_zero s.now)])
  · change execMotorJam col sample s = _
    simp only [execMotorJam, running]
    exact if_pos jam

end Sys2Proof.Machine
end

section
/-! SUPPORT. What the operations of the blocks retain: every entry of the report queue, every dirty key until it is queued, and
every own frame that waits, an ENABLE apart, which may take a new mask (R169, R193 to R196). -/

namespace Sys2Proof.Machine

/-- Every report of `s` still stands in `t`, and every own frame that is no ENABLE still waits. -/
structure Retains (s t : State) : Prop where
  queue : ∃ l, t.rpq.queue = s.rpq.queue ++ l
  dirty : ∀ k ∈ s.rpq.dirty, .state k ∈ t.rpq.queue ∨ k ∈ t.rpq.dirty
  own : ∀ f ∈ s.dlk.own, f.kind.kind ≠ kEnable → f ∈ t.dlk.own

theorem retains_same {s t : State} (queue : t.rpq.queue = s.rpq.queue) (dirty : t.rpq.dirty = s.rpq.dirty)
    (own : t.dlk.own = s.dlk.own) : Retains s t :=
  ⟨⟨[], by rw [queue, List.append_nil]⟩, fun k mem => .inr (dirty ▸ mem), fun f mem _ => own ▸ mem⟩

theorem Retains.refl (s : State) : Retains s s := retains_same rfl rfl rfl

theorem Retains.trans {s t u : State} (h : Retains s t) (k : Retains t u) : Retains s u := by
  obtain ⟨⟨l, queue⟩, dirty, own⟩ := h
  obtain ⟨⟨l', queue'⟩, dirty', own'⟩ := k
  refine ⟨⟨l ++ l', by rw [queue', queue, List.append_assoc]⟩, fun key mem => ?_, fun f mem plain => own' f (own f mem plain) plain⟩
  obtain queued | waits := dirty key mem
  · exact .inl (queue' ▸ List.mem_append_left _ queued)
  · exact dirty' key waits

/-- What an operation retains of a state that differs from `s` elsewhere only. -/
theorem Retains.from {s s' t : State} (h : Retains s' t) (queue : s'.rpq.queue = s.rpq.queue) (dirty : s'.rpq.dirty = s.rpq.dirty)
    (own : s'.dlk.own = s.dlk.own) : Retains s t :=
  (retains_same queue dirty own).trans h

/-- What is reported stays reported. -/
theorem Retains.reported {s t : State} {k : StateKey} (h : Retains s t) (r : Reported k s) : Reported k t := by
  obtain ⟨⟨l, queue⟩, dirty, -⟩ := h
  exact r.elim (fun queued => .inl (queue ▸ List.mem_append_left _ queued)) (dirty k)

/-- What is queued stays queued. -/
theorem Retains.queued {s t : State} {r : Report} (h : Retains s t) (queued : r ∈ s.rpq.queue) : r ∈ t.rpq.queue := by
  obtain ⟨⟨l, queue⟩, -, -⟩ := h
  exact queue ▸ List.mem_append_left _ queued

/-! ## Reports and slots -/

theorem report_retains (k : StateKey) (s : State) : Retains s (report k s) := by
  obtain ⟨-, e⟩ | ⟨-, -, e⟩ | ⟨-, -, e⟩ := report_cases k s <;> rw [e]
  · exact .refl s
  · exact ⟨⟨_, rfl⟩, fun j mem => .inr mem, fun f mem _ => mem⟩
  · exact ⟨⟨[], by simp⟩, fun j mem => .inr ((mem_insertKey k j _).2 (.inr mem)), fun f mem _ => mem⟩

theorem reportIf_retains (c : Bool) (k : StateKey) (s : State) : Retains s (reportIf c k s) := by
  unfold reportIf
  split
  · exact report_retains k s
  · exact .refl s

theorem reports_retain {α : Type} (key : α → StateKey) (l : List α) (s : State) :
    Retains s (l.foldl (fun a i => report (key i) a) s) := by
  induction l generalizing s with
  | nil => exact .refl s
  | cons i l ih => exact (report_retains _ _).trans (ih _)

theorem slotFreed_retains (s : State) : Retains s (slotFreed s) := by
  obtain ⟨-, e⟩ | ⟨-, k, ks, dirty, e⟩ | ⟨-, -, e⟩ | ⟨-, -, e⟩ := slotFreed_cases s <;> rw [e]
  · exact .refl s
  · refine ⟨⟨_, rfl⟩, fun j mem => ?_, fun f mem _ => mem⟩
    rw [dirty] at mem
    obtain rfl | later := List.mem_cons.1 mem
    · exact .inl (by simp)
    · exact .inr later
  · exact retains_same rfl rfl rfl
  · exact .refl s

theorem reserve_retains (n : Nat) (s : State) : Retains s (reserve n s) := retains_same rfl rfl rfl

theorem appendEvent_retains (ev : EventReport) (s : State) : Retains s (appendEvent ev s) := by
  unfold appendEvent
  split
  · exact ⟨⟨_, rfl⟩, fun _ mem => .inr mem, fun _ mem _ => mem⟩
  · exact .refl s

theorem consumeSlot_retains (ev : EventReport) (s : State) : Retains s (consumeSlot ev s) := by
  unfold consumeSlot
  split
  · exact ⟨⟨_, rfl⟩, fun _ mem => .inr mem, fun _ mem _ => mem⟩
  · exact appendEvent_retains ev s

/-- R194: an event with a slot is queued. -/
theorem consumeSlot_queued (ev : EventReport) {s : State} (slot : 0 < s.rpq.reserved) :
    Report.event ev ∈ (consumeSlot ev s).rpq.queue := by
  rw [consumeSlot, if_pos slot]
  simp

theorem releaseSlot_retains (s : State) : Retains s (releaseSlot s) := by
  obtain ⟨-, e⟩ | ⟨-, e⟩ := releaseSlot_cases s <;> rw [e]
  · exact (slotFreed_retains _).from rfl rfl rfl
  · exact .refl s

/-! ## Own frames, the credit and the Cash Unit's flags -/

theorem handFrame_retains (role : Role) (k : OwnKind) (s : State) : Retains s (handFrame role k s).1 := by
  refine ⟨⟨[], by simp⟩, fun _ mem => .inr (by simpa using mem), fun f mem plain => ?_⟩
  unfold handFrame
  split
  · exact mem
  · split
    · exact mem
    · split
      · refine List.mem_map.2 ⟨f, mem, ?_⟩
        unfold OwnFrame.replaceEnable OwnFrame.isEnableFor
        split
        · next enable =>
          cases f with
          | mk node kind => cases kind <;> simp_all [OwnKind.kind]
        · rfl
      · split
        · exact mem
        · exact List.mem_append_left _ mem

theorem sendEnable_retains (s : State) : Retains s (sendEnable s) := by
  unfold sendEnable
  split
  · split
    · exact handFrame_retains _ _ s
    · exact .refl s
  · exact .refl s

theorem cshRefresh_retains (s : State) : Retains s (cshRefresh s) := by
  unfold cshRefresh
  exact ((reportIf_retains _ _ _).trans (sendEnable_retains _)).from rfl rfl rfl

theorem settleCash_retains (before s : State) : Retains s (settleCash before s) := by
  obtain ⟨-, e⟩ | ⟨-, e⟩ := settleCash_cases before s <;> rw [e]
  · exact .refl s
  · exact cshRefresh_retains s

theorem addCredit_retains (n : Nat) (s : State) : Retains s (addCredit n s) := by
  obtain ⟨-, e⟩ | ⟨-, e⟩ | ⟨-, e⟩ := addCredit_cases n s <;> rw [e]
  · exact .refl s
  · exact (report_retains _ _).from rfl rfl rfl
  · exact (report_retains _ _).from rfl rfl rfl

theorem takeCredit_retains (n : Nat) (s : State) : Retains s (takeCredit n s) := by
  unfold takeCredit
  split
  · exact .refl s
  · exact (report_retains _ _).from rfl rfl rfl

/-! ## Selections and tubes -/

theorem ecoRefresh_retains (s : State) : Retains s (ecoRefresh s) := by
  unfold ecoRefresh
  dsimp only
  split
  · exact .refl s
  · exact (report_retains _ _).from rfl rfl rfl

theorem selRefresh_retains (s : State) : Retains s (selRefresh s) := by
  unfold selRefresh
  exact ((reports_retain _ _ _).trans (ecoRefresh_retains _)).from rfl rfl rfl

theorem storeSelection_retains (i : Nat) (e : Selection) (s : State) : Retains s (storeSelection i e s) :=
  (reportIf_retains _ _ _).from rfl rfl rfl

theorem storeHealth_retains (tray col : Nat) (h : Health) (s : State) : Retains s (storeHealth tray col h s) := by
  unfold storeHealth
  split
  · exact .refl s
  · exact (report_retains _ _).from rfl rfl rfl

theorem storeTube_retains (i : Nat) (e : Tube) (s : State) : Retains s (storeTube i e s) :=
  (reportIf_retains _ _ _).from rfl rfl rfl

/-! ## Payouts -/

theorem endPayout_retains (s : State) : Retains s (endPayout s) := by
  unfold endPayout endPayoutWith
  split
  · next p _ =>
    refine .trans ?_ (consumeSlot_retains _ _)
    refine .trans ?_ (settleCash_retains _ _)
    split
    · exact retains_same rfl rfl rfl
    · exact (addCredit_retains _ _).from rfl rfl rfl
  · exact .refl s

theorem payFirst_retains (p : Payout) (s : State) : Retains s (payFirst p s) := by
  unfold payFirst
  split
  · exact retains_same rfl rfl rfl
  · exact (endPayout_retains _).from rfl rfl rfl

theorem replan_retains (p : Payout) (s : State) : Retains s (replan p s) := by
  unfold replan
  split
  · exact payFirst_retains _ s
  · exact endPayout_retains s

theorem nextCoin_retains (s : State) : Retains s (nextCoin s) := by
  unfold nextCoin
  split
  · split
    · split
      · exact replan_retains _ s
      · exact retains_same rfl rfl rfl
    · exact endPayout_retains s
  · exact .refl s

theorem afterFailure_retains (s : State) : Retains s (afterFailure s) := by
  unfold afterFailure
  split
  · split
    · exact endPayout_retains s
    · exact replan_retains _ s
  · exact .refl s

theorem beginPaying_retains (s : State) : Retains s (beginPaying s) := by
  unfold beginPaying
  split
  · exact (payFirst_retains _ _).from rfl rfl rfl
  · exact .refl s

theorem coinPaid_retains (p : Payout) (s : State) : Retains s (coinPaid p s) := by
  unfold coinPaid
  refine .trans ?_ (settleCash_retains _ _)
  exact (storeTube_retains _ _ s).trans (retains_same rfl rfl rfl)

theorem openPayout_retains (src : PayoutSource) (form : PayoutForm) (amount : Nat) (s : State) :
    Retains s (openPayout src form amount s) := by
  unfold openPayout
  dsimp only
  split <;> exact retains_same rfl rfl rfl

theorem startCreditPayout_retains (src : PayoutSource) (s : State) : Retains s (startCreditPayout src s) := by
  unfold startCreditPayout
  exact (takeCredit_retains _ s).trans ((openPayout_retains _ _ _ _).trans (settleCash_retains _ _))

/-! ## The compressor -/

theorem setComp_retains (c : CompState) (s : State) : Retains s (setComp c s) := by
  unfold setComp
  split
  · exact .refl s
  · exact (report_retains _ _).from rfl rfl rfl

theorem idleLook_retains (s : State) : Retains s (idleLook s) := by
  unfold idleLook
  split
  · split
    · exact (setComp_retains _ s).trans (retains_same rfl rfl rfl)
    · split
      · exact (setComp_retains _ s).trans (retains_same rfl rfl rfl)
      · exact .refl s
  · exact .refl s

theorem leaveGuard_retains (s : State) : Retains s (leaveGuard s) := (setComp_retains _ s).trans (idleLook_retains _)

theorem enterGuard_retains (s : State) : Retains s (enterGuard s) := by
  unfold enterGuard
  dsimp only
  refine .trans (setComp_retains .guard s) ?_
  split
  · exact leaveGuard_retains _
  · exact .refl _

theorem enterDefrost_retains (s : State) : Retains s (enterDefrost s) := (setComp_retains _ _).from rfl rfl rfl

theorem enterDrip_retains (s : State) : Retains s (enterDrip s) := by
  unfold enterDrip
  dsimp only
  split
  · exact ((setComp_retains _ _).trans (enterGuard_retains _)).from rfl rfl rfl
  · exact (setComp_retains _ _).from rfl rfl rfl

theorem stopByDemand_retains (s : State) : Retains s (stopByDemand s) := by
  unfold stopByDemand
  dsimp only
  split
  · exact (enterDefrost_retains _).from rfl rfl rfl
  · exact (enterGuard_retains _).from rfl rfl rfl

theorem startCompressor_retains (s : State) : Retains s (startCompressor s) := by
  unfold startCompressor
  dsimp only
  split
  · exact retains_same rfl rfl rfl
  · exact (setComp_retains _ _).from rfl rfl rfl

/-! ## The claim list -/

theorem grantVend_retains (n : Nat) (s : State) : Retains s (grantVend n s) := by
  unfold grantVend
  split
  · exact retains_same rfl rfl rfl
  · exact .refl s

theorem energizeCheck_retains (s : State) : Retains s (energizeCheck s) := by
  unfold energizeCheck
  split
  · exact retains_same rfl rfl rfl
  · exact .refl s

theorem grantClaim_retains (c : Claim) (s : State) : Retains s (grantClaim c s) := by
  unfold grantClaim
  dsimp only
  split
  · exact (grantVend_retains _ _).from rfl rfl rfl
  · exact (beginPaying_retains _).from rfl rfl rfl
  · exact (energizeCheck_retains _).from rfl rfl rfl
  · exact (startCompressor_retains _).from rfl rfl rfl

theorem evaluateUpTo_retains (n : Nat) (s : State) : Retains s (evaluateUpTo n s) := by
  induction n generalizing s with
  | zero => exact .refl s
  | succ n ih =>
    simp only [evaluateUpTo]
    split
    · exact (grantClaim_retains _ s).trans (ih _)
    · exact .refl s

theorem evaluateClaims_retains (s : State) : Retains s (evaluateClaims s) := evaluateUpTo_retains _ s

/-! ## Turns and the sweep -/

theorem storeFindings_retains (tray : Nat) (ms : List Motor) (s : State) : Retains s (ms.foldl (storeFinding tray) s) := by
  induction ms generalizing s with
  | nil => exact .refl s
  | cons m ms ih =>
    refine .trans ?_ (ih _)
    unfold storeFinding
    split
    · exact storeHealth_retains _ _ _ s
    · exact .refl s

theorem completeTurn_retains (r : TurnResult) (w : Turn) (s : State) : Retains s (completeTurn r w s) := by
  unfold completeTurn
  exact ((storeFindings_retains _ _ _).trans ((selRefresh_retains _).trans (settleCash_retains _ _))).from rfl rfl rfl

theorem sweepFinish_retains (stopped : Bool) (w : Sweep) (s : State) : Retains s (sweepFinish stopped w s) :=
  (consumeSlot_retains _ _).from rfl rfl rfl

theorem sweepLook_retains (n : Nat) (s : State) : Retains s (sweepLook n s) := by
  induction n generalizing s with
  | zero => exact .refl s
  | succ n ih =>
    simp only [sweepLook]
    split
    · exact .refl s
    · split
      · exact .refl s
      · split
        · split
          · exact sweepFinish_retains _ _ s
          · exact (ih _).from rfl rfl rfl
        · exact retains_same rfl rfl rfl

theorem sweepWalk_retains (s : State) : Retains s (sweepWalk s) := sweepLook_retains 80 s

theorem endCheck_retains (s : State) : Retains s (endCheck s) := retains_same (by simp) (by simp) (by simp)

theorem pauseSweep_retains (s : State) : Retains s (pauseSweep s) := retains_same (by simp) (by simp) (by simp)

theorem resumeSweep_retains (s : State) : Retains s (resumeSweep s) := by
  unfold resumeSweep
  split
  · split
    · exact (sweepWalk_retains _).from rfl rfl rfl
    · exact .refl s
  · exact .refl s

theorem stopSweep_retains (s : State) : Retains s (stopSweep s) := by
  unfold stopSweep
  dsimp only
  refine (endCheck_retains s).trans ?_
  split
  · exact sweepFinish_retains _ _ _
  · exact .refl _

/-! ## Settlement and the card session -/

theorem settleMoney_retains (o : VendOutcome) (v : VendCtx) (s : State) : Retains s (settleMoney o v s) := by
  unfold settleMoney
  split
  · exact retains_same rfl rfl rfl
  · split
    · exact addCredit_retains _ s
    · exact .refl s

theorem recordOutcome_retains (o : VendOutcome) (jam : Bool) (v : VendCtx) (s : State) : Retains s (recordOutcome o jam v s) := by
  unfold recordOutcome
  exact ((storeSelection_retains _ _ _).trans ((selRefresh_retains _).trans (settleMoney_retains _ _ _))).from rfl rfl rfl

theorem settleSecondSlot_retains (v : VendCtx) (s : State) : Retains s (settleSecondSlot v s) := by
  unfold settleSecondSlot
  split
  · split
    · exact (startCreditPayout_retains _ s).trans (evaluateClaims_retains _)
    · exact releaseSlot_retains s
  · exact .refl s

/-- R20, R21: after its VEND_RESULT a vend's end retains what stands. -/
theorem finishVend_retains (informed : Bool) (s : State) : Retains s (finishVend informed s) := by
  unfold finishVend
  split
  · dsimp only
    refine .trans ?_ (evaluateClaims_retains _)
    refine .trans ?_ (resumeSweep_retains _)
    exact ((consumeSlot_retains _ s).trans (settleSecondSlot_retains _ _)).trans (retains_same rfl rfl rfl)
  · exact .refl s

theorem setSession_retains (c : Crd) (s : State) : Retains s (setSession c s) := (reportIf_retains _ _ _).from rfl rfl rfl

theorem sessionNone_retains (s : State) : Retains s (sessionNone s) := setSession_retains _ s

theorem sessionEnds_retains (s : State) : Retains s (sessionEnds s) :=
  (handFrame_retains _ _ s).trans (sessionNone_retains _)

theorem sessionOpens_retains (s : State) : Retains s (sessionOpens s) := by
  unfold sessionOpens
  split
  · exact setSession_retains _ s
  · exact sessionEnds_retains s

theorem resultEnds_retains (acked : Bool) (s : State) : Retains s (resultEnds acked s) := by
  unfold resultEnds
  split
  · next r _ =>
    dsimp only
    have finished : Retains s (if r.vendLink = true then finishVend acked s else s) := by
      split
      · exact finishVend_retains _ s
      · exact .refl s
    generalize (if r.vendLink = true then finishVend acked s else s) = s1 at finished ⊢
    split
    · exact finished.trans ((sessionNone_retains _).from rfl rfl rfl)
    · exact finished.trans ((sessionOpens_retains _).from rfl rfl rfl)
  · exact .refl s

theorem oweResult_retains (r : ResultOwed) (s : State) : Retains s (oweResult r s) := by
  have handed := (setSession_retains { s.crd with state := .vending, deadline := none, owed := some r } s).trans
    (handFrame_retains .card (.vendResult r.success r.price r.selection) _)
  unfold oweResult
  dsimp only
  split
  · next s2 e => rw [e] at handed; exact handed.trans (resultEnds_retains _ _)
  · next s2 e => rw [e] at handed; exact handed

theorem requestResult_retains (success : Bool) (v : VendCtx) (s : State) : Retains s (requestResult success v s) := by
  unfold requestResult
  split
  · exact oweResult_retains _ s
  · exact oweResult_retains _ s
  · exact finishVend_retains _ s
  · exact finishVend_retains _ s

theorem releaseVend_retains (s : State) : Retains s (releaseVend s) := (evaluateClaims_retains _).from rfl rfl rfl

theorem settle_retains (o : VendOutcome) (jam informed : Bool) (s : State) : Retains s (settle o jam informed s) := by
  unfold settle
  split
  · next v _ =>
    have recorded : Retains s (settleCash (releaseVend s) (recordOutcome o jam v (releaseVend s))) :=
      (releaseVend_retains s).trans ((recordOutcome_retains _ _ _ _).trans (settleCash_retains _ _))
    dsimp only
    split
    · exact recorded.trans (requestResult_retains _ _ _)
    · exact recorded.trans (finishVend_retains _ _)
  · exact .refl s

theorem enterLoadWait_retains (s : State) : Retains s (enterLoadWait s) := by
  unfold enterLoadWait
  split
  · dsimp only
    split
    · exact retains_same rfl rfl rfl
    · exact (evaluateClaims_retains _).from rfl rfl rfl
  · exact .refl s

theorem sessionLeavesOnline_retains (s : State) : Retains s (sessionLeavesOnline s) := by
  unfold sessionLeavesOnline
  split
  · exact sessionEnds_retains s
  · exact .refl s

theorem interruptVend_retains (drop : Bool) (s : State) : Retains s (interruptVend drop s) := by
  unfold interruptVend
  split
  · split
    · exact (settle_retains _ _ _ _).from rfl rfl rfl
    · exact .refl s
  · exact .refl s

theorem holdCancelsVend_retains (s : State) : Retains s (holdCancelsVend s) := by
  unfold holdCancelsVend
  split
  · split
    · exact settle_retains _ _ _ s
    · exact .refl s
  · exact .refl s

/-! ## The mode -/

theorem segmentLeavesOnline_retains (s : State) : Retains s (segmentLeavesOnline s) := by
  unfold segmentLeavesOnline pendRelease tryRelease
  split
  · split <;> exact retains_same rfl rfl rfl
  · exact .refl s

theorem modeFollows_retains (before s : State) : Retains s (modeFollows before s) := by
  unfold modeFollows
  dsimp only
  refine (settleCash_retains before s).trans ?_
  split
  · exact (sessionLeavesOnline_retains _).trans (segmentLeavesOnline_retains _)
  · exact .refl _

theorem changeMode_retains (m : Mode) (s : State) : Retains s (changeMode m s) := by
  unfold changeMode
  split
  · exact .refl s
  · dsimp only
    refine .trans ?_ (modeFollows_retains _ _)
    refine .trans ?_ (evaluateClaims_retains _)
    split
    · exact (stopSweep_retains _).from rfl rfl rfl
    · exact retains_same rfl rfl rfl

theorem cutPayout_retains (s : State) : Retains s (cutPayout s) := by
  unfold cutPayout
  split
  · split
    · exact retains_same rfl rfl rfl
    · exact endPayout_retains s
  · exact .refl s

theorem coolingEntersSafe_retains (s : State) : Retains s (coolingEntersSafe s) := by
  unfold coolingEntersSafe
  split
  · exact .refl s
  · exact (setComp_retains _ _).from rfl rfl rfl

theorem stopTurn_retains (s : State) : Retains s (stopTurn s) := by
  unfold stopTurn
  split
  · exact retains_same rfl rfl rfl
  · exact .refl s

theorem refileVend_retains (s : State) : Retains s (refileVend s) := by
  unfold refileVend
  split
  · split
    · exact retains_same rfl rfl rfl
    · exact .refl s
  · exact .refl s

theorem leaveSafe_retains (s : State) : Retains s (leaveSafe s) := by
  unfold leaveSafe
  dsimp only
  refine .trans ?_ (evaluateClaims_retains _)
  refine .trans ?_ (modeFollows_retains _ _)
  have looked : Retains s (idleLook (refileVend (storeMode (modeAfterSafe s) s))) :=
    ((refileVend_retains _).trans (idleLook_retains _)).from rfl rfl rfl
  split
  · exact looked.trans (stopSweep_retains _)
  · exact looked.trans (resumeSweep_retains _)

theorem doorMovesMode_retains (isOpen : Bool) (s : State) : Retains s (doorMovesMode isOpen s) := by
  unfold doorMovesMode
  split
  · exact changeMode_retains _ s
  · exact changeMode_retains _ s
  · exact .refl s

end Sys2Proof.Machine
end

section
/-! SUPPORT. What an evaluation of the claim list can change, whatever it grants (R138, R140). -/

namespace Sys2Proof.Machine

/-! ## Induction over the grants -/

/-- What holds before an evaluation and through each grant holds after it. -/
theorem evaluateUpTo_induct {P : State → Prop} {s : State} (n : Nat) (before : P s)
    (grant : ∀ u c, nextGrant u = some c → P u → P (grantClaim c u)) : P (evaluateUpTo n s) := by
  induction n generalizing s with
  | zero => exact before
  | succ n ih =>
    unfold evaluateUpTo
    split
    · next c next => exact ih (grant s c next before)
    · exact before

theorem evaluateClaims_induct {P : State → Prop} {s : State} (before : P s)
    (grant : ∀ u c, nextGrant u = some c → P u → P (grantClaim c u)) : P (evaluateClaims s) :=
  evaluateUpTo_induct _ before grant

/-- An evaluation leaves what every grant of a claim of `s` leaves. -/
theorem evaluateClaims_keep {α : Type} (f : State → α) {s : State}
    (grant : ∀ u, (∀ c ∈ u.lds.claims, c ∈ s.lds.claims) → ∀ c ∈ s.lds.claims, f (grantClaim c u) = f u) :
    f (evaluateClaims s) = f s := by
  have kept := evaluateClaims_induct (P := fun u => (∀ c ∈ u.lds.claims, c ∈ s.lds.claims) ∧ f u = f s)
    ⟨fun _ mem => mem, rfl⟩ fun u c next ⟨within, same⟩ => by
      refine ⟨fun d mem => ?_, (grant u within c (within c (nextGrant_fits next).2.1)).trans same⟩
      rw [grantClaim_claims] at mem
      exact within d (List.mem_filter.1 mem).1
  exact kept.2

/-- A claim that waits after an evaluation waited before it. -/
theorem evaluateClaims_claims {s : State} {c : Claim} (mem : c ∈ (evaluateClaims s).lds.claims) : c ∈ s.lds.claims := by
  refine evaluateClaims_induct (P := fun u => c ∈ u.lds.claims → c ∈ s.lds.claims) id (fun u d _ before after => ?_) mem
  rw [grantClaim_claims] at after
  exact before (List.mem_filter.1 after).1

/-! ## Money (R54, R87) -/

/-- The credit, the held price and the remainder owed: what the machine holds of the customer's money. -/
def moneyHeld (s : State) : Nat := s.csh.credit + heldPrice s + moneyOwed s

theorem heldPrice_congr {s t : State} (h : t.vnd = s.vnd) : heldPrice t = heldPrice s := by
  unfold heldPrice; rw [h]

theorem moneyOwed_congr {s t : State} (h : t.chg.payout = s.chg.payout) : moneyOwed t = moneyOwed s := by
  unfold moneyOwed; rw [h]

theorem moneyHeld_congr {s t : State} (csh : t.csh.credit = s.csh.credit) (vnd : t.vnd = s.vnd)
    (chg : t.chg.payout = s.chg.payout) : moneyHeld t = moneyHeld s := by
  unfold moneyHeld; rw [csh, heldPrice_congr vnd, moneyOwed_congr chg]

theorem addCredit_credit {n : Nat} {s : State} (range : s.csh.credit + n ≤ 65535) :
    (addCredit n s).csh.credit = s.csh.credit + n := by
  obtain ⟨zero, e⟩ | ⟨-, e⟩ | ⟨beyond, -⟩ := addCredit_cases n s
  · rw [e, zero, Nat.add_zero]
  · rw [e]; simp
  · omega

/-- CSH outside the credit and its flags. -/
def SameBooks (s t : State) : Prop :=
  t.csh = { s.csh with
    credit := t.csh.credit
    coinSafe := t.csh.coinSafe
    billSafe := t.csh.billSafe
    effMask := t.csh.effMask
    exactChange := t.csh.exactChange }

theorem SameBooks.refl (s : State) : SameBooks s s := rfl

theorem SameBooks.trans {s t u : State} (h : SameBooks s t) (k : SameBooks t u) : SameBooks s u := by
  unfold SameBooks at h k ⊢
  rw [k, h]

theorem SameAccount.books {s t : State} (h : SameAccount s t) : SameBooks s t := by
  unfold SameAccount at h
  unfold SameBooks
  rw [h]

theorem addCredit_books (n : Nat) (s : State) : SameBooks s (addCredit n s) := by
  obtain ⟨-, e⟩ | ⟨-, e⟩ | ⟨-, e⟩ := addCredit_cases n s <;> rw [e]
  · rfl
  · simp [SameBooks]
  · simp [SameBooks]

theorem sameBooks_of_csh {s t : State} (h : t.csh = s.csh) : SameBooks s t := by
  unfold SameBooks; rw [h]

theorem SameLink.refl (s : State) : SameLink s s := rfl

theorem SameLink.trans {s t u : State} (h : SameLink s t) (k : SameLink t u) : SameLink s u := by
  unfold SameLink at h k ⊢
  rw [k, h]

theorem sameLink_of_dlk {s t : State} (h : t.dlk = s.dlk) : SameLink s t := by
  unfold SameLink; rw [h]

/-! ## What grants can change -/

/-- What grants leave, and how they may change the rest (R140). -/
structure GrantsOnly (s t : State) : Prop where
  only : ChangesOnly Block.grants s t
  spd : t.spd = { s.spd with rowOn := t.spd.rowOn, colsOn := t.spd.colsOn, turn := t.spd.turn, sweep := t.spd.sweep }
  clg : t.clg = { s.clg with
    comp := t.clg.comp, runEntered := t.clg.runEntered, contRun := t.clg.contRun, evapFan := t.clg.evapFan
    condFan := t.clg.condFan, contactor := t.clg.contactor, startedAt := t.clg.startedAt }
  vnd : t.vnd = s.vnd ∨ ∃ v, s.vnd.ctx = some v ∧ t.vnd = ⟨some { v with stage := .turn1 }⟩
  chg : t.chg = { s.chg with payout := t.chg.payout, drive := t.chg.drive }
  books : SameBooks s t
  link : SameLink s t
  money : moneyHeld s ≤ 65535 → moneyHeld t = moneyHeld s
  noPayout : s.chg.payout = none → t.chg = s.chg ∧ SameAccount s t

theorem GrantsOnly.refl (s : State) : GrantsOnly s s :=
  ⟨.refl _ s, rfl, rfl, .inl rfl, rfl, rfl, rfl, fun _ => rfl, fun _ => ⟨rfl, rfl⟩⟩

theorem SameAccount.trans {s t u : State} (h : SameAccount s t) (k : SameAccount t u) : SameAccount s u := by
  unfold SameAccount at h k ⊢
  rw [k, h]

theorem GrantsOnly.trans {s t u : State} (h : GrantsOnly s t) (k : GrantsOnly t u) : GrantsOnly s u where
  only := h.only.trans k.only
  spd := by rw [k.spd, h.spd]
  clg := by rw [k.clg, h.clg]
  vnd := by
    obtain kept | ⟨w, ctx, turned⟩ := k.vnd
    · rw [kept]; exact h.vnd
    · obtain same | ⟨v, from_, was⟩ := h.vnd
      · exact .inr ⟨w, same ▸ ctx, turned⟩
      · rw [was] at ctx
        obtain rfl := Option.some.inj ctx
        exact .inr ⟨v, from_, turned⟩
  chg := by rw [k.chg, h.chg]
  books := h.books.trans k.books
  link := h.link.trans k.link
  money range := by
    have first := h.money range
    rw [k.money (by omega), first]
  noPayout none := by
    obtain ⟨chg, account⟩ := h.noPayout none
    obtain ⟨chg', account'⟩ := k.noPayout (chg ▸ none)
    exact ⟨chg'.trans chg, account.trans account'⟩

/-- R95: the end of a payout moves its remainder to the credit. -/
theorem endPayout_money {s : State} (range : moneyHeld s ≤ 65535) : moneyHeld (endPayout s) = moneyHeld s := by
  unfold endPayout endPayoutWith
  split
  · next p payout =>
    have owed : moneyOwed s = if p.source.isService then 0 else p.remainder := by simp only [moneyOwed, payout]
    have held (t : State) (vnd : t.vnd = s.vnd) (none : t.chg.payout = none) : moneyHeld t = t.csh.credit + heldPrice s := by
      rw [moneyHeld, heldPrice_congr vnd, show moneyOwed t = 0 by simp only [moneyOwed, none], Nat.add_zero]
    rw [held _ (by simp only [consumeSlot_frame, settleCash_frame]; split <;> simp)
      (by simp only [consumeSlot_frame, settleCash_frame]; split <;> simp)]
    simp only [consumeSlot_frame, settleCash_csh]
    rw [moneyHeld, owed] at range ⊢
    cases service : p.source.isService with
    | true => simp [withdrawClaim]
    | false =>
      rw [service] at range
      simp only [Bool.false_eq_true, if_false] at range ⊢
      rw [addCredit_credit (by simp [withdrawClaim]; omega)]
      simp only [withdrawClaim]
      omega
  · rfl

theorem consumeSlot_csh_dlk (ev : EventReport) (s : State) : SameBooks s (consumeSlot ev s) ∧ SameLink s (consumeSlot ev s) :=
  ⟨sameBooks_of_csh (by simp), sameLink_of_dlk (by simp)⟩

theorem endPayout_books (s : State) : SameBooks s (endPayout s) := by
  unfold endPayout endPayoutWith
  split
  · refine .trans ?_ (consumeSlot_csh_dlk _ _).1
    refine .trans ?_ (settleCash_sameAccount _ _).books
    split
    · exact sameBooks_of_csh rfl
    · exact .trans (sameBooks_of_csh rfl) (addCredit_books _ _)
  · exact .refl s

theorem endPayout_sameLink (s : State) : SameLink s (endPayout s) := by
  unfold endPayout endPayoutWith
  split
  · refine .trans ?_ (consumeSlot_csh_dlk _ _).2
    refine .trans ?_ (settleCash_sameLink _ _)
    split
    · exact sameLink_of_dlk rfl
    · exact sameLink_of_dlk (by simp)
  · exact .refl s

theorem endPayout_chg (s : State) : (endPayout s).chg = { s.chg with payout := none, drive := (endPayout s).chg.drive } := by
  unfold endPayout endPayoutWith
  split
  · simp only [consumeSlot_frame, settleCash_frame]
    split <;> simp [withdrawClaim]
  · next payout => rw [← payout]

/-- R90: paying takes up from a context that owes what the one before it owed. -/
theorem payFirst_grants {p q : Payout} {s : State} (before : s.chg.payout = some q) (source : p.source = q.source)
    (requested : p.requested = q.requested) (paid : p.paid = q.paid) : GrantsOnly s (payFirst p s) := by
  have owed (r : Payout) (h1 : r.source = q.source) (h2 : r.requested = q.requested) (h3 : r.paid = q.paid) (t : State)
      (at_ : t.chg.payout = some r) : moneyOwed t = moneyOwed s := by
    simp only [moneyOwed, at_, before, Payout.remainder, h1, h2, h3]
  unfold payFirst
  split
  · next tube _ =>
    refine ⟨by constructor <;> simp [driveCoin, Block.grants], rfl, rfl, .inl rfl, rfl, rfl, rfl,
      fun _ => ?_, fun none => nomatch before.symm.trans none⟩
    unfold moneyHeld
    rw [owed { p with tube := tube, pulse := some s.now, window := some s.now, jammed := false } source requested paid _ rfl]
    rfl
  · have start : moneyHeld { s with chg := { s.chg with payout := some p } } = moneyHeld s := by
      unfold moneyHeld
      rw [owed p source requested paid _ rfl]
      rfl
    refine ⟨by constructor <;> simp [Block.grants], by simp, by simp, .inl (by simp), ?_,
      .trans (sameBooks_of_csh rfl) (endPayout_books _), .trans (sameLink_of_dlk rfl) (endPayout_sameLink _),
      fun range => (endPayout_money (by rw [start]; exact range)).trans start, fun none => nomatch before.symm.trans none⟩
    have chg := endPayout_chg { s with chg := { s.chg with payout := some p } }
    rw [chg]

theorem startCompressor_grants (s : State) : GrantsOnly s (startCompressor s) := by
  unfold startCompressor setComp
  dsimp only
  split
  · exact ⟨by constructor <;> simp [Block.grants], rfl, rfl, .inl rfl, rfl, rfl, rfl, fun _ => rfl, fun _ => ⟨rfl, rfl⟩⟩
  · split
    · exact ⟨by constructor <;> simp [Block.grants], rfl, rfl, .inl rfl, rfl, rfl, rfl, fun _ => rfl, fun _ => ⟨rfl, rfl⟩⟩
    · refine ⟨by constructor <;> simp [Block.grants], by simp, by simp [setFans], .inl (by simp), by simp, sameBooks_of_csh (by simp),
        sameLink_of_dlk (by simp), fun _ => moneyHeld_congr (by simp) (by simp) (by simp), fun _ => ⟨by simp, by simp [SameAccount]⟩⟩

theorem withdrawClaim_grants (k : ClaimKind) (s : State) : GrantsOnly s (withdrawClaim k s) :=
  ⟨by constructor <;> simp [withdrawClaim, Block.grants], rfl, rfl, .inl rfl, rfl, rfl, rfl, fun _ => rfl, fun _ => ⟨rfl, rfl⟩⟩

theorem grantVend_grants (n : Nat) (s : State) : GrantsOnly s (grantVend n s) := by
  unfold grantVend
  split
  · next v ctx =>
    refine ⟨by constructor <;> simp [startTurn, Block.grants], rfl, rfl, .inr ⟨v, ctx, rfl⟩, rfl, rfl, rfl, fun _ => ?_,
      fun _ => ⟨rfl, rfl⟩⟩
    unfold moneyHeld
    simp only [startTurn, heldPrice, ctx]
    rfl
  · exact .refl s

theorem energizeCheck_grants (s : State) : GrantsOnly s (energizeCheck s) := by
  unfold energizeCheck
  split
  · exact ⟨by constructor <;> simp [Block.grants], rfl, rfl, .inl rfl, rfl, rfl, rfl, fun _ => rfl, fun _ => ⟨rfl, rfl⟩⟩
  · exact .refl s

theorem beginPaying_grants (s : State) : GrantsOnly s (beginPaying s) := by
  unfold beginPaying
  split
  · next p payout =>
    have unit : GrantsOnly s { s with lds := { s.lds with payoutUnits := 1 } } :=
      ⟨by constructor <;> simp [Block.grants], rfl, rfl, .inl rfl, rfl, rfl, rfl, fun _ => rfl, fun _ => ⟨rfl, rfl⟩⟩
    exact unit.trans (payFirst_grants (q := p) payout rfl rfl rfl)
  · exact .refl s

theorem grantClaim_grants (c : Claim) (s : State) : GrantsOnly s (grantClaim c s) := by
  refine (withdrawClaim_grants c.kind s).trans ?_
  unfold grantClaim
  dsimp only
  split
  · exact grantVend_grants _ _
  · exact beginPaying_grants _
  · exact energizeCheck_grants _
  · exact startCompressor_grants _

theorem evaluateClaims_grants (s : State) : GrantsOnly s (evaluateClaims s) :=
  evaluateClaims_induct (P := GrantsOnly s) (.refl s) fun u c _ before => before.trans (grantClaim_grants c u)

/-! ## Claims of one kind that are not there -/

/-- Grants of other claims leave the compressor. -/
theorem evaluateClaims_clg {s : State} (none : ∀ c ∈ s.lds.claims, c.kind ≠ .compressor) :
    (evaluateClaims s).clg = s.clg ∧ (evaluateClaims s).lds.compUnits = s.lds.compUnits := by
  have kept := evaluateClaims_keep (fun u => (u.clg, u.lds.compUnits)) fun u _ c mem => by
    unfold grantClaim
    dsimp only
    split
    · unfold grantVend; split <;> rfl
    · exact Prod.ext (by simp) (by
        unfold beginPaying payFirst endPayout endPayoutWith
        repeat' split
        all_goals simp [driveCoin])
    · unfold energizeCheck; split <;> rfl
    · exact absurd ‹_› (none c mem)
  exact Prod.mk.inj kept

/-- Grants of other claims leave the vend, the turn it would start and its units. -/
theorem evaluateClaims_vnd {s : State} (none : ∀ c ∈ s.lds.claims, c.kind ≠ .vend) :
    (evaluateClaims s).vnd = s.vnd ∧ (evaluateClaims s).spd.turn = s.spd.turn ∧
      (evaluateClaims s).lds.vendUnits = s.lds.vendUnits := by
  have kept := evaluateClaims_keep (fun u => (u.vnd, u.spd.turn, u.lds.vendUnits)) fun u _ c mem => by
    unfold grantClaim
    dsimp only
    split
    · exact absurd ‹_› (none c mem)
    · refine Prod.ext (by simp) (Prod.ext (by simp) ?_)
      unfold beginPaying payFirst endPayout endPayoutWith
      repeat' split
      all_goals simp [driveCoin]
    · unfold energizeCheck; split <;> rfl
    · unfold startCompressor setComp
      dsimp only
      split
      · rfl
      · split
        · rfl
        · simp [setFans]
  obtain ⟨vnd, rest⟩ := Prod.mk.inj kept
  exact ⟨vnd, Prod.mk.inj rest⟩

end Sys2Proof.Machine
end

section
/-! SUPPORT. The rows that only record a level, drops, the door, the supply monitor and the service request line (R38, R39, R41,
R143, R145, R147 to R149, R173 to R175). -/

namespace Sys2Proof.Machine

/-! ## Levels and drops (R38, R39, R41) -/

theorem dropEscrow_cleared (s : State) : (dropEscrow s).csh.escrow = none ∧
    SameAccount { s with csh := { s.csh with escrow := none } } (dropEscrow s) ∧ ChangesOnly Block.cash s (dropEscrow s) ∧
    SameLink s (dropEscrow s) := by
  unfold dropEscrow
  exact ⟨by simp, settleCash_sameAccount _ _, by constructor <;> simp [Block.cash], (settleCash_sameLink _ _).of_dlk rfl⟩

/-- R41: a drop within 10 s of the last close. -/
theorem lateDrop_counted {s : State} {i close : Nat} (last : s.spd.lateDrop = some (i, close)) (soon : s.now ≤ close + seconds 10) :
    lateDrop s = report (.lateDrop i)
      { s with spd := { s.spd with lateCounts := tset s.spd.lateCounts i (satAdd 255 (tget s.spd.lateCounts 0 i) 1) } } := by
  simp only [lateDrop, last, if_pos soon]

theorem lateDrop_ignored {s : State} {i close : Nat} (last : s.spd.lateDrop = some (i, close)) (late : close + seconds 10 < s.now) :
    lateDrop s = s := by
  simp only [lateDrop, last, if_neg (Nat.not_le.2 late)]

theorem lateDrop_only (s : State) : ChangesOnly [.spd, .rpq] s (lateDrop s) ∧
    (lateDrop s).spd.dropActive = s.spd.dropActive ∧ (lateDrop s).now = s.now := by
  unfold lateDrop
  split
  · split
    · exact ⟨by constructor <;> simp, by simp, by simp⟩
    · exact ⟨.refl _ s, rfl, rfl⟩
  · exact ⟨.refl _ s, rfl, rfl⟩

/-- The state in which a drop of the curtain is taken. -/
def dropTaken (s : State) : State :=
  { s with now := max s.now (s.spd.dropInactiveSince + ms 20), spd := { s.spd with dropActive := true } }

theorem dropTaken_only (s : State) : ChangesOnly [.now, .spd, .rpq] s (dropTaken s) := by
  constructor <;> simp [dropTaken]

theorem execDropEvent_open {s : State} {w : Turn} (inactive : s.spd.dropActive = false) (turn : s.spd.turn = some w) :
    execDropEvent s = .next { dropTaken s with spd := { (dropTaken s).spd with turn := some { w with dropSeen := true } } } := by
  simp only [execDropEvent, State.upTo, inactive, turn, Bool.false_eq_true, if_false]
  rfl

theorem execDropEvent_closed {s : State} (inactive : s.spd.dropActive = false) (turn : s.spd.turn = none) :
    execDropEvent s = .next (lateDrop (dropTaken s)) := by
  simp only [execDropEvent, dropTaken, State.upTo, inactive, turn, Bool.false_eq_true, if_false]

/-- Settles O29: each level and each timed end as its row records it, and a drop by the window that is open, or the last close. -/
theorem levelsAndDropsAreRecorded : Obligations.LevelsAndDropsAreRecorded := by
  refine ⟨fun s => ⟨rfl, rfl, rfl, fun g grace => ?_, fun e escrow => ?_⟩, fun s inactive => ?_⟩
  · change execGraceWindowEnd s = _
    simp only [execGraceWindowEnd, grace]
    rfl
  · obtain ⟨cleared, account, only, link⟩ := dropEscrow_cleared (s.upTo (e.decidedAt + seconds 10))
    have row : execEscrowExpiry s = .next (dropEscrow (s.upTo (e.decidedAt + seconds 10))) := by
      simp only [execEscrowExpiry, escrow]
    have clock : ChangesOnly (.now :: Block.cash) s (s.upTo (e.decidedAt + seconds 10)) := by constructor <;> simp [State.upTo]
    exact ⟨_, row, by simp [dropEscrow, State.upTo], cleared, account, clock.trans (only.mono (List.subset_cons_self _ _)), link⟩
  · cases turn : s.spd.turn with
    | some w =>
      refine ⟨_, execDropEvent_open inactive turn, rfl, rfl, ?_, fun v e => ?_, nofun, nofun⟩
      · exact (dropTaken_only s).trans (by constructor <;> simp)
      · obtain rfl := Option.some.inj e
        exact ⟨rfl, rfl⟩
    | none =>
      obtain ⟨only, active, now⟩ := lateDrop_only (dropTaken s)
      refine ⟨_, execDropEvent_closed inactive turn, now, active, ?_, nofun,
        fun i close _ last soon inTable => ?_, fun i close _ last late => ?_⟩
      · exact (dropTaken_only s).trans (only.mono (List.subset_cons_self _ _))
      · rw [now] at soon
        rw [lateDrop_counted (s := dropTaken s) last soon]
        simp only [report_frame]
        exact ⟨tget_tset_same _ _ _ inTable, report_reported _ _, fun j apart => tget_tset_ne _ _ _ apart⟩
      · rw [now] at late
        rw [lateDrop_ignored (s := dropTaken s) last late]
        exact ⟨rfl, rfl⟩

/-! ## The door (R147, R148) -/

/-- The sweep has ended, and no grant begins one. -/
theorem evaluateClaims_noSweep {s : State} (ended : s.spd.sweep = none) : (evaluateClaims s).spd.sweep = none := by
  refine evaluateClaims_induct (P := fun u => u.spd.sweep = none) ended fun u c _ before => ?_
  by_cases check : c.kind = .coilCheck
  · simp [grantClaim, check, energizeCheck, withdrawClaim, before]
  · rw [grantClaim_sweep u check, before]

theorem stopSweep_sweep (s : State) : (stopSweep s).spd.sweep = none := by
  unfold stopSweep
  dsimp only
  split
  · simp [sweepFinish]
  · assumption

/-- R188: a change of mode stores the mode and keeps the return mode, but for an entry to SERVICE. -/
theorem changeMode_mgt {m : Mode} {s : State} (other : s.mgt.mode ≠ m) :
    (changeMode m s).mgt = { mode := m, returnMode := if m = .service then .online else s.mgt.returnMode } := by
  unfold changeMode
  rw [if_neg other]
  dsimp only
  simp only [modeFollows_frame, evaluateClaims_frame]
  split
  · simp [storeMode]
  · simp [storeMode]

theorem changeMode_grace (m : Mode) (s : State) : (changeMode m s).clg.grace = s.clg.grace := by
  unfold changeMode
  split
  · rfl
  · dsimp only
    simp only [modeFollows_frame]
    rw [(evaluateClaims_grants _).clg]
    split <;> simp

/-- R43: an entry to ONLINE ends a sweep. -/
theorem changeMode_online_sweep {s : State} (other : s.mgt.mode ≠ .online) : (changeMode .online s).spd.sweep = none := by
  unfold changeMode
  rw [if_neg other]
  simp only [if_true, modeFollows_frame]
  exact evaluateClaims_noSweep (stopSweep_sweep _)

theorem doorMovesMode_grace (isOpen : Bool) (s : State) : (doorMovesMode isOpen s).clg.grace = s.clg.grace := by
  unfold doorMovesMode
  split
  · exact changeMode_grace _ s
  · exact changeMode_grace _ s
  · rfl

/-- R148: the other modes take no part in a door change. -/
theorem doorMovesMode_kept {isOpen : Bool} {s : State} (opening : s.mgt.mode ≠ .online ∨ isOpen = false)
    (closing : s.mgt.mode ≠ .service ∨ isOpen = true) : doorMovesMode isOpen s = s := by
  unfold doorMovesMode
  split
  · next mode => exact absurd (opening.resolve_left (not_not.2 mode)) Bool.true_eq_false_eq_False
  · next mode => exact absurd (closing.resolve_left (not_not.2 mode)) Bool.false_ne_true
  · rfl

/-- R147: the change of the door stored, counted and reported. -/
def doorRecorded (isOpen : Bool) (s : State) : State :=
  report .door { s with cmn := { s.cmn with
    doorOpen := isOpen
    openings := if isOpen then satAdd 65535 s.cmn.openings 1 else s.cmn.openings } }

theorem doorTaken_eq (isOpen : Bool) (s : State) :
    doorTaken isOpen s = coolDoor isOpen (doorMovesMode isOpen (doorRecorded isOpen s)) := rfl

/-- Settles O42: the change recorded, the mode by the door, and the grace window and the fans by both. -/
theorem doorChangesMoveTheMode : Obligations.DoorChangesMoveTheMode := by
  intro isOpen s changed
  refine ⟨doorTaken isOpen s, if_neg changed, ?_⟩
  rw [doorTaken_eq]
  have retains := doorMovesMode_retains isOpen (doorRecorded isOpen s)
  have grace : (doorMovesMode isOpen (doorRecorded isOpen s)).clg.grace = s.clg.grace := by
    rw [doorMovesMode_grace]; simp [doorRecorded]
  refine ⟨?_, ?_, ?_, ?_, fun online opens => ?_, fun service closes => ?_, fun opening closing => ?_, fun opens => ?_,
    fun closes g open_ before => ?_, fun opens => ?_⟩
  · simp [coolDoor, setFans, doorRecorded, satAdd]
  · exact retains.reported (report_reported _ _)
  · simp [coolDoor, setFans, doorRecorded]
  · simp [coolDoor, setFans, doorRecorded]
  · subst opens
    have mode : (doorRecorded true s).mgt.mode = .online := by simpa [doorRecorded] using online
    have moved : doorMovesMode true (doorRecorded true s) = changeMode .service (doorRecorded true s) := by
      simp only [doorMovesMode, mode]
    rw [moved]
    exact changeMode_mgt (by rw [mode]; nofun)
  · subst closes
    have mode : (doorRecorded false s).mgt.mode = .service := by simpa [doorRecorded] using service
    have moved : doorMovesMode false (doorRecorded false s) = changeMode .online (doorRecorded false s) := by
      simp only [doorMovesMode, mode]
    rw [moved]
    have other : (doorRecorded false s).mgt.mode ≠ .online := by rw [mode]; nofun
    refine ⟨(changeMode_mgt other).trans ?_, changeMode_online_sweep other⟩
    simp [doorRecorded]
  · have kept : doorMovesMode isOpen (doorRecorded isOpen s) = doorRecorded isOpen s :=
      doorMovesMode_kept (by simpa [doorRecorded] using opening) (by simpa [doorRecorded] using closing)
    rw [kept]
    exact ⟨by simp [coolDoor, setFans, doorRecorded], by constructor <;> simp [coolDoor, setFans, doorRecorded],
      by simp [coolDoor, setFans, doorRecorded]⟩
  · subst opens
    simp only [coolDoor, setFans, if_true, graceOpens, grace, doorMovesMode_frame]
    cases window : s.clg.grace with
    | none => simp only [doorRecorded, report_frame]
    | some g => simp only [doorRecorded, report_frame]
  · subst closes
    simp only [coolDoor, setFans, Bool.false_eq_true, if_false, graceCloses, grace, open_, doorMovesMode_frame, Option.map_some]
    simp only [doorRecorded, report_frame, if_pos before]
  · subst opens
    simp [coolDoor, setFans, doorRecorded]

/-! ## The supply monitor (R143, R145) -/

/-- A vend that waits for its load holds its claim, or has been granted it. -/
def WaitsOrTurns (v : VendCtx) (s : State) : Prop :=
  (s.vnd.ctx = some v ∧ ∃ c ∈ s.lds.claims, c.kind = .vend) ∨ s.vnd.ctx = some { v with stage := .turn1 }

theorem grantClaim_waitsOrTurns {v : VendCtx} (c : Claim) {s : State} (h : WaitsOrTurns v s) :
    WaitsOrTurns v (grantClaim c s) := by
  by_cases vend : c.kind = .vend
  · obtain ⟨ctx, -⟩ | turned := h
    · exact .inr (by simp [grantClaim, vend, grantVend, withdrawClaim, ctx, startTurn])
    · exact .inr (by simp [grantClaim, vend, grantVend, withdrawClaim, turned, startTurn])
  · have kept : (grantClaim c s).vnd = s.vnd := by
      simp only [grantClaim]
      split
      · exact absurd ‹_› vend
      · simp
      · simp
      · simp
    unfold WaitsOrTurns
    rw [kept, grantClaim_claims]
    refine h.imp (fun ⟨ctx, d, mem, kind⟩ => ⟨ctx, d, List.mem_filter.2 ⟨mem, ?_⟩, kind⟩) id
    simpa [kind] using Ne.symm vend

theorem fileClaim_vendClaim (k : ClaimKind) (n : Nat) {s : State} (h : ∃ c ∈ s.lds.claims, c.kind = .vend) :
    ∃ c ∈ (fileClaim k n s).lds.claims, c.kind = .vend := by
  obtain ⟨c, mem, kind⟩ := h
  by_cases vend : k = .vend
  · exact ⟨⟨k, n, s.now, false⟩, by simp [fileClaim], vend⟩
  · exact ⟨c, by simp [fileClaim, mem, kind, Ne.symm vend], kind⟩

theorem withdrawClaim_vendClaim {k : ClaimKind} (other : k ≠ .vend) {s : State} (h : ∃ c ∈ s.lds.claims, c.kind = .vend) :
    ∃ c ∈ (withdrawClaim k s).lds.claims, c.kind = .vend := by
  obtain ⟨c, mem, kind⟩ := h
  exact ⟨c, by simp [withdrawClaim, mem, kind, other.symm], kind⟩

theorem idleLook_vendClaim {s : State} (h : ∃ c ∈ s.lds.claims, c.kind = .vend) :
    ∃ c ∈ (idleLook s).lds.claims, c.kind = .vend := by
  unfold idleLook
  split
  · split
    · exact fileClaim_vendClaim _ _ (by simpa using h)
    · split
      · exact fileClaim_vendClaim _ _ (by simpa using h)
      · exact h
  · exact h

theorem endCheck_vendClaim {s : State} (h : ∃ c ∈ s.lds.claims, c.kind = .vend) :
    ∃ c ∈ (endCheck s).lds.claims, c.kind = .vend := by
  unfold endCheck
  split
  · dsimp only
    split
    · exact h
    · exact withdrawClaim_vendClaim (k := .coilCheck) nofun h
    · exact h
  · exact h

theorem stopSweep_vendClaim {s : State} (h : ∃ c ∈ s.lds.claims, c.kind = .vend) :
    ∃ c ∈ (stopSweep s).lds.claims, c.kind = .vend := by
  have ended := endCheck_vendClaim h
  unfold stopSweep
  dsimp only
  split
  · simpa [sweepFinish] using ended
  · exact ended

theorem sweepLook_vendClaim (n : Nat) {s : State} (h : ∃ c ∈ s.lds.claims, c.kind = .vend) :
    ∃ c ∈ (sweepLook n s).lds.claims, c.kind = .vend := by
  induction n generalizing s with
  | zero => exact h
  | succ n ih =>
    simp only [sweepLook]
    split
    · exact h
    · split
      · exact h
      · split
        · split
          · simpa [sweepFinish] using h
          · exact ih h
        · exact fileClaim_vendClaim _ _ h

theorem resumeSweep_vendClaim {s : State} (h : ∃ c ∈ s.lds.claims, c.kind = .vend) :
    ∃ c ∈ (resumeSweep s).lds.claims, c.kind = .vend := by
  unfold resumeSweep
  split
  · split
    · exact sweepLook_vendClaim _ h
    · exact h
  · exact h

/-- R22, R145: at the end of SAFE a vend in LOAD_WAIT files its claim again, and may be granted it. -/
theorem leaveSafe_waitsOrTurns {v : VendCtx} {s : State} (ctx : s.vnd.ctx = some v) (waits : v.stage = .loadWait) :
    WaitsOrTurns v (leaveSafe s) := by
  have filed : ∃ c ∈ (refileVend (storeMode (modeAfterSafe s) s)).lds.claims, c.kind = .vend := by
    have ctx' : (storeMode (modeAfterSafe s) s).vnd.ctx = some v := ctx
    rw [refileVend, ctx']
    simp [waits, fileClaim]
  have looked := idleLook_vendClaim filed
  unfold leaveSafe
  dsimp only
  refine evaluateClaims_induct (P := WaitsOrTurns v) (.inl ?_) fun u c _ before => grantClaim_waitsOrTurns c before
  simp only [modeFollows_frame]
  split
  · exact ⟨by simpa using ctx, stopSweep_vendClaim looked⟩
  · exact ⟨by simpa using ctx, resumeSweep_vendClaim looked⟩

theorem leaveSafe_mode (s : State) : (leaveSafe s).mgt.mode = modeAfterSafe s := by
  unfold leaveSafe
  dsimp only
  simp only [evaluateClaims_frame, modeFollows_frame]
  split
  · simp [storeMode]
  · simp [storeMode]

theorem modeAfterSafe_eq (s : State) :
    modeAfterSafe s = if s.mgt.returnMode = .setup then .setup else if s.cmn.doorOpen then .service else .online := by
  unfold modeAfterSafe
  cases s.mgt.returnMode <;> cases s.cmn.doorOpen <;> rfl

theorem leaveSafe_sweep {s : State} (online : modeAfterSafe s = .online) : (leaveSafe s).spd.sweep = none := by
  unfold leaveSafe
  simp only [if_pos online]
  refine evaluateClaims_noSweep ?_
  simp only [modeFollows_frame]
  exact stopSweep_sweep _

theorem leaveSafe_crd {s : State} (safe : s.mgt.mode = .safe) : (leaveSafe s).crd = s.crd := by
  have notOnline : ¬(s.mgt.mode = .online ∧ ¬modeAfterSafe s = .online) := by rw [safe]; nofun
  unfold leaveSafe modeFollows
  simp only [evaluateClaims_frame]
  rw [if_neg (by rw [safe]; exact fun h => nomatch h.1)]
  split <;> simp

/-- R143: the sample that makes the supply GOOD. -/
def supplyRestored (volts : Nat) (s : State) : State :=
  report .supply { supplySampled volts (s.upTo s.cmn.nextSupply) with
    cmn := { (supplySampled volts (s.upTo s.cmn.nextSupply)).cmn with supplyLow := false } }

/-- Settles O43: a sample that completes no run, and the one that ends SAFE. -/
theorem supplySamplesAndTheEndOfSafe : Obligations.SupplySamplesAndTheEndOfSafe := by
  refine ⟨fun volts s noLow noGood => ?_, fun volts s low high run safe => ?_⟩
  · have incomplete : ¬(completesLow volts s = true ∨ completesGood volts s = true) := by
      rw [completesLow, completesGood]
      simp only [Bool.and_eq_true, Bool.not_eq_true', decide_eq_true_eq, not_or, not_and]
      refine ⟨fun h => ?_, fun h => ?_⟩
      · simp only [h.1, Bool.false_eq_true, false_or] at noLow
        omega
      · simp only [h.1, Bool.true_eq_false, false_or] at noGood
        omega
    exact ⟨_, if_neg incomplete, rfl, by constructor <;> simp [supplySampled, State.upTo], rfl⟩
  · have completes : completesGood volts s = true := by
      rw [completesGood, low]
      simp [high, run]
    have notLow : ¬volts < 190 := by omega
    refine ⟨leaveSafe (supplyRestored volts s), if_pos completes, ?_⟩
    refine ⟨by simp [supplyRestored, supplySampled, State.upTo],
      by simp [supplyRestored, supplySampled, State.upTo, high, notLow], ?_, ?_, fun online => ?_, fun v ctx waits => ?_,
      by simp [supplyRestored, State.upTo], by simp [supplyRestored, State.upTo], ?_⟩
    · rw [leaveSafe_mode, modeAfterSafe_eq]
      simp [supplyRestored, supplySampled, State.upTo]
    · exact (leaveSafe_retains _).reported (report_reported _ _)
    · rw [leaveSafe_mode] at online
      exact leaveSafe_sweep online
    · have ctx' : (supplyRestored volts s).vnd.ctx = some v := by simpa [supplyRestored, State.upTo] using ctx
      obtain ⟨same, claim⟩ | turned := leaveSafe_waitsOrTurns ctx' waits
      · exact ⟨v, same, rfl, .inl ⟨waits, claim⟩⟩
      · exact ⟨_, turned, rfl, .inr rfl⟩
    · rw [leaveSafe_crd (by simpa [supplyRestored, State.upTo] using safe)]
      simp [supplyRestored, State.upTo]

/-! ## The service request line (R149, R173 to R175) -/

theorem routeOf_segmentReturns (s : State) {i : Nat} (h : i < 8) :
    routeOf (segmentReturns s) i = { routeOf s i with missed := 0 } :=
  tget_tmap_lt (fun r : Route => ({ r with missed := 0 } : Route)) s.dlk.routes Route.powerOn Route.powerOn h

theorem pollOf_segmentReturns {s : State} {i : Nat} (h : i < 8) (used : (routeOf s i).inUse = true) :
    (pollOf (segmentReturns s) i).due = true ∧ (pollOf (segmentReturns s) i).deferred = false := by
  have slot : pollOf (segmentReturns s) i = { pollOf s i with due := true, deferred := false } := by
    unfold segmentReturns pollOf
    rw [tget_tmk _ _ h]
    exact if_pos used
  rw [slot]
  exact ⟨rfl, rfl⟩

theorem pollOf_releasedTo (s : State) (i : Nat) : pollOf { s with dlk := s.dlk.releasedTo } i =
    { pollOf s i with due := false, deferred := false } :=
  tget_tmap (fun p : PollSlot => ({ p with due := false, deferred := false } : PollSlot)) s.dlk.polls ⟨0, false, false⟩ i

/-- R173: outside ONLINE a request pends while something is in flight. -/
theorem requestActive_busy {s : State} (owned : s.dlk.seg = .owned) (mode : s.mgt.mode ≠ .online)
    (busy : s.dlk.exchange.isSome ∨ s.dlk.sending.isSome) :
    requestActive s = { s with dlk := { s.dlk with seg := .releasePending, requestWaiting := false } } := by
  have flying : ¬(SegState.releasePending = .releasePending ∧ s.dlk.exchange = none ∧ s.dlk.sending = none) := by
    rintro ⟨-, none, none'⟩
    simp [none, none'] at busy
  rw [requestActive, if_pos owned, if_neg mode, pendRelease, tryRelease, if_neg flying]

/-- Settles O55: the request by its level, the segment's state and the mode. -/
theorem theServiceToolGetsTheSegment : Obligations.TheServiceToolGetsTheSegment := by
  intro active s changed
  cases active with
  | true =>
    let s1 : State := { s with cmn := { s.cmn with srqActive := true } }
    refine ⟨requestActive s1, if_neg changed, by simp [s1], by constructor <;> simp [s1], fun _ owned online => ?_,
      fun _ owned offline => ⟨?_, fun exchange sending => ?_, fun busy => ?_⟩, fun _ other => ?_, nofun, nofun, nofun⟩
    · rw [requestActive, if_pos owned, if_pos online]
    · rw [requestActive, if_pos owned, if_neg offline, pendRelease, tryRelease]
      split <;> rfl
    · rw [requestActive_idle (s := s1) owned offline exchange sending]
      refine ⟨rfl, rfl, rfl, fun i => ?_⟩
      rw [pollOf_releasedTo]
      exact ⟨rfl, rfl⟩
    · rw [requestActive_busy (s := s1) owned offline busy]
      exact ⟨rfl, rfl⟩
    · rw [requestActive, if_neg other]
  | false =>
    let s1 : State := { s with cmn := { s.cmn with srqActive := false } }
    refine ⟨requestInactive s1, if_neg changed, by simp [s1], by constructor <;> simp [s1], nofun, nofun, nofun,
      fun _ owned => ?_, fun _ pending => ?_, fun _ released => ?_⟩
    · simp only [requestInactive, s1, owned]
    · simp only [requestInactive, s1, pending]
    · have returns : requestInactive s1 = segmentReturns s1 := by simp only [requestInactive, s1, released]
      rw [returns]
      exact ⟨rfl, rfl, fun i h => ⟨routeOf_segmentReturns s1 h, fun used => pollOf_segmentReturns (s := s1) h used⟩⟩

end Sys2Proof.Machine
end

section
/-! SUPPORT. The payout planner's search (R83 to R85): the plans that fit an amount and a cap, the order among them, and the
best of a list of candidates. -/

namespace Sys2Proof.Machine

/-- A plan that the planner may choose: within the availability and the cap, and not above the amount. -/
structure FitsPlan (ts : List PlanTube) (amount cap : Nat) (ks : List Nat) : Prop where
  length : ks.length = ts.length
  avail : ∀ p ∈ ts.zip ks, p.2 ≤ p.1.avail
  cap : ks.sum ≤ cap
  sum : planSum ts ks ≤ amount

/-- The plan `b` is no better than `a`: the sum, then the coins, then the counts in planner order decide. -/
def NoBetter (ts : List PlanTube) (b a : List Nat) : Prop :=
  planSum ts b ≤ planSum ts a ∧ (planSum ts b = planSum ts a → a.sum ≤ b.sum ∧ (b.sum = a.sum → b ≤ a))

theorem NoBetter.refl (ts : List PlanTube) (a : List Nat) : NoBetter ts a a :=
  ⟨le_refl _, fun _ => ⟨le_refl _, fun _ => le_refl _⟩⟩

theorem NoBetter.trans {ts : List PlanTube} {c b a : List Nat} (h : NoBetter ts c b) (h' : NoBetter ts b a) :
    NoBetter ts c a := by
  obtain ⟨sum, tie⟩ := h
  obtain ⟨sum', tie'⟩ := h'
  refine ⟨sum.trans sum', fun same => ?_⟩
  obtain ⟨coins, order⟩ := tie (by omega)
  obtain ⟨coins', order'⟩ := tie' (by omega)
  exact ⟨by omega, fun even => (order (by omega)).trans (order' (by omega))⟩

theorem planSum_cons (t : PlanTube) (ts : List PlanTube) (k : Nat) (ks : List Nat) :
    planSum (t :: ts) (k :: ks) = k * t.denom + planSum ts ks := by
  simp [planSum]

/-- The same count for the first tube leaves the order of the rest. -/
theorem NoBetter.cons {ts : List PlanTube} {b a : List Nat} (t : PlanTube) (k : Nat) (h : NoBetter ts b a) :
    NoBetter (t :: ts) (k :: b) (k :: a) := by
  obtain ⟨sum, tie⟩ := h
  refine ⟨by simp only [planSum_cons]; omega, fun same => ?_⟩
  obtain ⟨coins, order⟩ := tie (by simp only [planSum_cons] at same; omega)
  refine ⟨by simp only [List.sum_cons]; omega, fun even => ?_⟩
  exact List.cons_le_cons k (order (by simp only [List.sum_cons] at even; omega))

theorem betterPlan_mem (ts : List PlanTube) (a b : List Nat) : betterPlan ts a b = a ∨ betterPlan ts a b = b := by
  unfold betterPlan
  split
  · exact .inr rfl
  · exact .inl rfl

/-- Of two plans of which the first has the greater counts, the better one is no worse than either. -/
theorem noBetter_betterPlan {ts : List PlanTube} {a b : List Nat} (order : b ≤ a) :
    NoBetter ts a (betterPlan ts a b) ∧ NoBetter ts b (betterPlan ts a b) := by
  unfold betterPlan planCoins
  split
  case isTrue wins =>
    refine ⟨⟨by omega, fun same => ⟨by omega, fun even => ?_⟩⟩, .refl ts b⟩
    omega
  case isFalse keeps =>
    exact ⟨.refl ts a, by omega, fun same => ⟨by omega, fun _ => order⟩⟩

theorem bestOf_cons (ts : List PlanTube) (first next : List Nat) (rest : List (List Nat)) :
    bestOf ts first (next :: rest) = bestOf ts (betterPlan ts first next) rest := rfl

theorem bestOf_mem (ts : List PlanTube) (first : List Nat) (rest : List (List Nat)) :
    bestOf ts first rest ∈ first :: rest := by
  induction rest generalizing first with
  | nil => exact List.mem_cons_self
  | cons next rest ih =>
    rw [bestOf_cons]
    obtain keep | take := betterPlan_mem ts first next
    · rw [keep]
      have held := ih first
      rw [List.mem_cons] at held
      exact List.mem_cons.mpr (held.imp_right (List.mem_cons_of_mem next))
    · rw [take]
      exact List.mem_cons_of_mem first (ih next)

/-- Of candidates that stand from the greatest counts down, none is better than the best. -/
theorem noBetter_bestOf (ts : List PlanTube) (first : List Nat) (rest : List (List Nat))
    (sorted : (first :: rest).Pairwise fun a b => b ≤ a) :
    ∀ ks ∈ first :: rest, NoBetter ts ks (bestOf ts first rest) := by
  induction rest generalizing first with
  | nil =>
    intro ks mem
    rw [List.mem_singleton.mp mem]
    exact .refl ts first
  | cons next rest ih =>
    obtain ⟨below, nextBelow, restSorted⟩ : (∀ ks ∈ next :: rest, ks ≤ first) ∧ (∀ ks ∈ rest, ks ≤ next) ∧
        rest.Pairwise fun a b => b ≤ a := by simpa using sorted
    have champion : ∀ ks ∈ betterPlan ts first next :: rest,
        NoBetter ts ks (bestOf ts (betterPlan ts first next) rest) := by
      refine ih _ (List.pairwise_cons.mpr ⟨fun ks mem => ?_, restSorted⟩)
      obtain keep | take := betterPlan_mem ts first next
      · rw [keep]
        exact below ks (List.mem_cons_of_mem next mem)
      · rw [take]
        exact nextBelow ks mem
    obtain ⟨overFirst, overNext⟩ := noBetter_betterPlan (ts := ts) (below next List.mem_cons_self)
    have top := champion _ List.mem_cons_self
    rw [bestOf_cons]
    intro ks mem
    rw [List.mem_cons, List.mem_cons] at mem
    obtain rfl | rfl | late := mem
    · exact overFirst.trans top
    · exact overNext.trans top
    · exact champion ks (List.mem_cons_of_mem _ late)

theorem le_maxCoins_iff {t : PlanTube} (pos : 0 < t.denom) {amount cap k : Nat} :
    k ≤ maxCoins t amount cap ↔ k ≤ t.avail ∧ k * t.denom ≤ amount ∧ k ≤ cap := by
  simp only [maxCoins, le_min_iff, Nat.le_div_iff_mul_le pos]

/-- A plan fits when its first count fits and its rest fits what that count leaves. -/
theorem fitsPlan_cons_iff {t : PlanTube} {ts : List PlanTube} (pos : 0 < t.denom) {amount cap k : Nat} {ks : List Nat} :
    FitsPlan (t :: ts) amount cap (k :: ks) ↔
      k ≤ maxCoins t amount cap ∧ FitsPlan ts (amount - k * t.denom) (cap - k) ks := by
  rw [le_maxCoins_iff pos]
  constructor
  · rintro ⟨length, avail, within, sum⟩
    rw [planSum_cons] at sum
    rw [List.sum_cons] at within
    rw [List.zip_cons_cons, List.forall_mem_cons] at avail
    exact ⟨⟨avail.1, by omega, by omega⟩, by simpa using length, avail.2, by omega, by omega⟩
  · rintro ⟨⟨avail, amountLeft, capLeft⟩, length, rest, within, sum⟩
    refine ⟨by simpa using length, ?_, by rw [List.sum_cons]; omega, by rw [planSum_cons]; omega⟩
    rw [List.zip_cons_cons, List.forall_mem_cons]
    exact ⟨avail, rest⟩

theorem fitsPlan_nil_iff {amount cap : Nat} {ks : List Nat} : FitsPlan [] amount cap ks ↔ ks = [] := by
  constructor
  · rintro ⟨length, -⟩
    exact List.eq_nil_of_length_eq_zero length
  · rintro rfl
    exact ⟨rfl, by simp, by simp, by simp [planSum]⟩

/-- The planner's candidate with a given count for the first tube: the best plan of what that count leaves. -/
def planCandidate (t : PlanTube) (ts : List PlanTube) (amount cap k : Nat) : List Nat :=
  k :: bestPlan ts (amount - k * t.denom) (cap - k)

theorem bestPlan_cons (t : PlanTube) (ts : List PlanTube) (amount cap : Nat) :
    bestPlan (t :: ts) amount cap = bestOf (t :: ts) (planCandidate t ts amount cap (maxCoins t amount cap))
      ((List.range (maxCoins t amount cap)).reverse.map (planCandidate t ts amount cap)) := rfl

theorem mem_planCandidates_iff (t : PlanTube) (ts : List PlanTube) (amount cap m : Nat) (ks : List Nat) :
    ks ∈ planCandidate t ts amount cap m :: (List.range m).reverse.map (planCandidate t ts amount cap) ↔
      ∃ k ≤ m, planCandidate t ts amount cap k = ks := by
  simp only [List.mem_cons, List.mem_map, List.mem_reverse, List.mem_range]
  constructor
  · rintro (rfl | ⟨k, less, rfl⟩)
    · exact ⟨m, le_refl m, rfl⟩
    · exact ⟨k, less.le, rfl⟩
  · rintro ⟨k, most, rfl⟩
    obtain less | rfl := most.lt_or_eq
    · exact .inr ⟨k, less, rfl⟩
    · exact .inl rfl

theorem planCandidate_lt (t : PlanTube) (ts : List PlanTube) (amount cap : Nat) {j k : Nat} (less : j < k) :
    planCandidate t ts amount cap j ≤ planCandidate t ts amount cap k :=
  le_of_lt (List.Lex.rel less)

/-- The candidates stand from the most coins of the first tube down. -/
theorem planCandidates_sorted (t : PlanTube) (ts : List PlanTube) (amount cap m : Nat) :
    (planCandidate t ts amount cap m :: (List.range m).reverse.map (planCandidate t ts amount cap)).Pairwise
      fun a b => b ≤ a := by
  rw [List.pairwise_cons]
  constructor
  · intro ks mem
    obtain ⟨k, less, rfl⟩ := List.mem_map.mp mem
    exact planCandidate_lt t ts amount cap (by simpa using less)
  · rw [List.pairwise_map, List.pairwise_reverse]
    exact List.pairwise_lt_range.imp (planCandidate_lt t ts amount cap)

theorem bestPlan_fits_best (ts : List PlanTube) (amount cap : Nat) (pos : ∀ u ∈ ts, 0 < u.denom) :
    FitsPlan ts amount cap (bestPlan ts amount cap) ∧
      ∀ ks, FitsPlan ts amount cap ks → NoBetter ts ks (bestPlan ts amount cap) := by
  induction ts generalizing amount cap with
  | nil => exact ⟨fitsPlan_nil_iff.mpr rfl, fun ks fits => by rw [fitsPlan_nil_iff.mp fits]; exact .refl [] []⟩
  | cons t ts ih =>
    have posFirst : 0 < t.denom := pos t List.mem_cons_self
    have posRest : ∀ u ∈ ts, 0 < u.denom := fun u mem => pos u (List.mem_cons_of_mem t mem)
    rw [bestPlan_cons]
    set m := maxCoins t amount cap with most
    constructor
    · obtain ⟨k, le, same⟩ := (mem_planCandidates_iff t ts amount cap m _).mp (bestOf_mem (t :: ts) _ _)
      rw [← same]
      exact (fitsPlan_cons_iff posFirst).mpr ⟨le, (ih (amount - k * t.denom) (cap - k) posRest).1⟩
    · intro ks fits
      obtain _ | ⟨k, ks⟩ := ks
      · exact absurd fits.length (by simp)
      obtain ⟨le, rest⟩ := (fitsPlan_cons_iff posFirst).mp fits
      have tail := ((ih (amount - k * t.denom) (cap - k) posRest).2 ks rest).cons t k
      exact tail.trans (noBetter_bestOf (t :: ts) _ _ (planCandidates_sorted t ts amount cap m) _
        ((mem_planCandidates_iff t ts amount cap m _).mpr ⟨k, le, rfl⟩))

end Sys2Proof.Machine
end

section
/-! PROOF. The planner (section 4.3). -/

namespace Sys2Proof.Machine

/-- Settles O38: by induction on the tubes, each candidate of the first tube being the best of what it leaves. -/
theorem thePlanIsTheBest : Obligations.ThePlanIsTheBest := by
  intro ts amount cap pos
  obtain ⟨⟨length, avail, within, sum⟩, best⟩ := bestPlan_fits_best ts amount cap pos
  exact ⟨⟨length, avail, within, sum⟩, fun ks ⟨length', avail', within', sum'⟩ => best ks ⟨length', avail', within', sum'⟩⟩

end Sys2Proof.Machine
end

section
/-! SUPPORT. What change-safety asks of the planner (R83, R84): an exact plan, over the used tubes in planner order. -/

namespace Sys2Proof.Machine

theorem planSum_le_planReach (ts : List PlanTube) (ks : List Nat) (avail : ∀ p ∈ ts.zip ks, p.2 ≤ p.1.avail) :
    planSum ts ks ≤ planReach ts := by
  induction ts generalizing ks with
  | nil => simp [planSum]
  | cons t ts ih =>
    cases ks with
    | nil => simp [planSum]
    | cons k ks =>
      rw [List.zip_cons_cons, List.forall_mem_cons] at avail
      obtain ⟨first, rest⟩ := avail
      have within : k * t.denom ≤ t.avail * t.denom := Nat.mul_le_mul_right t.denom first
      have tail : planSum ts ks ≤ planReach ts := ih ks rest
      have reach : planReach (t :: ts) = t.avail * t.denom + planReach ts := by simp [planReach]
      rw [planSum_cons, reach]
      omega

theorem canPay_cons_iff (t : PlanTube) (ts : List PlanTube) (amount cap : Nat) :
    canPay (t :: ts) amount cap = true ↔
      amount ≤ planReach (t :: ts) ∧
        ∃ k ≤ maxCoins t amount cap, canPay ts (amount - k * t.denom) (cap - k) = true := by
  simp [canPay]

/-- By induction on the tubes: the count of the first tube leaves the rest an amount and a cap of its own. -/
theorem canPay_iff_fitsPlan (ts : List PlanTube) (amount cap : Nat) (pos : ∀ u ∈ ts, 0 < u.denom) :
    canPay ts amount cap = true ↔ ∃ ks, FitsPlan ts amount cap ks ∧ planSum ts ks = amount := by
  induction ts generalizing amount cap with
  | nil =>
    simp only [canPay, fitsPlan_nil_iff, exists_eq_left, beq_iff_eq]
    exact eq_comm
  | cons t ts ih =>
    have posFirst : 0 < t.denom := pos t List.mem_cons_self
    have rest (k : Nat) := ih (amount - k * t.denom) (cap - k) fun u mem => pos u (List.mem_cons_of_mem t mem)
    rw [canPay_cons_iff]
    constructor
    · rintro ⟨-, k, most, pays⟩
      obtain ⟨ks, fits, exact⟩ := (rest k).mp pays
      have room : k * t.denom ≤ amount := ((le_maxCoins_iff posFirst).mp most).2.1
      exact ⟨k :: ks, (fitsPlan_cons_iff posFirst).mpr ⟨most, fits⟩, by rw [planSum_cons]; omega⟩
    · rintro ⟨ks, fits, exact⟩
      obtain _ | ⟨k, ks⟩ := ks
      · exact absurd fits.length (by simp)
      refine ⟨exact ▸ planSum_le_planReach _ _ fits.avail, ?_⟩
      obtain ⟨most, tail⟩ := (fitsPlan_cons_iff posFirst).mp fits
      rw [planSum_cons] at exact
      exact ⟨k, most, (rest k).mpr ⟨ks, tail, by omega⟩⟩

/-! ## The used tubes in planner order (R83) -/

/-- Planner order: the higher denomination first, equal ones by ascending tube number. -/
def PlanTube.Precedes (a b : PlanTube) : Prop := b.denom < a.denom ∨ (a.denom = b.denom ∧ a.tube < b.tube)

theorem PlanTube.Precedes.trans {a b c : PlanTube} (h : a.Precedes b) (h' : b.Precedes c) : a.Precedes c := by
  unfold PlanTube.Precedes at *
  omega

theorem before_iff {a b : PlanTube} (apart : a.tube ≠ b.tube) : a.before b = true ↔ a.Precedes b := by
  simp only [PlanTube.before, PlanTube.Precedes, Bool.or_eq_true, decide_eq_true_eq, Bool.and_eq_true, beq_iff_eq]
  omega

theorem not_before_iff {a b : PlanTube} (apart : a.tube ≠ b.tube) : ¬(a.before b = true) ↔ b.Precedes a := by
  rw [before_iff apart]
  unfold PlanTube.Precedes
  omega

theorem mem_insertTube (t u : PlanTube) (ts : List PlanTube) : u ∈ insertTube t ts ↔ u = t ∨ u ∈ ts := by
  induction ts with
  | nil => simp [insertTube]
  | cons x ts ih =>
    unfold insertTube
    split
    · exact List.mem_cons
    · rw [List.mem_cons, ih, List.mem_cons]
      exact or_left_comm

theorem insertTube_sorted (t : PlanTube) (ts : List PlanTube) (sorted : ts.Pairwise PlanTube.Precedes)
    (apart : ∀ u ∈ ts, t.tube ≠ u.tube) : (insertTube t ts).Pairwise PlanTube.Precedes := by
  induction ts with
  | nil => simp [insertTube]
  | cons x ts ih =>
    obtain ⟨below, tail⟩ := List.pairwise_cons.mp sorted
    have apartFirst : t.tube ≠ x.tube := apart x List.mem_cons_self
    unfold insertTube
    split
    case isTrue front =>
      have leads : t.Precedes x := (before_iff apartFirst).mp front
      refine List.pairwise_cons.mpr ⟨fun u mem => ?_, sorted⟩
      obtain rfl | late := List.mem_cons.mp mem
      · exact leads
      · exact leads.trans (below u late)
    case isFalse behind =>
      have leads : x.Precedes t := (not_before_iff apartFirst).mp behind
      refine List.pairwise_cons.mpr ⟨fun u mem => ?_, ih tail fun u mem => apart u (List.mem_cons_of_mem x mem)⟩
      obtain rfl | late := (mem_insertTube t u ts).mp mem
      · exact leads
      · exact below u late

theorem mem_insertTubes (u : PlanTube) (ts : List PlanTube) : u ∈ ts.foldr insertTube [] ↔ u ∈ ts := by
  induction ts with
  | nil => simp
  | cons t ts ih => rw [List.foldr_cons, mem_insertTube, ih, List.mem_cons]

theorem insertTubes_sorted (ts : List PlanTube) (apart : ts.Pairwise fun a b => a.tube ≠ b.tube) :
    (ts.foldr insertTube []).Pairwise PlanTube.Precedes := by
  induction ts with
  | nil => simp
  | cons t ts ih =>
    obtain ⟨first, rest⟩ := List.pairwise_cons.mp apart
    exact insertTube_sorted t _ (ih rest) fun u mem => first u ((mem_insertTubes u ts).mp mem)

/-- A tube as the planner sees it, where it is in use. -/
def planTube (service : Bool) (p : Tube × Nat) : Option PlanTube :=
  if p.1.denom = 0 then none else some ⟨p.2, p.1.denom, availability service p.1⟩

theorem planTube_eq_some_iff (service : Bool) (p : Tube × Nat) (u : PlanTube) :
    planTube service p = some u ↔ 0 < p.1.denom ∧ u = ⟨p.2, p.1.denom, availability service p.1⟩ := by
  unfold planTube
  split
  case isTrue unused => simp [unused]
  case isFalse used => simp [Nat.pos_of_ne_zero used, eq_comm]

theorem planTubes_eq (service : Bool) (tubes : Vector Tube 6) :
    planTubes service tubes = (tubes.toList.zipIdx.filterMap (planTube service)).foldr insertTube [] := rfl

theorem planTubes_sorted (service : Bool) (tubes : Vector Tube 6) :
    (planTubes service tubes).Pairwise PlanTube.Precedes := by
  rw [planTubes_eq]
  refine insertTubes_sorted _ ?_
  rw [List.pairwise_filterMap]
  have numbered : tubes.toList.zipIdx.Pairwise fun p q => p.2 ≠ q.2 := by
    rw [← List.pairwise_map (f := Prod.snd) (R := (· ≠ ·)), List.zipIdx_map_snd]
    exact List.nodup_range'
  refine numbered.imp fun {p q} differ a ha b hb => ?_
  obtain ⟨-, rfl⟩ := (planTube_eq_some_iff service p a).mp ha
  obtain ⟨-, rfl⟩ := (planTube_eq_some_iff service q b).mp hb
  exact differ

theorem mem_planTubes_iff (service : Bool) (tubes : Vector Tube 6) (u : PlanTube) :
    u ∈ planTubes service tubes ↔
      ∃ i : Fin 6, 0 < tubes[i].denom ∧ u = ⟨i, tubes[i].denom, availability service tubes[i]⟩ := by
  rw [planTubes_eq, mem_insertTubes]
  simp only [List.mem_filterMap, planTube_eq_some_iff, Prod.exists, List.mem_zipIdx_iff_getElem?]
  constructor
  · rintro ⟨t, i, stands, used, rfl⟩
    obtain ⟨within, rfl⟩ := List.getElem?_eq_some_iff.mp stands
    exact ⟨⟨i, by simpa using within⟩, by simpa using used, by simp⟩
  · rintro ⟨i, used, rfl⟩
    exact ⟨tubes[i], i, by simp, used, rfl⟩

theorem planTubes_pos (service : Bool) (tubes : Vector Tube 6) : ∀ u ∈ planTubes service tubes, 0 < u.denom := by
  intro u mem
  obtain ⟨i, used, rfl⟩ := (mem_planTubes_iff service tubes u).mp mem
  exact used

end Sys2Proof.Machine
end

section
/-! SUPPORT. The Cash Unit's flags (R57, R58, R68, R71): what they say of the tubes, and that they depend on nothing but the
inputs the rules list. -/

namespace Sys2Proof.Machine

theorem forall_mem_toList_iff {α : Type} {n : Nat} (v : Vector α n) (d : α) (p : α → Prop) :
    (∀ x ∈ v.toList, p x) ↔ ∀ j < n, p (tget v d j) := by
  constructor
  · intro all j less
    rw [tget_of_lt v d less]
    exact all _ (by simp)
  · intro all x mem
    obtain ⟨j, less, rfl⟩ := List.mem_iff_getElem.mp mem
    have within : j < n := by simpa using less
    have entry := all j within
    rwa [tget_of_lt v d within] at entry

theorem foldl_max_le_iff (l : List Nat) (a v : Nat) : l.foldl max a ≤ v ↔ a ≤ v ∧ ∀ x ∈ l, x ≤ v := by
  induction l generalizing a with
  | nil => simp
  | cons x l ih => rw [List.foldl_cons, ih, max_le_iff, List.forall_mem_cons, and_assoc]

theorem enabledValue_le_iff (enabled : Bool) (value v : Nat) :
    (if enabled then value else 0) ≤ v ↔ (enabled = true → value ≤ v) := by
  cases enabled <;> simp

/-- No enabled class is worth more than `v`. -/
def LargestValue (s : State) (v : Nat) : Prop :=
  (∀ j < 16, (coinOf s j).enabled = true → (coinOf s j).value ≤ v) ∧
    ∀ j < 8, (billOf s j).enabled = true → (billOf s j).value ≤ v

theorem largestEnabled_le_iff (s : State) (v : Nat) : largestEnabled s ≤ v ↔ LargestValue s v := by
  unfold largestEnabled LargestValue
  rw [max_le_iff, foldl_max_le_iff, foldl_max_le_iff, List.forall_mem_map, List.forall_mem_map,
    forall_mem_toList_iff s.csh.coins ⟨1, none, false⟩, forall_mem_toList_iff s.csh.bills ⟨1, false⟩]
  simp only [enabledValue_le_iff, Nat.zero_le, true_and]
  exact Iff.rfl

theorem coin_largest_iff {s : State} {i : Nat} (less : i < 16) (on : (coinOf s i).enabled = true) :
    (coinOf s i).value = largestEnabled s ↔ LargestValue s (coinOf s i).value := by
  have above : (coinOf s i).value ≤ largestEnabled s := ((largestEnabled_le_iff s _).mp (le_refl _)).1 i less on
  rw [← largestEnabled_le_iff]
  omega

theorem bill_largest_iff {s : State} {i : Nat} (less : i < 8) (on : (billOf s i).enabled = true) :
    (billOf s i).value = largestEnabled s ↔ LargestValue s (billOf s i).value := by
  have above : (billOf s i).value ≤ largestEnabled s := ((largestEnabled_le_iff s _).mp (le_refl _)).2 i less on
  rw [← largestEnabled_le_iff]
  omega

/-- R57: a signed requirement is safe when it is not positive, or within 65,535 and payable exactly. -/
def ChangeSafe (tubes : Vector Tube 6) (r : Int) : Prop :=
  r ≤ 0 ∨ (r ≤ 65535 ∧ canPay (planTubes false tubes) r.toNat 100 = true)

/-- R57: the requirement with its sign. -/
def signedNeed (s : State) (strict : Bool) (credit v : Nat) : Int :=
  if strict then credit + v else credit + v - (s.sel.pMin.getD 0 : Nat)

theorem changeFor_iff (s : State) (tubes : Vector Tube 6) (strict : Bool) (credit v : Nat) :
    changeFor tubes (requirement strict s.sel.pMin credit v) = true ↔ ChangeSafe tubes (signedNeed s strict credit v) := by
  have amount : requirement strict s.sel.pMin credit v = (signedNeed s strict credit v).toNat := by
    unfold requirement signedNeed
    split <;> omega
  rw [amount]
  generalize signedNeed s strict credit v = r
  unfold changeFor ChangeSafe coinCap
  split
  case isTrue free => exact iff_of_true rfl (.inl (by omega))
  case isFalse owed =>
    split
    case isTrue beyond => exact iff_of_false (by simp) (by omega)
    case isFalse within =>
      constructor
      · exact fun pays => .inr ⟨by omega, pays⟩
      · rintro (free | ⟨-, pays⟩)
        · omega
        · exact pays

/-- R57, R61: the tubes after a coin, by the coin's route alone. -/
theorem tubesAfter_of_route (s : State) (i : Nat) :
    (∀ k, (coinOf s i).route = some k →
      tubesAfter s i =
        if (tubeOf s k).denom = 0 ∨ (tubeOf s k).capacity ≤ (tubeOf s k).count ∨ (tubeOf s k).fullCovered = true then s.chg.tubes
        else tset s.chg.tubes k { tubeOf s k with
          count := (tubeOf s k).count + 1
          state := if (tubeOf s k).state = .empty then .ok else (tubeOf s k).state }) ∧
      ((coinOf s i).route = none → tubesAfter s i = s.chg.tubes) := by
  constructor
  · intro k route
    by_cases shut : (tubeOf s k).denom = 0 ∨ (tubeOf s k).capacity ≤ (tubeOf s k).count ∨ (tubeOf s k).fullCovered = true
    · have unrouted : routedTube s i = none := by
        simp only [routedTube, route, Tube.full]
        refine if_neg ?_
        simp only [ne_eq, Bool.not_eq_eq_eq_not, Bool.not_true, Bool.or_eq_false_iff, decide_eq_false_iff_not]
        rintro ⟨used, room, clear⟩
        obtain unused | full | covered := shut
        · exact used unused
        · exact room full
        · rw [covered] at clear
          exact absurd clear (by decide)
      simp only [tubesAfter, unrouted, if_pos shut]
    · have routed : routedTube s i = some k := by
        simp only [routedTube, route, Tube.full]
        refine if_pos ?_
        simpa [not_or] using shut
      have room : min (tubeOf s k).capacity ((tubeOf s k).count + 1) = (tubeOf s k).count + 1 := by omega
      simp only [tubesAfter, routed, if_neg shut, Tube.addCoin, room]
  · intro route
    simp only [tubesAfter, routedTube, route]

theorem exactChangeNow_iff (s : State) :
    exactChangeNow s = true ↔
      (∃ i < 16, (coinOf s i).enabled = true ∧ LargestValue s (coinOf s i).value ∧
        ¬ChangeSafe (tubesAfter s i) (signedNeed s false 0 (coinOf s i).value)) ∨
      ∃ i < 8, (billOf s i).enabled = true ∧ LargestValue s (billOf s i).value ∧
        ¬ChangeSafe s.chg.tubes (signedNeed s false 0 (billOf s i).value) := by
  simp only [exactChangeNow, Bool.or_eq_true, List.any_eq_true, List.mem_range, Bool.and_eq_true, beq_iff_eq,
    Bool.not_eq_eq_eq_not, Bool.not_true, ← Bool.not_eq_true, ← changeFor_iff]
  refine or_congr (exists_congr fun i => and_congr_right fun less => ?_) (exists_congr fun i => and_congr_right fun less => ?_)
  · constructor
    · rintro ⟨⟨on, top⟩, short⟩
      exact ⟨on, (coin_largest_iff less on).mp top, by rwa [top]⟩
    · rintro ⟨on, top, short⟩
      have most := (coin_largest_iff less on).mpr top
      exact ⟨⟨on, most⟩, by rwa [← most]⟩
  · constructor
    · rintro ⟨⟨on, top⟩, short⟩
      exact ⟨on, (bill_largest_iff less on).mp top, by rwa [top]⟩
    · rintro ⟨on, top, short⟩
      have most := (bill_largest_iff less on).mpr top
      exact ⟨⟨on, most⟩, by rwa [← most]⟩

/-! ## The flags depend on the inputs alone (R58) -/

/-- A tube with what change-safety does not look at taken out. -/
def Tube.changeView (t : Tube) : Tube := { t with lowLevel := 1, lowCovered := false }

theorem planTubes_changeView (service : Bool) (tubes : Vector Tube 6) :
    planTubes service (tmap Tube.changeView tubes) = planTubes service tubes := by
  have view : ∀ p : Tube × Nat, planTube service (Tube.changeView p.1, p.2) = planTube service p := fun _ => rfl
  simp only [planTubes_eq, tmap, Vector.toList_mk, List.zipIdx_map, List.filterMap_map, Function.comp_def,
    Prod.map, id, view]

theorem changeFor_changeView (tubes : Vector Tube 6) (r : Nat) :
    changeFor (tmap Tube.changeView tubes) r = changeFor tubes r := by
  unfold changeFor
  rw [planTubes_changeView]

/-- The state as change-safety sees it. -/
def State.changeView (s : State) : State := { s with chg := { s.chg with tubes := tmap Tube.changeView s.chg.tubes } }

theorem tmap_tset {α β : Type} {n : Nat} (f : α → β) (v : Vector α n) (i : Nat) (x : α) :
    tmap f (tset v i x) = tset (tmap f v) i (f x) := by
  simp [tmap, tset, Vector.toList, List.map_set, Vector.setIfInBounds]

theorem tubeOf_changeView (s : State) (k : Nat) : tubeOf s.changeView k = (tubeOf s k).changeView :=
  tget_tmap Tube.changeView s.chg.tubes Tube.powerOn k

theorem routedTube_changeView (s : State) (i : Nat) : routedTube s.changeView i = routedTube s i := by
  unfold routedTube
  simp only [tubeOf_changeView]
  rfl

theorem tubesAfter_changeView (s : State) (i : Nat) :
    tubesAfter s.changeView i = tmap Tube.changeView (tubesAfter s i) := by
  unfold tubesAfter
  rw [routedTube_changeView]
  split
  case h_1 k _ =>
    rw [tmap_tset, tubeOf_changeView]
    rfl
  case h_2 => rfl

theorem coinSafeNow_changeView (s : State) (i : Nat) : coinSafeNow s.changeView i = coinSafeNow s i := by
  unfold coinSafeNow
  rw [tubesAfter_changeView, changeFor_changeView]
  rfl

theorem billSafeNow_changeView (s : State) (i : Nat) : billSafeNow s.changeView i = billSafeNow s i := by
  unfold billSafeNow
  exact changeFor_changeView s.chg.tubes _

theorem effectiveFlag_changeView (s : State) (i : Nat) : effectiveFlag s.changeView i = effectiveFlag s i := by
  unfold effectiveFlag
  rw [billSafeNow_changeView]
  rfl

theorem exactChangeNow_changeView (s : State) : exactChangeNow s.changeView = exactChangeNow s := by
  unfold exactChangeNow
  have bills (r : Nat) : changeFor s.changeView.chg.tubes r = changeFor s.chg.tubes r := changeFor_changeView _ r
  simp only [tubesAfter_changeView, changeFor_changeView, bills]
  rfl

/-- States with the same inputs give the same flags. -/
structure SameInputs (s t : State) : Prop where
  credit : t.csh.credit = s.csh.credit
  held : heldPrice t = heldPrice s
  escrow : escrowValue t = escrowValue s
  pMin : t.sel.pMin = s.sel.pMin
  strict : t.csh.strict = s.csh.strict
  limit : t.csh.creditLimit = s.csh.creditLimit
  hostMask : t.csh.hostMask = s.csh.hostMask
  mode : t.mgt.mode = s.mgt.mode
  coins : t.csh.coins = s.csh.coins
  bills : t.csh.bills = s.csh.bills
  tubes : t.changeView.chg.tubes = s.changeView.chg.tubes

theorem changeView_of_tubes {v w : Vector Tube 6}
    (same : v.toList.map (fun t => (t.denom, t.capacity, t.count, t.reserve, t.state, t.fullCovered)) =
      w.toList.map fun t => (t.denom, t.capacity, t.count, t.reserve, t.state, t.fullCovered)) :
    tmap Tube.changeView v = tmap Tube.changeView w := by
  have viewed := congrArg (List.map fun p : Nat × Nat × Nat × Nat × TubeState × Bool =>
    ({ denom := p.1, capacity := p.2.1, count := p.2.2.1, reserve := p.2.2.2.1, lowLevel := 1, lowCovered := false,
       fullCovered := p.2.2.2.2.2, state := p.2.2.2.2.1 } : Tube)) same
  rw [List.map_map, List.map_map] at viewed
  have entries : v.toList.map Tube.changeView = w.toList.map Tube.changeView := viewed
  simp only [tmap, entries]

theorem sameInputs_of_cashInputs {s t : State} (h : cashInputs s = cashInputs t) : SameInputs s t := by
  simp only [cashInputs, CashInputs.mk.injEq] at h
  obtain ⟨credit, held, escrow, pMin, strict, limit, hostMask, mode, coins, bills, tubes⟩ := h
  refine ⟨credit.symm, held.symm, ?_, pMin.symm, strict.symm, limit.symm, hostMask.symm, mode.symm, coins.symm, bills.symm,
    (changeView_of_tubes tubes).symm⟩
  have billEq (i : Nat) : billOf t i = billOf s i := by simp only [billOf, bills]
  unfold escrowValue
  cases hs : s.csh.escrow with
  | none =>
    cases ht : t.csh.escrow with
    | none => rfl
    | some f => rw [hs, ht] at escrow; cases escrow
  | some e =>
    cases ht : t.csh.escrow with
    | none => rw [hs, ht] at escrow; cases escrow
    | some f =>
      rw [hs, ht] at escrow
      simp only [Option.map_some, Option.some.injEq, Prod.mk.injEq] at escrow
      simp only [billEq, escrow.1, escrow.2]

theorem SameInputs.committed {s t : State} (h : SameInputs s t) : committed t = committed s := by
  unfold Machine.committed
  rw [h.credit, h.held, h.escrow]

theorem SameInputs.tubesAfter {s t : State} (h : SameInputs s t) (i : Nat) :
    tubesAfter t.changeView i = tubesAfter s.changeView i := by
  have tube (k : Nat) : tubeOf t.changeView k = tubeOf s.changeView k := by simp only [tubeOf, h.tubes]
  have coin : coinOf t.changeView i = coinOf s.changeView i := by simp only [coinOf, State.changeView, h.coins]
  unfold Machine.tubesAfter routedTube
  simp only [tube, coin, h.tubes]

theorem SameInputs.coinSafeNow {s t : State} (h : SameInputs s t) (i : Nat) : coinSafeNow t i = coinSafeNow s i := by
  have total : Machine.committed t.changeView = Machine.committed s.changeView := h.committed
  have coin : coinOf t.changeView i = coinOf s.changeView i := by simp only [coinOf, State.changeView, h.coins]
  have strict : t.changeView.csh.strict = s.changeView.csh.strict := h.strict
  have pMin : t.changeView.sel.pMin = s.changeView.sel.pMin := h.pMin
  rw [← coinSafeNow_changeView t, ← coinSafeNow_changeView s]
  unfold Machine.coinSafeNow
  rw [h.tubesAfter, total, coin, strict, pMin]

theorem SameInputs.billSafeNow {s t : State} (h : SameInputs s t) (i : Nat) : billSafeNow t i = billSafeNow s i := by
  have total : Machine.committed t.changeView = Machine.committed s.changeView := h.committed
  have bill : billOf t.changeView i = billOf s.changeView i := by simp only [billOf, State.changeView, h.bills]
  have strict : t.changeView.csh.strict = s.changeView.csh.strict := h.strict
  have pMin : t.changeView.sel.pMin = s.changeView.sel.pMin := h.pMin
  rw [← billSafeNow_changeView t, ← billSafeNow_changeView s]
  unfold Machine.billSafeNow
  rw [h.tubes, total, bill, strict, pMin]

theorem SameInputs.effectiveFlag {s t : State} (h : SameInputs s t) (i : Nat) : effectiveFlag t i = effectiveFlag s i := by
  have bill : billOf t i = billOf s i := by simp only [billOf, h.bills]
  unfold Machine.effectiveFlag
  rw [h.billSafeNow, h.committed, h.limit, h.mode, h.hostMask, bill]

theorem SameInputs.exactChangeNow {s t : State} (h : SameInputs s t) : exactChangeNow t = exactChangeNow s := by
  have coin (i : Nat) : coinOf t.changeView i = coinOf s.changeView i := by simp only [coinOf, State.changeView, h.coins]
  have bill (i : Nat) : billOf t.changeView i = billOf s.changeView i := by simp only [billOf, State.changeView, h.bills]
  have pMin : t.changeView.sel.pMin = s.changeView.sel.pMin := h.pMin
  have largest : largestEnabled t.changeView = largestEnabled s.changeView := by
    simp only [largestEnabled, State.changeView, h.coins, h.bills]
  rw [← exactChangeNow_changeView t, ← exactChangeNow_changeView s]
  unfold Machine.exactChangeNow
  simp only [h.tubesAfter, h.tubes, coin, bill, pMin, largest]

/-! ## The flags kept (R58, R68, R71) -/

/-- The flags that the Cash Unit holds. -/
def State.cashFlags (s : State) : Vector Bool 16 × Vector Bool 8 × Vector Bool 8 × Bool :=
  (s.csh.coinSafe, s.csh.billSafe, s.csh.effMask, s.csh.exactChange)

theorem FlagsCurrent.of_inputs {s t : State} (h : FlagsCurrent s) (inputs : cashInputs s = cashInputs t)
    (flags : t.cashFlags = s.cashFlags) : FlagsCurrent t := by
  have same := sameInputs_of_cashInputs inputs
  simp only [State.cashFlags, Prod.mk.injEq] at flags
  obtain ⟨coinSafe, billSafe, effMask, exactChange⟩ := flags
  obtain ⟨coins, bills, exact⟩ := h
  refine ⟨fun i less => ?_, fun i less => ⟨?_, ?_⟩, ?_⟩
  · rw [coinSafe, same.coinSafeNow]
    exact coins i less
  · rw [billSafe, same.billSafeNow]
    exact (bills i less).1
  · rw [effMask, same.effectiveFlag]
    exact (bills i less).2
  · rw [exactChange, same.exactChangeNow]
    exact exact

theorem cshRefresh_cashInputs (s : State) : cashInputs s = cashInputs (cshRefresh s) := by
  simp [cashInputs, heldPrice]

theorem cshRefresh_flagsCurrent (s : State) : FlagsCurrent (cshRefresh s) := by
  have same := sameInputs_of_cashInputs (cshRefresh_cashInputs s)
  refine ⟨fun i less => ?_, fun i less => ⟨?_, ?_⟩, ?_⟩
  · rw [same.coinSafeNow]
    simp [cshRefresh, tget_tmk _ _ less]
  · rw [same.billSafeNow]
    simp [cshRefresh, tget_tmk _ _ less]
  · rw [same.effectiveFlag]
    simp [cshRefresh, tget_tmk _ _ less]
  · rw [same.exactChangeNow]
    simp [cshRefresh]

theorem settleCash_flagsCurrent {before s : State} (h : FlagsCurrent before) (flags : s.cashFlags = before.cashFlags) :
    FlagsCurrent (settleCash before s) := by
  obtain ⟨inputs, same⟩ | ⟨-, refreshed⟩ := settleCash_cases before s
  · rw [same]
    exact h.of_inputs inputs flags
  · rw [refreshed]
    exact cshRefresh_flagsCurrent s

theorem storeTube_cashFlags (i : Nat) (x : Tube) (s : State) : (storeTube i x s).cashFlags = s.cashFlags := by
  simp [State.cashFlags]

theorem storeTube_flagsCurrent {s : State} (h : FlagsCurrent s) (i : Nat) (x : Tube) :
    FlagsCurrent (settleCash s (storeTube i x s)) := settleCash_flagsCurrent h (storeTube_cashFlags i x s)

end Sys2Proof.Machine
end

section
/-! SUPPORT. The rows that write the inputs of change-safety leave the flags current (R58, R68, R71). -/

namespace Sys2Proof.Machine

theorem deliver_flagsCurrent {act : State → Answer × State} (keeps : ∀ s, FlagsCurrent s → FlagsCurrent (act s).2)
    (src kind : Byte) {s : State} (h : FlagsCurrent s) : FlagsCurrent (deliver src kind act s) := by
  unfold deliver
  simp only
  split
  · exact h.of_inputs rfl rfl
  · exact (keeps s.taken (h.of_inputs rfl rfl)).of_inputs rfl rfl

theorem ownedWrite_flagsCurrent {store : Write → State → State} (keeps : ∀ w s, FlagsCurrent s → FlagsCurrent (store w s))
    (id : Nat) (refusal : State → Write → Option Status) (p : List Byte) (s : State) (h : FlagsCurrent s) :
    FlagsCurrent (ownedWrite id refusal store p s).2 := by
  unfold ownedWrite
  split
  · exact h
  · split
    · exact h
    · exact keeps _ s h

theorem storeCoinWrite_flagsCurrent (w : Write) (s : State) (h : FlagsCurrent s) : FlagsCurrent (storeCoinWrite w s) :=
  settleCash_flagsCurrent h rfl

theorem storeBillWrite_flagsCurrent (w : Write) (s : State) (h : FlagsCurrent s) : FlagsCurrent (storeBillWrite w s) :=
  settleCash_flagsCurrent h rfl

theorem storeTubeWrite_flagsCurrent (w : Write) (s : State) (h : FlagsCurrent s) : FlagsCurrent (storeTubeWrite w s) :=
  storeTube_flagsCurrent h _ _

theorem storeVendSettingsWrite_flagsCurrent (w : Write) (s : State) (h : FlagsCurrent s) :
    FlagsCurrent (storeVendSettingsWrite w s) := settleCash_flagsCurrent h rfl

theorem hostBillMaskFrame_flagsCurrent (params : List Byte) (s : State) (h : FlagsCurrent s) :
    FlagsCurrent (hostBillMaskFrame params s).2 := by
  unfold hostBillMaskFrame
  split
  · unfold hostBillMaskCommand
    split
    · exact h
    · exact settleCash_flagsCurrent h rfl
  · exact h

theorem tubeCountFrame_flagsCurrent (params : List Byte) (s : State) (h : FlagsCurrent s) :
    FlagsCurrent (tubeCountFrame params s).2 := by
  unfold tubeCountFrame
  split
  · unfold tubeCountCommand
    split
    · exact h
    · exact storeTube_flagsCurrent h _ _
  · exact h

theorem closeGate_flagsCurrent {s : State} (h : FlagsCurrent s) : FlagsCurrent (closeGate s) := h.of_inputs rfl rfl

theorem coinEnters_cashFlags (k : Option Nat) (s : State) : (coinEnters k s).cashFlags = s.cashFlags := by
  cases k
  · rfl
  · exact storeTube_cashFlags ..

theorem addCredit_cashFlags (v : Nat) (s : State) : (addCredit v s).cashFlags = s.cashFlags := by
  simp [State.cashFlags]

theorem creditCoin_flagsCurrent (i : Nat) {s : State} (h : FlagsCurrent s) : FlagsCurrent (creditCoin i s) :=
  settleCash_flagsCurrent h ((addCredit_cashFlags _ _).trans (coinEnters_cashFlags _ _))

theorem fillCoin_flagsCurrent (k i : Nat) {s : State} (h : FlagsCurrent s) : FlagsCurrent (fillCoin k i s) :=
  settleCash_flagsCurrent h (coinEnters_cashFlags (some k) (openGate true s))

theorem coinDecided_flagsCurrent (i : Nat) {s : State} (h : FlagsCurrent s) : FlagsCurrent (coinDecided i s) := by
  unfold coinDecided
  split
  · split
    · exact creditCoin_flagsCurrent i h
    · exact closeGate_flagsCurrent h
  · split
    · exact fillCoin_flagsCurrent _ i h
    · exact closeGate_flagsCurrent h
  · exact closeGate_flagsCurrent h
  · exact closeGate_flagsCurrent h

theorem dropEscrow_flagsCurrent {s : State} (h : FlagsCurrent s) : FlagsCurrent (dropEscrow s) :=
  settleCash_flagsCurrent h rfl

theorem billEscrow_flagsCurrent (c : Nat) (s : State) : FlagsCurrent (billEscrow c s) := cshRefresh_flagsCurrent _

theorem billStacked_flagsCurrent (node c : Nat) {s : State} (h : FlagsCurrent s) : FlagsCurrent (billStacked node c s) := by
  unfold billStacked
  refine settleCash_flagsCurrent h ?_
  split
  · simp [State.cashFlags]
  · simp [State.cashFlags, billAnomaly]

theorem reset_flagsCurrent : FlagsCurrent State.reset := by
  unfold FlagsCurrent
  decide +kernel

theorem next_inj {s t : State} (h : (Host.Outcome.next s : Result) = .next t) : s = t := by
  cases h
  rfl

end Sys2Proof.Machine
end

section
/-! PROOF. Change-safety (sections 3.3 and 4.3). -/

namespace Sys2Proof.Machine

/-- The rows of O37 that write an input. -/
theorem rows_flagsCurrent {s t : State} (h : FlagsCurrent s) (src : Byte) (body : List Byte)
    (row : exec (.coinTableWrite src body) s = .next t ∨ exec (.billTableWrite src body) s = .next t ∨
      exec (.tubeTableWrite src body) s = .next t ∨ exec (.vendSettingsWrite src body) s = .next t ∨
      exec (.hostBillMask src body) s = .next t ∨ exec (.tubeCount src body) s = .next t) : FlagsCurrent t := by
  obtain row | row | row | row | row | row := row <;> obtain rfl := next_inj row
  · exact deliver_flagsCurrent (ownedWrite_flagsCurrent storeCoinWrite_flagsCurrent 3 coinRefusal body) src _ h
  · exact deliver_flagsCurrent (ownedWrite_flagsCurrent storeBillWrite_flagsCurrent 4 billRefusal body) src _ h
  · exact deliver_flagsCurrent (ownedWrite_flagsCurrent storeTubeWrite_flagsCurrent 5 tubeRefusal body) src _ h
  · exact deliver_flagsCurrent (ownedWrite_flagsCurrent storeVendSettingsWrite_flagsCurrent 7 vendSettingsRefusal body) src _ h
  · exact deliver_flagsCurrent (hostBillMaskFrame_flagsCurrent body) src _ h
  · exact deliver_flagsCurrent (tubeCountFrame_flagsCurrent body) src _ h

theorem sensor_flagsCurrent {s t : State} (h : FlagsCurrent s) (i : Fin 6) (covered : Bool)
    (row : exec (.lowSensorChange i covered) s = .next t ∨ exec (.fullSensorChange i covered) s = .next t) :
    FlagsCurrent t := by
  obtain row | row := row
  · replace row : execLowSensorChange i covered s = .next t := row
    simp only [execLowSensorChange] at row
    split at row
    · exact next_inj row ▸ h
    · exact next_inj row ▸ storeTube_flagsCurrent h _ _
  · replace row : execFullSensorChange i covered s = .next t := row
    simp only [execFullSensorChange] at row
    split at row
    · exact next_inj row ▸ h
    · exact next_inj row ▸ storeTube_flagsCurrent h _ _

theorem classReport_flagsCurrent {s t : State} (h : FlagsCurrent s) (cls : Option (Fin 16))
    (row : exec (.classReport cls) s = .next t) : FlagsCurrent t := by
  cases cls with
  | none => exact next_inj row ▸ closeGate_flagsCurrent h
  | some i => exact next_inj row ▸ coinDecided_flagsCurrent i h

theorem escrowExpiry_flagsCurrent {s t : State} (h : FlagsCurrent s) (row : exec .escrowExpiry s = .next t) :
    FlagsCurrent t := by
  replace row : execEscrowExpiry s = .next t := row
  unfold execEscrowExpiry at row
  split at row
  · exact next_inj row ▸ dropEscrow_flagsCurrent (h.of_inputs rfl rfl)
  · exact next_inj row ▸ h

/-- Settles O37: the planner's search is exact, by induction on the tubes, and the flags depend on the listed inputs alone. -/
theorem canPayMeansAnExactPlan : Obligations.CanPayMeansAnExactPlan := by
  refine ⟨fun ts amount cap pos => ?_, fun service tubes => ⟨planTubes_sorted service tubes, fun u => ?_⟩, fun s => ?_,
    reset_flagsCurrent, fun s t h => ⟨fun src body => rows_flagsCurrent h src body, fun cls => classReport_flagsCurrent h cls,
      fun i covered => sensor_flagsCurrent h i covered, escrowExpiry_flagsCurrent h, fun node cls =>
        ⟨billEscrow_flagsCurrent cls s, billStacked_flagsCurrent node cls h, dropEscrow_flagsCurrent h⟩⟩⟩
  · rw [canPay_iff_fitsPlan ts amount cap pos]
    refine exists_congr fun ks => ⟨?_, ?_⟩
    · rintro ⟨⟨length, avail, within, -⟩, exact⟩
      exact ⟨length, avail, within, exact⟩
    · rintro ⟨length, avail, within, exact⟩
      exact ⟨⟨length, avail, within, exact.le⟩, exact⟩
  · rw [mem_planTubes_iff]
    refine exists_congr fun i => and_congr_right fun _ => ?_
    have avail : availability service tubes[i] =
        if tubes[i].state ≠ .ok then 0 else if service then tubes[i].count else tubes[i].count - tubes[i].reserve := by
      unfold availability
      cases tubes[i].state <;> rfl
    rw [avail]
  · intro c after need safe largest
    have routed (i : Nat) : tubesAfter s i = after i := by
      obtain ⟨routed, unrouted⟩ := tubesAfter_of_route s i
      simp only [after]
      split
      case h_1 route => exact unrouted route
      case h_2 k route => exact routed k route
    have total : committed s = c := rfl
    have coins (i : Nat) : coinSafeNow s i = true ↔ safe (after i) (need s.csh.strict c (coinOf s i).value) := by
      rw [coinSafeNow, changeFor_iff, routed]
      exact Iff.rfl
    have bills (i : Nat) : billSafeNow s i = true ↔ safe s.chg.tubes (need s.csh.strict c (billOf s i).value) := by
      rw [billSafeNow, changeFor_iff]
      exact Iff.rfl
    refine ⟨coins, bills, fun i => ?_, ?_⟩
    · rw [effectiveFlag]
      simp only [Bool.and_eq_true, beq_iff_eq, decide_eq_true_eq, and_assoc, total]
    · rw [exactChangeNow_iff]
      simp only [routed]
      exact Iff.rfl

end Sys2Proof.Machine
end

section
/-! SUPPORT. What a payout leads to (sections 4.4 to 4.6): its end, its first or next coin, and a replan. -/

namespace Sys2Proof.Machine

/-! ## The end of a payout (R95) -/

theorem addCredit_reserved (n : Nat) (s : State) : (addCredit n s).rpq.reserved = s.rpq.reserved := by
  obtain ⟨-, e⟩ | ⟨-, e⟩ | ⟨-, e⟩ := addCredit_cases n s
  · rw [e]
  · rw [e, (report_rpq _ _).1]
  · rw [e, (report_rpq _ _).1]

theorem consumeSlot_csh (ev : EventReport) (s : State) : (consumeSlot ev s).csh = s.csh := by simp

/-- The payout that stands in `s` ends with its result, its unit and its remainder. -/
theorem endPayout_ended {p : Payout} {s s0 : State} (stands : s.chg.payout = some p) (credit : s.csh.credit = s0.csh.credit)
    (slots : s.rpq.reserved = s0.rpq.reserved) : PayoutEnded p s0 (endPayout s) := by
  set s1 := withdrawClaim .payout { s with
    lds := { s.lds with payoutUnits := 0 }
    chg := { s.chg with payout := none, drive := none } } with unitFree
  set s2 := if p.source.isService then s1 else addCredit p.remainder s1 with refunded
  have ends : endPayout s = consumeSlot (.payoutResult p.source p.requested p.paid (decide (p.paid < p.requested)) p.coins)
      (settleCash s s2) := by
    simp only [endPayout, endPayoutWith, stands]
    rfl
  have chg : s2.chg = s1.chg := by
    rw [refunded]
    split <;> simp
  have lds : s2.lds = s1.lds := by
    rw [refunded]
    split <;> simp
  have reserved : s2.rpq.reserved = s.rpq.reserved := by
    rw [refunded]
    split
    · rfl
    · exact addCredit_reserved _ _
  have settled : (settleCash s s2).csh.credit = s2.csh.credit := by simp
  rw [ends]
  refine ⟨?_, ?_, ?_, fun slot => ?_, fun service => ?_, fun cash range => ?_⟩
  · simp [chg, unitFree, withdrawClaim]
  · simp [chg, unitFree, withdrawClaim]
  · simp [lds, unitFree, withdrawClaim]
  · exact consumeSlot_queued _ (by rw [settleCash_reserved, reserved]; omega)
  · rw [consumeSlot_csh, settled, refunded, if_pos service]
    exact credit
  · rw [consumeSlot_csh, settled, refunded, if_neg (by simp [cash])]
    have room : s1.csh.credit + p.remainder ≤ 65535 := by
      show s.csh.credit + (p.requested - p.paid) ≤ 65535
      omega
    rw [addCredit_credit room]
    show s.csh.credit + (p.requested - p.paid) = _
    omega

theorem endPayout_claims {s : State} (h : s.lds.claims = []) : (endPayout s).lds.claims = [] := by
  unfold endPayout endPayoutWith
  split
  · simp only [consumeSlot_frame, settleCash_frame]
    split <;> simp [withdrawClaim, h]
  · exact h

/-! ## The next coin (R90, R91) -/

theorem nextPlanned_eq {p : Payout} {plan : Vector Nat 6} (made : p.plan = some plan) (s : State) :
    nextPlanned p s = (firstPlanned p plan s).map (·.tube) := by
  simp only [nextPlanned, made]
  rfl

theorem payFirst_driven {p : Payout} {plan : Vector Nat 6} {s : State} {u : PlanTube} (made : p.plan = some plan)
    (first : firstPlanned p plan s = some u) : payFirst p s = driveCoin u.tube p s := by
  simp only [payFirst, nextPlanned_eq made, first, Option.map_some]

theorem payFirst_ended {p : Payout} {plan : Vector Nat 6} {s : State} (made : p.plan = some plan)
    (none_ : firstPlanned p plan s = none) : payFirst p s = endPayout { s with chg := { s.chg with payout := some p } } := by
  simp only [payFirst, nextPlanned_eq made, none_, Option.map_none]

/-- Of the Change Unit, what follows a coin moves the payout and its drive alone. -/
def PaysOn (s t : State) : Prop := t.chg = { s.chg with payout := t.chg.payout, drive := t.chg.drive }

theorem PaysOn.tubes {s t : State} (h : PaysOn s t) : t.chg.tubes = s.chg.tubes := by rw [h]

theorem PaysOn.sensorActive {s t : State} (h : PaysOn s t) : t.chg.sensorActive = s.chg.sensorActive := by rw [h]

theorem endPayout_paysOn (s : State) : PaysOn s (endPayout s) := by
  unfold PaysOn
  rw [endPayout_chg]

theorem payFirst_paysOn (p : Payout) (s : State) : PaysOn s (payFirst p s) := by
  unfold payFirst
  split
  · rfl
  · exact endPayout_paysOn { s with chg := { s.chg with payout := some p } }

theorem payFirst_claims {p : Payout} {s : State} (h : s.lds.claims = []) : (payFirst p s).lds.claims = [] := by
  unfold payFirst
  split
  · exact h
  · exact endPayout_claims h

/-- What `firstPlanned` finds depends on the tubes alone. -/
theorem firstPlanned_congr (p : Payout) (plan : Vector Nat 6) {s t : State} (tubes : t.chg.tubes = s.chg.tubes) :
    firstPlanned p plan t = firstPlanned p plan s := by
  unfold firstPlanned
  rw [tubes]

theorem driveCoin_driven (tube : Nat) (p : Payout) (s : State) : CoinDriven p tube (driveCoin tube p s) := ⟨rfl, rfl⟩

theorem replan_paysOn (p : Payout) (s : State) : PaysOn s (replan p s) := by
  unfold replan
  split
  · exact payFirst_paysOn _ s
  · exact endPayout_paysOn s

theorem replan_claims {p : Payout} {s : State} (h : s.lds.claims = []) : (replan p s).lds.claims = [] := by
  unfold replan
  split
  · exact payFirst_claims h
  · exact endPayout_claims h

/-- R94: a replan drives the first tube of its plan, or ends. -/
theorem replan_replanned {p : Payout} {s s0 : State} (stands : s.chg.payout = some p)
    (credit : s.csh.credit = s0.csh.credit) (slots : s.rpq.reserved = s0.rpq.reserved) :
    Replanned p s0 (replan p s) := by
  unfold Replanned
  rw [(replan_paysOn p s).tubes]
  refine ⟨fun left => ?_, fun used => ?_⟩
  · rw [replan, if_pos left]
    set plan := makePlan p.source.isService s.chg.tubes p.remainder (coinCap - p.coinsPaid) with made
    set q : Payout := { p with replans := p.replans + 1, plan := some plan } with next
    have same : firstPlanned p plan (payFirst q s) = firstPlanned q plan s :=
      firstPlanned_congr p plan (payFirst_paysOn q s).tubes
    refine ⟨fun u first => ?_, fun none_ => ?_⟩
    · rw [payFirst_driven (plan := plan) rfl (same.symm.trans first)]
      exact driveCoin_driven u.tube q s
    · rw [payFirst_ended (plan := plan) rfl (same.symm.trans none_)]
      exact endPayout_ended (p := q) rfl credit slots
  · rw [replan, if_neg (by omega)]
    exact endPayout_ended stands credit slots

theorem afterFailure_paysOn (s : State) : PaysOn s (afterFailure s) := by
  unfold afterFailure
  split
  · split
    · exact endPayout_paysOn s
    · exact replan_paysOn _ s
  · rfl

theorem afterFailure_claims {s : State} (h : s.lds.claims = []) : (afterFailure s).lds.claims = [] := by
  unfold afterFailure
  split
  · split
    · exact endPayout_claims h
    · exact replan_claims h
  · exact h

/-- R92, R93: form AMOUNT replans, unless SAFE cut the pulse. -/
theorem afterFailure_amount {p : Payout} {s s0 : State} (stands : s.chg.payout = some p) (whole : p.cut = false)
    (amount : p.form = .amount) (credit : s.csh.credit = s0.csh.credit) (slots : s.rpq.reserved = s0.rpq.reserved) :
    Replanned p s0 (afterFailure s) := by
  have next : afterFailure s = replan p s := by
    simp only [afterFailure, stands]
    exact if_neg (by simp [whole, amount])
  rw [next]
  exact replan_replanned stands credit slots

/-- R92, R93, R96: form TUBE ends, and so does a payout that SAFE cut. -/
theorem afterFailure_ended {p : Payout} {s s0 : State} (stands : s.chg.payout = some p)
    (last : p.cut = true ∨ p.form ≠ .amount) (credit : s.csh.credit = s0.csh.credit)
    (slots : s.rpq.reserved = s0.rpq.reserved) : PayoutEnded p s0 (afterFailure s) := by
  have next : afterFailure s = endPayout s := by
    simp only [afterFailure, stands]
    exact if_pos last
  rw [next]
  exact endPayout_ended stands credit slots

theorem nextCoin_paysOn (s : State) : PaysOn s (nextCoin s) := by
  unfold nextCoin
  split
  · split
    · split
      · exact replan_paysOn _ s
      · rfl
    · exact endPayout_paysOn s
  · rfl

theorem nextCoin_claims {s : State} (h : s.lds.claims = []) : (nextCoin s).lds.claims = [] := by
  unfold nextCoin
  split
  · split
    · split
      · exact replan_claims h
      · exact h
    · exact endPayout_claims h
  · exact h

theorem firstPlanned_mem {p : Payout} {plan : Vector Nat 6} {s : State} {u : PlanTube}
    (first : firstPlanned p plan s = some u) :
    u ∈ planTubes p.source.isService s.chg.tubes ∧ 0 < tget plan 0 u.tube :=
  ⟨List.mem_of_find?_eq_some first, by simpa using List.find?_some first⟩

/-- R83: a planner's tube has the availability of the tube of its number. -/
theorem planTube_avail {service : Bool} {s : State} {u : PlanTube} (mem : u ∈ planTubes service s.chg.tubes) :
    u.tube < 6 ∧ u.avail = availability service (tubeOf s u.tube) := by
  obtain ⟨i, -, rfl⟩ := (mem_planTubes_iff service s.chg.tubes u).mp mem
  refine ⟨i.isLt, ?_⟩
  rw [tubeOf, tget_of_lt _ _ i.isLt]
  rfl

/-- R90: the next planned coin, a replan where its tube has nothing, or the end. -/
theorem nextCoin_followed {p : Payout} {s s0 : State} (stands : s.chg.payout = some p)
    (credit : s.csh.credit = s0.csh.credit) (slots : s.rpq.reserved = s0.rpq.reserved) :
    CoinFollowed p s0 (nextCoin s) := by
  intro plan made
  rw [firstPlanned_congr p plan (nextCoin_paysOn s).tubes]
  have next (u : PlanTube) (first : firstPlanned p plan s = some u) :
      nextCoin s = if p.form = .amount ∧ u.avail = 0 then replan p s else driveCoin u.tube p s := by
    simp only [nextCoin, stands, nextPlanned_eq made, first, Option.map_some]
    rw [(planTube_avail (firstPlanned_mem first).1).2]
  refine ⟨fun u first available => ?_, fun u first amount empty => ?_, fun none_ => ?_⟩
  · rw [next u first, if_neg]
    · exact driveCoin_driven u.tube p s
    · rintro ⟨amount, empty⟩
      obtain form | some_ := available
      · exact form amount
      · omega
  · rw [next u first, if_pos ⟨amount, empty⟩]
    exact replan_replanned stands credit slots
  · have ends : nextCoin s = endPayout s := by simp only [nextCoin, stands, nextPlanned_eq made, none_, Option.map_none]
    rw [ends]
    exact endPayout_ended stands credit slots

end Sys2Proof.Machine
end


section
/-! SUPPORT. A coin seen, a tube found empty or jammed (R91 to R93): what each stores before what follows it. -/

namespace Sys2Proof.Machine

/-- R91: the payout with one more coin of its tube, worth `v`. -/
def Payout.seen (v : Nat) (p : Payout) : Payout :=
  { p with
    paid := p.paid + v
    plan := p.plan.map fun k => tset k p.tube (tget k 0 p.tube - 1)
    coins := addToCoins p.tube p.coins
    window := none }

theorem coinPaid_chg (p : Payout) (s : State) :
    (coinPaid p s).chg = { s.chg with
      tubes := tset s.chg.tubes p.tube { tubeOf s p.tube with count := (tubeOf s p.tube).count - 1 }
      payout := some (p.seen (tubeOf s p.tube).denom) } := by
  simp only [coinPaid, settleCash_frame, storeTube_chg_eq]
  rfl

theorem coinPaid_account (p : Payout) (s : State) :
    (coinPaid p s).csh.credit = s.csh.credit ∧ (coinPaid p s).csh.audit =
      if p.source.isService then
        { s.csh.audit with servicePaidOut := min 4294967295 (s.csh.audit.servicePaidOut + (tubeOf s p.tube).denom) }
      else { s.csh.audit with cashPaidOut := min 4294967295 (s.csh.audit.cashPaidOut + (tubeOf s p.tube).denom) } := by
  constructor
  · simp [coinPaid]
  · simp only [coinPaid, settleCash_csh]
    rfl

theorem storeTube_reserved (i : Nat) (x : Tube) (s : State) : (storeTube i x s).rpq.reserved = s.rpq.reserved := by
  unfold storeTube reportIf
  split
  · exact (report_rpq _ _).1
  · rfl

theorem coinPaid_reserved (p : Payout) (s : State) : (coinPaid p s).rpq.reserved = s.rpq.reserved := by
  simp only [coinPaid, settleCash_reserved]
  exact storeTube_reserved ..

theorem coinPaid_reported {p : Payout} {s : State} (held : 0 < (tubeOf s p.tube).count) :
    Reported (.tube p.tube) (coinPaid p s) := by
  have changes : tubeOf s p.tube ≠ { tubeOf s p.tube with count := (tubeOf s p.tube).count - 1 } := by
    intro same
    have count := congrArg Tube.count same
    simp only at count
    omega
  have stored := storeTube_reported (e := { tubeOf s p.tube with count := (tubeOf s p.tube).count - 1 }) changes.symm
  unfold coinPaid
  refine Reported.settleCash ?_ s
  exact stored.of_rpq rfl

/-- An entry written is the entry read, and the others stand. -/
theorem tubeOf_of_tset {s t : State} {i : Nat} {x : Tube} (tubes : t.chg.tubes = tset s.chg.tubes i x) (less : i < 6) :
    tubeOf t i = x ∧ ∀ j, j ≠ i → tubeOf t j = tubeOf s j := by
  unfold tubeOf
  rw [tubes]
  exact ⟨tget_tset_same _ _ _ less, fun j other => tget_tset_ne _ _ _ other⟩

theorem addToCoins_sum (tube : Nat) (coins : List (Nat × Nat)) :
    ((addToCoins tube coins).map (·.2)).sum = (coins.map (·.2)).sum + 1 := by
  induction coins with
  | nil => rfl
  | cons c coins ih =>
    obtain ⟨other, n⟩ := c
    unfold addToCoins
    split
    · simp only [List.map_cons, List.sum_cons]
      omega
    · simp only [List.map_cons, List.sum_cons, ih]
      omega

/-! ## The rows (R91 to R93) -/

theorem payoutCoinSeen_row {s : State} {p : Payout} {w : Time} (payout : s.chg.payout = some p) (window : p.window = some w)
    (clear : s.chg.sensorActive = false) :
    exec .payoutCoinSeen s = .next (evaluateClaims (afterCoin p (coinPaid p s.coinSensed))) := by
  show execPayoutCoinSeen s = _
  rw [execPayoutCoinSeen_eq, clear]
  simp only [payout, window, Option.isSome_some, Bool.false_eq_true, if_false, if_true]

theorem payoutPulseEnd_row {s : State} {p : Payout} {b : Time} (payout : s.chg.payout = some p) (pulse : p.pulse = some b) :
    exec .payoutPulseEnd s = .next (if p.window = none then evaluateClaims (nextCoin (pulseOff p (s.upTo (b + ms 80))))
      else pulseOff p (s.upTo (b + ms 80))) := by
  show execPayoutPulseEnd s = _
  simp only [execPayoutPulseEnd, payout, pulse]
  split <;> rfl

theorem sensorWindowExpiry_row {s : State} {p : Payout} {w : Time} (payout : s.chg.payout = some p) (window : p.window = some w) :
    exec .sensorWindowExpiry s = .next (evaluateClaims (afterFailure
      (if p.cut ∨ p.jammed then s.windowEnded p w else tubeEmpty p.tube (s.windowEnded p w)))) := by
  show execSensorWindowExpiry s = _
  simp only [execSensorWindowExpiry, payout, window]
  rfl

/-- R93: the tube of the payout jammed, its drive off. -/
def State.driveJammed (p : Payout) (start : Time) (s : State) : State :=
  tubeJammed p.tube (pulseOff { p with jammed := true } (s.upTo (start + ms 20)))

theorem driveJam_row {s : State} {p : Payout} {b : Time} {least : Nat} (payout : s.chg.payout = some p)
    (pulse : p.pulse = some b) (jam : s.spd.jamThreshold < least) :
    exec (.driveJam least) s =
      .next (if p.window.isSome then s.driveJammed p b else evaluateClaims (afterFailure (s.driveJammed p b))) := by
  show execDriveJam least s = _
  simp only [execDriveJam, payout, pulse, jam, if_true]
  split <;> rfl

/-! ## A coin seen in its window (R91) -/

/-- A coin seen while nothing waits for the supply: the coin, and what follows it. -/
theorem coinSeen_followed {s : State} {p : Payout} {w : Time} (payout : s.chg.payout = some p) (window : p.window = some w)
    (clear : s.chg.sensorActive = false) {t : State}
    (next : afterCoin p (coinPaid p s.coinSensed) = t) (claims : t.lds.claims = []) : exec .payoutCoinSeen s = .next t := by
  rw [payoutCoinSeen_row payout window clear, next, evaluateClaims_nil claims]

theorem coinSensed_claims (p : Payout) {s : State} (idle : s.lds.claims = []) : (coinPaid p s.coinSensed).lds.claims = [] := by
  rw [show (coinPaid p s.coinSensed).lds = s.lds by simp [State.coinSensed]]
  exact idle

theorem coinSensed_tubes (p : Payout) (s : State) (less : p.tube < 6) {t : State}
    (tubes : t.chg.tubes = (coinPaid p s.coinSensed).chg.tubes) :
    tubeOf t p.tube = { tubeOf s p.tube with count := (tubeOf s p.tube).count - 1 } ∧
      ∀ j, j ≠ p.tube → tubeOf t j = tubeOf s j := by
  rw [coinPaid_chg] at tubes
  exact tubeOf_of_tset (s := s) tubes less

end Sys2Proof.Machine
end

section
/-! PROOF. Paying coins (section 4.5). -/

namespace Sys2Proof.Machine

/-- R91: a coin seen while its pulse is on. -/
theorem coinSeen_pulsing {p : Payout} {w b : Time} {s : State} (payout : s.chg.payout = some p) (window : p.window = some w)
    (less : p.tube < 6) (clear : s.chg.sensorActive = false) (pulse : p.pulse = some b) (idle : s.lds.claims = []) :
    ∃ t, exec .payoutCoinSeen s = .next t ∧ t.now = max s.now (s.chg.sensorInactiveSince + ms 5) ∧
      t.chg.sensorActive = true ∧ t.chg.drive = s.chg.drive ∧
      tubeOf t p.tube = { tubeOf s p.tube with count := (tubeOf s p.tube).count - 1 } ∧
      (∀ j, j ≠ p.tube → tubeOf t j = tubeOf s j) ∧
      (0 < (tubeOf s p.tube).count → Reported (.tube p.tube) t) ∧
      (∃ q, t.chg.payout = some q ∧ q.paid = p.paid + (tubeOf s p.tube).denom ∧ q.window = none ∧ q.pulse = p.pulse ∧
        q.coins = addToCoins p.tube p.coins ∧
        ∀ k, p.plan = some k → ∃ k', q.plan = some k' ∧ tget k' 0 p.tube = tget k 0 p.tube - 1) ∧
      t.csh.audit = (if p.source.isService then
          { s.csh.audit with servicePaidOut := min 4294967295 (s.csh.audit.servicePaidOut + (tubeOf s p.tube).denom) }
        else { s.csh.audit with cashPaidOut := min 4294967295 (s.csh.audit.cashPaidOut + (tubeOf s p.tube).denom) }) ∧
      t.csh.credit = s.csh.credit ∧ ChangesOnly [.now, .csh, .chg, .dlk, .rpq] s t := by
  obtain ⟨credit, audit⟩ := coinPaid_account p s.coinSensed
  obtain ⟨tube, others⟩ := coinSensed_tubes p s less rfl
  have next : afterCoin p (coinPaid p s.coinSensed) = coinPaid p s.coinSensed := if_pos (by simp [pulse])
  refine ⟨coinPaid p s.coinSensed, coinSeen_followed payout window clear next (coinSensed_claims p idle),
    by simp [State.coinSensed], by rw [coinPaid_chg]; rfl, by rw [coinPaid_chg]; rfl, tube, others,
    fun held => coinPaid_reported held, ?_, audit, credit, by constructor <;> simp [State.coinSensed]⟩
  refine ⟨p.seen (tubeOf s p.tube).denom, by rw [coinPaid_chg]; rfl, rfl, rfl, rfl, rfl, fun k made => ?_⟩
  exact ⟨tset k p.tube (tget k 0 p.tube - 1), by simp [Payout.seen, made], tget_tset_same _ _ _ less⟩

/-- R90, R91: a coin seen after its pulse, and what follows it. -/
theorem coinSeen_next {p : Payout} {w : Time} {k : Vector Nat 6} {s : State} (payout : s.chg.payout = some p)
    (window : p.window = some w) (less : p.tube < 6) (clear : s.chg.sensorActive = false) (pulse : p.pulse = none)
    (whole : p.cut = false) (sound : p.jammed = false) (made : p.plan = some k) (idle : s.lds.claims = []) :
    ∃ t, exec .payoutCoinSeen s = .next t ∧ t.now = max s.now (s.chg.sensorInactiveSince + ms 5) ∧
      t.chg.sensorActive = true ∧
      tubeOf t p.tube = { tubeOf s p.tube with count := (tubeOf s p.tube).count - 1 } ∧
      (∀ j, j ≠ p.tube → tubeOf t j = tubeOf s j) ∧
      CoinFollowed { p with
        paid := p.paid + (tubeOf s p.tube).denom
        plan := some (tset k p.tube (tget k 0 p.tube - 1))
        coins := addToCoins p.tube p.coins
        window := none } s t := by
  have next : afterCoin p (coinPaid p s.coinSensed) = nextCoin (coinPaid p s.coinSensed) := by
    simp [afterCoin, pulse, whole, sound]
  have stands : (coinPaid p s.coinSensed).chg.payout = some (p.seen (tubeOf s p.tube).denom) := by rw [coinPaid_chg]; rfl
  obtain ⟨tube, others⟩ := coinSensed_tubes p s less (nextCoin_paysOn _).tubes
  have followed := nextCoin_followed (s0 := s) stands (coinPaid_account p s.coinSensed).1 (coinPaid_reserved p s.coinSensed)
  simp only [Payout.seen, made, Option.map_some] at followed
  refine ⟨_, coinSeen_followed payout window clear next (nextCoin_claims (coinSensed_claims p idle)),
    by simp [State.coinSensed], ?_, tube, others, followed⟩
  rw [(nextCoin_paysOn _).sensorActive, coinPaid_chg]
  rfl

/-! ## The end of the pulse (R90, R91) -/

theorem SameBooks.audit {s t : State} (h : SameBooks s t) : t.csh.audit = s.csh.audit := by
  unfold SameBooks at h
  rw [h]

theorem payFirst_books (p : Payout) (s : State) : SameBooks s (payFirst p s) := by
  unfold payFirst
  split
  · exact sameBooks_of_csh rfl
  · exact .trans (sameBooks_of_csh rfl) (endPayout_books _)

theorem replan_books (p : Payout) (s : State) : SameBooks s (replan p s) := by
  unfold replan
  split
  · exact payFirst_books _ s
  · exact endPayout_books s

theorem nextCoin_books (s : State) : SameBooks s (nextCoin s) := by
  unfold nextCoin
  split
  · split
    · split
      · exact replan_books _ s
      · exact sameBooks_of_csh rfl
    · exact endPayout_books s
  · exact .refl s

/-- R90: with no coin left in its plan a payout ends. -/
theorem nextCoin_ended {p : Payout} {s s0 : State} (stands : s.chg.payout = some p)
    (spent : ∀ k, p.plan = some k → ∀ u ∈ planTubes p.source.isService s.chg.tubes, tget k 0 u.tube = 0)
    (credit : s.csh.credit = s0.csh.credit) (slots : s.rpq.reserved = s0.rpq.reserved) :
    PayoutEnded p s0 (nextCoin s) := by
  have unplanned : nextPlanned p s = none := by
    unfold nextPlanned
    split
    case h_1 plan made => simpa using spent plan made
    case h_2 => rfl
  have ends : nextCoin s = endPayout s := by simp only [nextCoin, stands, unplanned]
  rw [ends]
  exact endPayout_ended stands credit slots

/-- Settles O40: the coin is taken from its tube and what follows it waits for the pulse's end. -/
theorem coinsSeenArePaid : Obligations.CoinsSeenArePaid := by
  refine ⟨fun p w s payout window less clear => ⟨fun b pulse idle => coinSeen_pulsing payout window less clear pulse idle,
    fun k pulse whole sound made idle => coinSeen_next payout window less clear pulse whole sound made idle, ?_⟩,
    fun p b s payout pulse => ?_⟩
  · rintro n rfl
    exact addToCoins_sum p.tube p.coins
  · rw [payoutPulseEnd_row payout pulse]
    set s1 := pulseOff p (s.upTo (b + ms 80)) with off
    have claims (idle : s.lds.claims = []) : (nextCoin s1).lds.claims = [] := nextCoin_claims (s := s1) idle
    have now : (nextCoin s1).now = max s.now (b + ms 80) := (nextCoin_frame s1).1
    have tubes : (nextCoin s1).chg.tubes = s.chg.tubes := (nextCoin_paysOn s1).tubes
    have audit : (nextCoin s1).csh.audit = s.csh.audit := (nextCoin_books s1).audit
    refine ⟨fun w window => ⟨s1, by rw [if_neg (by simp [window])], by constructor <;> simp [off, pulseOff], rfl, rfl, rfl⟩,
      fun window spent slot idle => ⟨nextCoin s1, by rw [if_pos window, evaluateClaims_nil (claims idle)], now, ?_⟩,
      fun window idle => ⟨nextCoin s1, by rw [if_pos window, evaluateClaims_nil (claims idle)], now, tubes, audit,
        nextCoin_followed (s := s1) rfl rfl rfl⟩⟩
    obtain ⟨gone, still, unit, result, service, refund⟩ :=
      nextCoin_ended (p := { p with pulse := none }) (s := s1) (s0 := s) rfl spent rfl rfl
    exact ⟨gone, still, unit, tubes, audit, result slot, service, refund⟩

/-! ## Tubes found empty or jammed (R92 to R94, R96) -/

/-- What a found tube leaves beside its entry: the payout as it stood, and nothing that a payout's end reads. -/
theorem tubeStored_kept {i : Nat} {x : Tube} {s : State} (less : i < 6) :
    TubeStored i x s (settleCash s (storeTube i x s)) ∧ (settleCash s (storeTube i x s)).chg.payout = s.chg.payout ∧
      (settleCash s (storeTube i x s)).csh.credit = s.csh.credit ∧
      (settleCash s (storeTube i x s)).rpq.reserved = s.rpq.reserved ∧
      (settleCash s (storeTube i x s)).lds.claims = s.lds.claims := by
  refine ⟨settleTube_stored x s less, by simp, by simp, ?_, by simp⟩
  rw [settleCash_reserved]
  exact storeTube_reserved ..

/-- What follows a found tube keeps its entry, the others and its report. -/
theorem tubeStored_after {i : Nat} {x : Tube} {s u : State} (stored : TubeStored i x s u) {t : State} (tubes : t.chg.tubes = u.chg.tubes)
    (retains : Retains u t) :
    tubeOf t i = x ∧ (∀ j, j ≠ i → tubeOf t j = tubeOf s j) ∧ (tubeOf t i ≠ tubeOf s i → Reported (.tube i) t) := by
  have same (j : Nat) : tubeOf t j = tubeOf u j := by simp only [tubeOf, tubes]
  refine ⟨(same i).trans stored.entry, fun j other => (same j).trans (stored.others j other), fun changed => ?_⟩
  rw [same, stored.entry] at changed
  exact retains.reported (stored.reported changed)

/-- R92: a window without a coin, the tube sound and the pulse whole. -/
theorem windowExpires {p : Payout} {w : Time} {s : State} (payout : s.chg.payout = some p) (less : p.tube < 6)
    (whole : p.cut = false) (sound : p.jammed = false) (window : p.window = some w) (idle : s.lds.claims = []) :
    ∃ t, exec .sensorWindowExpiry s = .next t ∧ t.now = max s.now (w + ms 400) ∧
      tubeOf t p.tube = { tubeOf s p.tube with count := 0, state := .empty } ∧
      (∀ j, j ≠ p.tube → tubeOf t j = tubeOf s j) ∧ (tubeOf t p.tube ≠ tubeOf s p.tube → Reported (.tube p.tube) t) ∧
      (p.form = .amount → Replanned p s t) ∧ (p.form ≠ .amount → PayoutEnded p s t) := by
  set s1 := s.windowEnded p w with ended
  set s2 := tubeEmpty p.tube s1 with emptied
  obtain ⟨stored, stands, credit, slots, claims⟩ :=
    tubeStored_kept (x := { tubeOf s1 p.tube with count := 0, state := .empty }) (s := s1) less
  have next : exec .sensorWindowExpiry s = .next (afterFailure s2) := by
    rw [sensorWindowExpiry_row payout window, if_neg (by simp [whole, sound]), evaluateClaims_nil]
    exact afterFailure_claims (claims.trans idle)
  obtain ⟨tube, others, reported⟩ := tubeStored_after stored (afterFailure_paysOn s2).tubes (afterFailure_retains s2)
  refine ⟨_, next, ?_, tube, others, reported, fun amount => ?_, fun form => ?_⟩
  · rw [(afterFailure_frame s2).1]
    exact stored.only.now.resolve_right (by simp [Block.cash])
  · exact afterFailure_amount (p := { p with pulse := none, window := none }) stands whole amount credit slots
  · exact afterFailure_ended (p := { p with pulse := none, window := none }) stands (.inr form) credit slots

/-- R93, R96: the window of a jammed tube or of a cut pulse leaves the tubes as they are. -/
theorem jammedWindowExpires {p : Payout} {w : Time} {s : State} (payout : s.chg.payout = some p)
    (spoiled : p.cut = true ∨ p.jammed = true) (window : p.window = some w) (idle : s.lds.claims = []) :
    ∃ t, exec .sensorWindowExpiry s = .next t ∧ t.now = max s.now (w + ms 400) ∧ t.chg.tubes = s.chg.tubes ∧
      (p.cut = false → p.form = .amount → Replanned p s t) ∧ (p.cut = true ∨ p.form ≠ .amount → PayoutEnded p s t) := by
  set s1 := s.windowEnded p w with ended
  have next : exec .sensorWindowExpiry s = .next (afterFailure s1) := by
    rw [sensorWindowExpiry_row payout window, if_pos spoiled, evaluateClaims_nil]
    exact afterFailure_claims (s := s1) idle
  refine ⟨_, next, (afterFailure_frame s1).1, (afterFailure_paysOn s1).tubes, fun whole amount => ?_, fun last => ?_⟩
  · exact afterFailure_amount (p := { p with pulse := none, window := none }) (s := s1) rfl whole amount rfl rfl
  · exact afterFailure_ended (p := { p with pulse := none, window := none }) (s := s1) rfl last rfl rfl

/-- R93: a jam found with the coin's window open. -/
theorem jamWithWindow {p : Payout} {w b : Time} {sample : Nat} {s : State} (payout : s.chg.payout = some p)
    (less : p.tube < 6) (window : p.window = some w) (pulse : p.pulse = some b) (jam : s.spd.jamThreshold < sample) :
    ∃ t, exec (.driveJam sample) s = .next t ∧ t.now = max s.now (b + ms 20) ∧ t.chg.drive = none ∧
      tubeOf t p.tube = { tubeOf s p.tube with state := .jammed } ∧ (∀ j, j ≠ p.tube → tubeOf t j = tubeOf s j) ∧
      t.chg.payout = some { p with pulse := none, jammed := true } ∧
      ChangesOnly [.now, .csh, .chg, .dlk, .rpq] s t ∧ SameAccount s t ∧ SameLink s t := by
  set s1 := pulseOff { p with jammed := true } (s.upTo (b + ms 20)) with off
  obtain ⟨stored, stands, -, -, -⟩ := tubeStored_kept (x := { tubeOf s1 p.tube with state := .jammed }) (s := s1) less
  have only : ChangesOnly [.now, .csh, .chg, .dlk, .rpq] s s1 := by constructor <;> simp [off, pulseOff]
  refine ⟨s.driveJammed p b, ?_, ?_, ?_, stored.entry, stored.others, stands, only.trans (stored.only.mono ?_),
    stored.account, stored.link⟩
  · rw [driveJam_row payout pulse jam, if_pos (by simp [window])]
  · exact stored.only.now.resolve_right (by simp [Block.cash])
  · simp [State.driveJammed, tubeJammed, pulseOff]
  · simp [Block.cash]

/-- R93: a jam found after the coin was seen. -/
theorem jamAfterCoin {p : Payout} {b : Time} {sample : Nat} {s : State} (payout : s.chg.payout = some p)
    (less : p.tube < 6) (whole : p.cut = false) (window : p.window = none) (pulse : p.pulse = some b)
    (jam : s.spd.jamThreshold < sample) (idle : s.lds.claims = []) :
    ∃ t, exec (.driveJam sample) s = .next t ∧ t.now = max s.now (b + ms 20) ∧
      tubeOf t p.tube = { tubeOf s p.tube with state := .jammed } ∧ (∀ j, j ≠ p.tube → tubeOf t j = tubeOf s j) ∧
      (tubeOf t p.tube ≠ tubeOf s p.tube → Reported (.tube p.tube) t) ∧
      (p.form = .amount → Replanned p s t) ∧ (p.form ≠ .amount → PayoutEnded p s t) := by
  set s1 := pulseOff { p with jammed := true } (s.upTo (b + ms 20)) with off
  set s2 := tubeJammed p.tube s1 with found
  obtain ⟨stored, stands, credit, slots, claims⟩ :=
    tubeStored_kept (x := { tubeOf s1 p.tube with state := .jammed }) (s := s1) less
  have next : exec (.driveJam sample) s = .next (afterFailure s2) := by
    rw [driveJam_row payout pulse jam, if_neg (by simp [window])]
    exact congrArg _ (evaluateClaims_nil (afterFailure_claims (s := s2) (claims.trans idle)))
  obtain ⟨tube, others, reported⟩ := tubeStored_after stored (afterFailure_paysOn s2).tubes (afterFailure_retains s2)
  refine ⟨_, next, ?_, tube, others, reported, fun amount => ?_, fun form => ?_⟩
  · rw [(afterFailure_frame s2).1]
    exact stored.only.now.resolve_right (by simp [Block.cash])
  · exact afterFailure_amount (p := { p with pulse := none, jammed := true }) stands whole amount credit slots
  · exact afterFailure_ended (p := { p with pulse := none, jammed := true }) stands (.inr form) credit slots

/-- R93, R96: a coin seen in the window of a jammed tube or of a cut pulse is paid, and the failure follows. -/
theorem coinSeen_spoiled {p : Payout} {w : Time} {s : State} (payout : s.chg.payout = some p) (less : p.tube < 6)
    (window : p.window = some w) (clear : s.chg.sensorActive = false) (pulse : p.pulse = none)
    (spoiled : p.cut = true ∨ p.jammed = true) (idle : s.lds.claims = []) :
    ∃ t, exec .payoutCoinSeen s = .next t ∧
      tubeOf t p.tube = { tubeOf s p.tube with count := (tubeOf s p.tube).count - 1 } ∧
      (∀ j, j ≠ p.tube → tubeOf t j = tubeOf s j) ∧
      (p.cut = false → p.form = .amount → Replanned (p.seen (tubeOf s p.tube).denom) s t) ∧
      (p.cut = true ∨ p.form ≠ .amount → PayoutEnded (p.seen (tubeOf s p.tube).denom) s t) := by
  set s1 := coinPaid p s.coinSensed with paid
  have stands : s1.chg.payout = some (p.seen (tubeOf s p.tube).denom) := by rw [paid, coinPaid_chg]; rfl
  have credit : s1.csh.credit = s.csh.credit := (coinPaid_account p s.coinSensed).1
  have slots : s1.rpq.reserved = s.rpq.reserved := coinPaid_reserved p s.coinSensed
  have next : afterCoin p s1 = afterFailure s1 := by
    simp only [afterCoin, pulse, Option.isSome_none, Bool.false_eq_true, if_false]
    by_cases cut : p.cut = true
    · simp only [if_pos cut, afterFailure, stands]
      exact (if_pos (.inl cut)).symm
    · rw [if_neg cut, if_pos (spoiled.resolve_left cut)]
  obtain ⟨tube, others⟩ := coinSensed_tubes p s less (afterFailure_paysOn s1).tubes
  refine ⟨_, coinSeen_followed payout window clear next (afterFailure_claims (coinSensed_claims p idle)), tube, others,
    fun whole amount => afterFailure_amount stands whole amount credit slots,
    fun last => afterFailure_ended stands last credit slots⟩

/-- Settles O41: each finding stores its tube, and the failure's replan or end follows. -/
theorem emptyAndJammedTubesAreFound : Obligations.EmptyAndJammedTubesAreFound := by
  intro p s payout less
  refine ⟨fun whole sound => ⟨fun w k window form idle slot => ?_, fun w window amount idle => ?_,
    fun w b sample window pulse jam => jamWithWindow payout less window pulse jam,
    fun b sample window pulse jam idle => jamAfterCoin payout less whole window pulse jam idle⟩,
    fun whole jammed idle => ⟨fun w window => ?_, fun w k window pulse made clear => ?_⟩,
    fun w cut window idle => ⟨?_, fun pulse clear => ?_⟩⟩
  · obtain ⟨t, row, now, tube, others, reported, -, ends⟩ := windowExpires payout less whole sound window idle
    obtain ⟨gone, still, unit, result, -, -⟩ := ends (by simp [form])
    exact ⟨t, row, now, tube, others, reported, gone, still, unit, result slot⟩
  · obtain ⟨t, row, now, tube, others, reported, replanned, -⟩ := windowExpires payout less whole sound window idle
    exact ⟨t, row, now, tube, others, reported, replanned amount⟩
  · obtain ⟨t, row, now, tubes, replanned, ends⟩ := jammedWindowExpires payout (.inr jammed) window idle
    exact ⟨t, row, now, tubes, replanned whole, fun form => ends (.inr form)⟩
  · obtain ⟨t, row, tube, others, replanned, ends⟩ := coinSeen_spoiled payout less window clear pulse (.inr jammed) idle
    have next := replanned whole
    simp only [Payout.seen, made, Option.map_some] at next
    exact ⟨t, row, tube, others, next, fun form => ends (.inr form)⟩
  · obtain ⟨t, row, now, tubes, -, ends⟩ := jammedWindowExpires payout (.inl cut) window idle
    exact ⟨t, row, now, tubes, ends (.inl cut)⟩
  · obtain ⟨t, row, tube, others, -, ends⟩ := coinSeen_spoiled payout less window clear pulse (.inl cut) idle
    exact ⟨t, row, tube, others, ends (.inl cut)⟩

end Sys2Proof.Machine
end

section
/-! SUPPORT. The plan that a payout stores (R90), and its grant. -/

namespace Sys2Proof.Machine

/-- The planner lists a tube once. -/
theorem planTubes_apart (service : Bool) (tubes : Vector Tube 6) :
    (planTubes service tubes).Pairwise fun a b => a.tube ≠ b.tube := by
  refine (planTubes_sorted service tubes).imp_of_mem fun {a b} ha hb leads same => ?_
  obtain ⟨i, -, rfl⟩ := (mem_planTubes_iff service tubes a).mp ha
  obtain ⟨j, -, rfl⟩ := (mem_planTubes_iff service tubes b).mp hb
  obtain rfl : i = j := Fin.ext same
  unfold PlanTube.Precedes at leads
  omega

/-- The counts of a plan written at their tubes. -/
def storeCounts (v : Vector Nat 6) (l : List (PlanTube × Nat)) : Vector Nat 6 :=
  l.foldl (fun v p => tset v p.1.tube p.2) v

theorem storeCounts_cons (v : Vector Nat 6) (u : PlanTube) (k : Nat) (l : List (PlanTube × Nat)) :
    storeCounts v ((u, k) :: l) = storeCounts (tset v u.tube k) l := rfl

theorem tget_storeCounts_other (l : List (PlanTube × Nat)) (v : Vector Nat 6) {j : Nat} (other : ∀ p ∈ l, p.1.tube ≠ j) :
    tget (storeCounts v l) 0 j = tget v 0 j := by
  induction l generalizing v with
  | nil => rfl
  | cons p l ih =>
    obtain ⟨u, k⟩ := p
    obtain ⟨first, rest⟩ := List.forall_mem_cons.mp other
    rw [storeCounts_cons, ih (tset v u.tube k) rest, tget_tset_ne _ _ _ (Ne.symm first)]

theorem tget_storeCounts (ts : List PlanTube) (ks : List Nat) (v : Vector Nat 6) (length : ks.length = ts.length)
    (apart : ts.Pairwise fun a b => a.tube ≠ b.tube) (less : ∀ u ∈ ts, u.tube < 6) {n : Nat} {u : PlanTube}
    (entry : ts[n]? = some u) : tget (storeCounts v (ts.zip ks)) 0 u.tube = ks.getD n 0 := by
  induction ts generalizing ks v n with
  | nil => simp at entry
  | cons t ts ih =>
    obtain _ | ⟨k, ks⟩ := ks
    · simp at length
    obtain ⟨first, rest⟩ := List.pairwise_cons.mp apart
    rw [List.zip_cons_cons, storeCounts_cons]
    cases n with
    | zero =>
      obtain rfl : t = u := by simpa using entry
      rw [tget_storeCounts_other _ _ fun p mem => (first p.1 (List.of_mem_zip mem).1).symm,
        tget_tset_same _ _ _ (less t List.mem_cons_self)]
      rfl
    | succ n =>
      rw [List.getD_cons_succ]
      exact ih ks _ (by simpa using length) rest (fun u mem => less u (List.mem_cons_of_mem t mem)) (by simpa using entry)

theorem tget_makePlan (service : Bool) (s : State) (amount cap : Nat) {n : Nat} {u : PlanTube}
    (entry : (planTubes service s.chg.tubes)[n]? = some u) :
    tget (makePlan service s.chg.tubes amount cap) 0 u.tube =
      (bestPlan (planTubes service s.chg.tubes) amount cap).getD n 0 :=
  tget_storeCounts _ _ _ (bestPlan_fits_best _ amount cap (planTubes_pos service s.chg.tubes)).1.length
    (planTubes_apart service s.chg.tubes) (fun _ mem => (planTube_avail mem).1) entry

/-- The state in which a granted payout begins: its claim gone, its unit held. -/
def State.payoutGranted (s : State) : State :=
  { withdrawClaim .payout s with lds := { (withdrawClaim .payout s).lds with payoutUnits := 1 } }

theorem grantClaim_payout {c : Claim} {p : Payout} {s : State} (kind : c.kind = .payout) (payout : s.chg.payout = some p) :
    grantClaim c s = payFirst { p with paying := true, plan := some (firstPlan p s) } s.payoutGranted := by
  simp only [grantClaim, kind, beginPaying, withdrawClaim_frame, payout]
  rfl

/-- R90, R91: a granted payout drives the first planned tube. -/
theorem grantClaim_driven {c : Claim} {p : Payout} {s : State} {u : PlanTube} (kind : c.kind = .payout)
    (payout : s.chg.payout = some p) (first : firstPlanned p (firstPlan p s) s = some u) :
    grantClaim c s = driveCoin u.tube { p with paying := true, plan := some (firstPlan p s) } s.payoutGranted := by
  rw [grantClaim_payout kind payout]
  exact payFirst_driven rfl first

/-- With one tube planned, that tube comes first. -/
theorem firstPlanned_of_unique {p : Payout} {plan : Vector Nat 6} {s : State} {k : Nat} (less : k < 6)
    (used : 0 < (tubeOf s k).denom) (unique : ∀ j, 0 < tget plan 0 j ↔ j = k) :
    ∃ u, firstPlanned p plan s = some u ∧ u.tube = k := by
  have entry : tubeOf s k = s.chg.tubes[k] := tget_of_lt _ _ less
  have listed : (⟨k, s.chg.tubes[k].denom, availability p.source.isService s.chg.tubes[k]⟩ : PlanTube) ∈
      planTubes p.source.isService s.chg.tubes :=
    (mem_planTubes_iff _ _ _).mpr ⟨⟨k, less⟩, by simpa [entry] using used, rfl⟩
  have some_ : (firstPlanned p plan s).isSome = true := by
    unfold firstPlanned
    rw [List.find?_isSome]
    exact ⟨_, listed, by simpa using (unique k).mpr rfl⟩
  obtain ⟨u, first⟩ := Option.isSome_iff_exists.mp some_
  exact ⟨u, first, (unique u.tube).mp (firstPlanned_mem first).2⟩

end Sys2Proof.Machine
end

section
/-! PROOF. Granted payouts (sections 4.4 and 4.5). -/

namespace Sys2Proof.Machine

/-- Settles O39: the grant makes the plan, and paying begins with the first planned tube or ends. -/
theorem grantedPayoutsMakeTheirPlan : Obligations.GrantedPayoutsMakeTheirPlan := by
  constructor
  · intro c p k n s payout kind form less used requested some_
    set plan := tset (Vector.replicate 6 0) k n with named
    have counts (j : Nat) : tget plan 0 j = if j = k then n else 0 := by
      rw [named, tget_tset, tget_replicate_same]
      simp [less]
    have planned : firstPlan p s = plan := by
      simp only [firstPlan, form, requested, Nat.mul_div_cancel _ used]
      rfl
    obtain ⟨u, first, tube⟩ := firstPlanned_of_unique (p := p) (plan := plan) (s := s) less used fun j => by
      rw [counts]
      split <;> simp_all
    have driven := grantClaim_driven kind payout (planned.symm ▸ first)
    rw [planned, tube] at driven
    show _ ∧ _ ∧ _ ∧ _
    rw [driven]
    exact ⟨rfl, rfl, by constructor <;> simp [driveCoin, State.payoutGranted], counts⟩
  · intro c p s payout kind form unpaid plan t tubes
    have planned : firstPlan p s = plan := by simp only [firstPlan, form]; rfl
    refine ⟨fun n u entry => tget_makePlan _ s _ _ entry, fun u first => ?_, fun spent => ?_⟩
    · have driven : t = _ := grantClaim_driven kind payout (planned.symm ▸ first)
      rw [planned] at driven
      rw [driven]
      exact ⟨rfl, rfl, rfl, rfl, by constructor <;> simp [driveCoin, State.payoutGranted]⟩
    · set q : Payout := { p with paying := true, plan := some plan } with begun
      have none_ : firstPlanned q plan s.payoutGranted = none := by
        unfold firstPlanned
        rw [List.find?_eq_none]
        intro u mem
        have zero := spent u mem
        simp [zero]
      have ends : t = endPayout { s.payoutGranted with chg := { s.payoutGranted.chg with payout := some q } } := by
        show grantClaim c s = _
        rw [grantClaim_payout kind payout, planned]
        exact payFirst_ended rfl none_
      obtain ⟨gone, still, unit, result, service, refund⟩ := endPayout_ended (p := q)
        (s := { s.payoutGranted with chg := { s.payoutGranted.chg with payout := some q } }) (s0 := s) rfl rfl rfl
      rw [← ends] at gone still unit result service refund
      simp only [begun, unpaid, Nat.sub_zero] at result service refund
      exact ⟨gone, still, unit, service, refund, result⟩

end Sys2Proof.Machine
end

section
/-! SUPPORT. Conversion between calibration points, rounding and the filter (R113, R117). -/

namespace Sys2Proof.Machine

/-- The last index with a property, as the bracketing pass finds it. -/
theorem foldl_last_eq (p : Nat → Prop) [DecidablePred p] {n m : Nat} (less : m < n) (holds : p m)
    (later : ∀ j, m < j → j < n → ¬p j) : (List.range n).foldl (fun b i => if p i then i else b) 0 = m := by
  induction n with
  | zero => omega
  | succ n ih =>
    rw [List.range_succ, List.foldl_append, List.foldl_cons, List.foldl_nil]
    obtain before | rfl := Nat.lt_succ_iff_lt_or_eq.mp less
    · rw [if_neg (later n before (by omega))]
      exact ih before fun j after within => later j after (by omega)
    · exact if_pos holds

/-- The raw values of a calibration table ascend (R113). -/
def RawAscends (pts : Vector (Nat × Int) 9) : Prop := ∀ i < 8, (tget pts (0, 0) i).1 < (tget pts (0, 0) (i + 1)).1

theorem RawAscends.mono {pts : Vector (Nat × Int) 9} (h : RawAscends pts) {i j : Nat} (le : i ≤ j) (within : j ≤ 8) :
    (tget pts (0, 0) i).1 ≤ (tget pts (0, 0) j).1 := by
  induction j, le using Nat.le_induction with
  | base => exact le_refl _
  | succ j _ ih => exact (ih (by omega)).trans (h j (by omega)).le

theorem bracketOf_eq {pts : Vector (Nat × Int) 9} (h : RawAscends pts) {raw i : Nat} (less : i < 8)
    (above : (tget pts (0, 0) i).1 ≤ raw) (below : i < 7 → raw < (tget pts (0, 0) (i + 1)).1) : bracketOf pts raw = i := by
  refine foldl_last_eq (fun j => (tget pts (0, 0) j).1 ≤ raw) less above fun j after within le => ?_
  have next : (tget pts (0, 0) (i + 1)).1 ≤ (tget pts (0, 0) j).1 := h.mono after (by omega)
  have gap := below (by omega)
  omega

theorem convert_between {pts : Vector (Nat × Int) 9} (h : RawAscends pts) {raw i : Nat} (less : i < 8)
    (above : (tget pts (0, 0) i).1 ≤ raw) (below : i < 7 → raw < (tget pts (0, 0) (i + 1)).1)
    (within : raw ≤ (tget pts (0, 0) 8).1) :
    convert pts raw = some (divNearest
      ((tget pts (0, 0) i).2 * ((tget pts (0, 0) (i + 1)).1 - (tget pts (0, 0) i).1) +
        (raw - (tget pts (0, 0) i).1) * ((tget pts (0, 0) (i + 1)).2 - (tget pts (0, 0) i).2))
      ((tget pts (0, 0) (i + 1)).1 - (tget pts (0, 0) i).1)) := by
  have first : (tget pts (0, 0) 0).1 ≤ (tget pts (0, 0) i).1 := h.mono (Nat.zero_le i) (by omega)
  rw [convert, if_neg (by omega), bracketOf_eq h less above below]

theorem divNearest_of_nonneg {a : Int} (nonneg : 0 ≤ a) {d : Int} (pos : 0 < d) : divNearest a d = (2 * a + d) / (2 * d) := by
  rw [divNearest, if_pos nonneg, Int.tdiv_eq_ediv_of_nonneg (by omega)]

theorem divNearest_neg (a d : Int) (pos : 0 < d) : divNearest (-a) d = -divNearest a d := by
  unfold divNearest
  obtain below | rfl | above := lt_trichotomy a 0
  · rw [if_pos (by omega), if_neg (by omega), ← Int.neg_tdiv]
    congr 1
    omega
  · have small : d.tdiv (2 * d) = 0 := Int.tdiv_eq_zero_of_lt pos.le (by omega)
    simp [small]
  · rw [if_neg (by omega), if_pos (by omega), ← Int.neg_tdiv]
    congr 1
    omega

theorem divNearest_bounds {a d : Int} (pos : 0 < d) (nonneg : 0 ≤ a) :
    2 * d * divNearest a d ≤ 2 * a + d ∧ 2 * a + d < 2 * d * (divNearest a d + 1) := by
  rw [divNearest_of_nonneg nonneg pos]
  refine ⟨Int.mul_ediv_self_le (by omega), ?_⟩
  rw [mul_add, mul_one]
  exact Int.lt_mul_ediv_self_add (by omega)

/-- A multiple of the divisor is divided exactly. -/
theorem divNearest_mul (q : Int) {d : Int} (pos : 0 < d) : divNearest (q * d) d = q := by
  have ofNonneg (q : Int) (nonneg : 0 ≤ q) : divNearest (q * d) d = q := by
    obtain ⟨low, high⟩ := divNearest_bounds pos (mul_nonneg nonneg pos.le)
    have upper : divNearest (q * d) d < q + 1 := by nlinarith
    have lower : q < divNearest (q * d) d + 1 := by nlinarith
    omega
  obtain nonneg | neg := le_total 0 q
  · exact ofNonneg q nonneg
  · have flipped := ofNonneg (-q) (by omega)
    rw [Int.neg_mul, divNearest_neg _ _ pos] at flipped
    omega

theorem filterStep_eq (tf t : Int) :
    (tf + 8 ≤ t → filterStep tf t = tf + (t - tf) / 8) ∧ (tf < t → t < tf + 8 → filterStep tf t = tf + 1) ∧
      (t = tf → filterStep tf t = tf) ∧ (t < tf → tf < t + 8 → filterStep tf t = tf - 1) ∧
      (t + 8 ≤ tf → filterStep tf t = tf - (tf - t) / 8) := by
  have rising (le : tf ≤ t) : (t - tf).tdiv 8 = (t - tf) / 8 := Int.tdiv_eq_ediv_of_nonneg (by omega)
  have falling (le : t ≤ tf) : (t - tf).tdiv 8 = -((tf - t) / 8) := by
    rw [← neg_sub tf t, Int.neg_tdiv, Int.tdiv_eq_ediv_of_nonneg (by omega)]
  unfold filterStep
  refine ⟨fun far => ?_, fun above near => ?_, fun same => ?_, fun below near => ?_, fun far => ?_⟩
  · simp only [rising (by omega)]
    rw [if_pos (by omega)]
  · simp only [rising above.le]
    rw [if_neg (by omega), if_pos above]
  · simp [same]
  · simp only [falling below.le]
    rw [if_neg (by omega), if_neg (by omega), if_pos below]
  · simp only [falling (by omega)]
    rw [if_pos (by omega)]
    omega

end Sys2Proof.Machine
end

section
/-! PROOF. Samples (sections 6.1 and 6.2). -/

namespace Sys2Proof.Machine

/-- Settles O45: the bracket is the interval the raw value lies in, and the rounding is that of the nearest quotient. -/
theorem samplesAreConvertedAndFiltered : Obligations.SamplesAreConvertedAndFiltered := by
  refine ⟨fun pts raw ascends => ⟨?_, fun last => ?_, fun i less above below => ?_⟩,
    fun a d pos => ⟨divNearest_neg a d pos, divNearest_bounds pos⟩, fun x => ⟨fun v => ?_, ?_⟩, filterStep_eq⟩
  · unfold convert
    split
    case isTrue outside => exact iff_of_true rfl outside
    case isFalse inside => exact iff_of_false (by simp) inside
  · have rises : (tget pts (0, 0) 7).1 < (tget pts (0, 0) 8).1 := ascends 7 (by omega)
    rw [convert_between ascends (i := 7) (by omega) (by omega) (fun early => absurd early (by omega)) last.le, last]
    have gap : 0 < ((tget pts (0, 0) (7 + 1)).1 : Int) - (tget pts (0, 0) 7).1 := by
      have next := ascends 7 (by omega)
      omega
    have line (a b c : Int) : a * c + c * (b - a) = b * c := by ring
    rw [line]
    exact congrArg some (divNearest_mul _ gap)
  · exact convert_between ascends less above (fun _ => below)
      (below.le.trans (RawAscends.mono ascends (show i + 1 ≤ 8 by omega) (le_refl 8)))
  · have run : (x.fault && decide (min 4 (x.inRun + 1) < 4)) = (x.fault && !decide (4 ≤ x.inRun + 1)) := by
      rw [← decide_not]
      congr 2
      rw [eq_iff_iff]
      omega
    simp only [Sensor.sampled, run]
  · have run : (x.fault || decide (min 4 (x.outRun + 1) = 4)) = (x.fault || decide (4 ≤ x.outRun + 1)) := by
      congr 2
      rw [eq_iff_iff]
      omega
    simp only [Sensor.sampled, run]

end Sys2Proof.Machine
end

section
/-! SUPPORT. Characters on the line and the tests of a frame (R150, R154). -/

namespace Sys2Proof.Machine

/-- One flipped element changes the parity of a count. -/
theorem countP_flip {l : List Nat} (once : l.Nodup) {i : Nat} (mem : i ∈ l) {p q : Nat → Bool} (flips : q i = !p i)
    (same : ∀ j, j ≠ i → q j = p j) : l.countP q % 2 = (l.countP p + 1) % 2 := by
  induction l with
  | nil => simp at mem
  | cons j l ih =>
    obtain ⟨apart, rest⟩ := List.nodup_cons.mp once
    rw [List.countP_cons, List.countP_cons]
    by_cases here : j = i
    · subst here
      have tail : l.countP q = l.countP p := by
        refine List.countP_congr fun k late => ?_
        rw [same k (by rintro rfl; exact apart late)]
      rw [tail, flips]
      cases p j
      · simp
      · simp
        omega
    · have tail := ih rest ((List.mem_cons.mp mem).resolve_left (Ne.symm here))
      rw [same j here]
      omega

/-- R150: a bit sampled wrong changes the parity. -/
theorem marks_flip (bits : BitVec 9) {i : Nat} (less : i < 9) :
    marks (bits ^^^ BitVec.twoPow 9 i) % 2 = (marks bits + 1) % 2 := by
  refine countP_flip List.nodup_range (List.mem_range.mpr less) ?_ fun j other => ?_
  · simp [less]
  · have apart : ¬i = j := fun same => other same.symm
    simp [apart]

/-- The parity bit stands above the data bits. -/
theorem lineBits_odd {b : Byte} (odd : marks (b.setWidth 9) % 2 = 1) :
    lineBits b = b.setWidth 9 ^^^ BitVec.twoPow 9 8 := by
  have parity : (0x100 : BitVec 9) = BitVec.twoPow 9 8 := by decide
  rw [lineBits, if_pos odd, parity]
  refine BitVec.eq_of_getLsbD_eq fun i less => ?_
  by_cases top : i = 8
  · subst top
    simp
  · have apart : ¬8 = i := fun same => top same.symm
    simp [apart]

theorem lineBits_even {b : Byte} (even : ¬marks (b.setWidth 9) % 2 = 1) : lineBits b = b.setWidth 9 := by
  rw [lineBits, if_neg even]
  simp

theorem marks_lineBits (b : Byte) : marks (lineBits b) % 2 = 0 := by
  by_cases odd : marks (b.setWidth 9) % 2 = 1
  · rw [lineBits_odd odd, marks_flip _ (by omega)]
    omega
  · rw [lineBits_even odd]
    omega

theorem setWidth_lineBits (b : Byte) : (lineBits b).setWidth 8 = b := by
  refine BitVec.eq_of_getLsbD_eq fun i less => ?_
  by_cases odd : marks (b.setWidth 9) % 2 = 1
  · have below : ¬8 = i := by omega
    rw [lineBits_odd odd]
    simp [less, below]
  · rw [lineBits_even odd]
    simp [less]

theorem charOfSamples_lineBits (b : Byte) (stopMark : Bool) :
    charOfSamples (lineBits b) stopMark = { byte := b, parityError := false, framingError := !stopMark } := by
  rw [charOfSamples, setWidth_lineBits, marks_lineBits]
  rfl

theorem charOfSamples_flip (b : Byte) (stopMark : Bool) {i : Nat} (less : i < 9) :
    (charOfSamples (lineBits b ^^^ BitVec.twoPow 9 i) stopMark).parityError = true := by
  have even := marks_lineBits b
  have flipped := marks_flip (lineBits b) less
  rw [charOfSamples, decide_eq_true_eq]
  omega

/-! ## Good frames (R154) -/

theorem frame_length (dest src kind : Byte) (payload : List Byte) : (frame dest src kind payload).length = payload.length + 5 := by
  simp [frame]

theorem frame_sum (dest src kind : Byte) (payload : List Byte) : (frame dest src kind payload).sum = 0 := by
  simp only [frame, checkOf, List.sum_append, List.sum_singleton]
  exact BitVec.add_right_neg _

/-- R154: the tests of a frame on its characters, none of them in error. -/
def frameOf (chars : List Byte) : Option (Byte × Byte × Byte × List Byte) :=
  match chars with
  | dest :: src :: kind :: len :: rest =>
    if len.toNat ≤ 48 ∧ chars.length = len.toNat + 5 ∧ chars.sum = 0 then some (dest, src, kind, rest.take len.toNat) else none
  | _ => none

theorem frameOf_eq_some_iff (chars : List Byte) (dest src kind : Byte) (payload : List Byte) :
    frameOf chars = some (dest, src, kind, payload) ↔ payload.length ≤ 48 ∧
      ∃ check, chars = dest :: src :: kind :: ch payload.length :: (payload ++ [check]) ∧ chars.sum = 0 := by
  constructor
  · intro good
    unfold frameOf at good
    split at good
    case h_1 d x k len rest =>
      split at good
      case isTrue tests =>
        obtain ⟨short, length, sum⟩ := tests
        simp only [Option.some.injEq, Prod.mk.injEq] at good
        obtain ⟨rfl, rfl, rfl, rfl⟩ := good
        have rest_length : rest.length = len.toNat + 1 := by simpa using length
        have kept : (rest.take len.toNat).length = len.toNat := by
          rw [List.length_take]
          omega
        obtain ⟨check, last⟩ : ∃ check, rest.drop len.toNat = [check] :=
          List.length_eq_one_iff.mp (by rw [List.length_drop]; omega)
        refine ⟨by omega, check, ?_, sum⟩
        rw [kept, ← last, List.take_append_drop, ch, BitVec.ofNat_toNat, BitVec.setWidth_eq]
      case isFalse => exact absurd good (by simp)
    case h_2 => exact absurd good (by simp)
  · rintro ⟨short, check, rfl, sum⟩
    have length : (ch payload.length).toNat = payload.length := ch_toNat (by omega)
    unfold frameOf
    simp only
    rw [length, if_pos ⟨short, by simp, sum⟩, List.take_left]

theorem goodFrame_eq (r : Receiver) (whole : r.count = r.buffer.length) :
    goodFrame r = if r.overrun = false ∧ ∀ c ∈ r.buffer, c.parityError = false ∧ c.framingError = false then
      frameOf (r.buffer.map (·.byte)) else none := by
  have count : r.count = (r.buffer.map (·.byte)).length := by rw [whole, List.length_map]
  unfold goodFrame
  rw [count]
  split
  case isTrue fault =>
    refine (if_neg ?_).symm
    rintro ⟨kept, clean⟩
    obtain over_ | error := fault
    · rw [kept] at over_
      exact absurd over_ (by decide)
    · obtain ⟨c, mem, bad⟩ := List.any_eq_true.mp error
      rw [(clean c mem).1, (clean c mem).2] at bad
      exact absurd bad (by decide)
  case isFalse clean =>
    obtain ⟨kept, sound⟩ := not_or.mp clean
    refine (if_pos ⟨by simpa using kept, fun c mem => ?_⟩).symm
    simpa [List.any_eq_true] using fun bad => sound (List.any_eq_true.mpr ⟨c, mem, bad⟩)

/-- The tests of a frame, as its characters show them. -/
theorem goodFrame_eq_some_iff {r : Receiver} (whole : r.count = r.buffer.length) (dest src kind : Byte) (payload : List Byte) :
    goodFrame r = some (dest, src, kind, payload) ↔
      r.overrun = false ∧ (∀ c ∈ r.buffer, c.parityError = false ∧ c.framingError = false) ∧ payload.length ≤ 48 ∧
        ∃ check, r.buffer.map (·.byte) = dest :: src :: kind :: ch payload.length :: (payload ++ [check]) ∧
          (r.buffer.map (·.byte)).sum = 0 := by
  rw [goodFrame_eq r whole, ← frameOf_eq_some_iff, ← and_assoc]
  split
  case isTrue clean => exact (and_iff_right clean).symm
  case isFalse fault => exact iff_of_false (by simp) fun clean => fault clean.1

/-- A frame laid out, sampled as it is sent. -/
def frameReceived (dest src kind : Byte) (payload : List Byte) : Receiver :=
  { Receiver.powerOn with
    line := .receiving
    buffer := (frame dest src kind payload).map fun b => charOfSamples (lineBits b) true
    count := payload.length + 5 }

theorem goodFrame_frameReceived (dest src kind : Byte) {payload : List Byte} (short : payload.length ≤ 48) :
    goodFrame (frameReceived dest src kind payload) = some (dest, src, kind, payload) := by
  have bytes : (frameReceived dest src kind payload).buffer.map (·.byte) = frame dest src kind payload := by
    simp only [frameReceived, charOfSamples_lineBits, List.map_map]
    exact List.map_id _
  refine (goodFrame_eq_some_iff (by simp [frameReceived, frame_length]) dest src kind payload).mpr
    ⟨rfl, fun c mem => ?_, short, checkOf (dest :: src :: kind :: ch payload.length :: payload), ?_, ?_⟩
  · obtain ⟨b, -, rfl⟩ := List.mem_map.mp mem
    rw [charOfSamples_lineBits]
    exact ⟨rfl, rfl⟩
  · rw [bytes]
    rfl
  · rw [bytes]
    exact frame_sum dest src kind payload

/-- R154: no frame of more than 53 characters is good. -/
theorem goodFrame_of_long {r : Receiver} (long : 53 < r.count) : goodFrame r = none := by
  unfold goodFrame
  split
  · rfl
  · split
    · exact if_neg (by omega)
    · rfl

end Sys2Proof.Machine
end

section
/-! PROOF. Characters and frames (chapter 8). -/

namespace Sys2Proof.Machine

/-- Settles O50: a flipped bit flips the parity, and a frame laid out passes its own tests. -/
theorem goodFramesAreTheFramesSent : Obligations.GoodFramesAreTheFramesSent :=
  ⟨fun dest src kind _ short => goodFrame_frameReceived dest src kind short,
    fun b stopMark => ⟨charOfSamples_lineBits b stopMark, fun _ less => charOfSamples_flip b stopMark less⟩,
    fun _ dest src kind payload whole => goodFrame_eq_some_iff whole dest src kind payload,
    fun _ long => goodFrame_of_long long⟩

end Sys2Proof.Machine
end

section
/-! SUPPORT. What the blocks other than DLK leave of the Downstream Link: everything but the own frames that wait and the deferred
polls, which a freed slot makes eligible (R167, R169). -/

namespace Sys2Proof.Machine

/-- No poll of `t` has moved, and none has become deferred. -/
def PollsKept (s t : State) : Prop :=
  ∀ j, (pollOf t j).nextDue = (pollOf s j).nextDue ∧ (pollOf t j).due = (pollOf s j).due ∧
    ((pollOf s j).deferred = false → (pollOf t j).deferred = false)

theorem pollsKept_of_polls {s t : State} (h : t.dlk.polls = s.dlk.polls) : PollsKept s t := by
  intro j
  simp only [pollOf, h]
  exact ⟨trivial, trivial, id⟩

theorem PollsKept.trans {s t u : State} (h : PollsKept s t) (k : PollsKept t u) : PollsKept s u := by
  intro j
  obtain ⟨next, due, fresh⟩ := h j
  obtain ⟨next', due', fresh'⟩ := k j
  exact ⟨next'.trans next, due'.trans due, fun plain => fresh' (fresh plain)⟩

theorem clearDeferred_pollsKept (s : State) : PollsKept s (clearDeferred s) := by
  intro j
  have poll : pollOf (clearDeferred s) j = { pollOf s j with deferred := false } :=
    tget_tmap (fun p : PollSlot => ({ p with deferred := false } : PollSlot)) s.dlk.polls ⟨0, false, false⟩ j
  rw [poll]
  exact ⟨rfl, rfl, fun _ => rfl⟩

/-- The Downstream Link of `t` is that of `s`, its own frames and its deferred polls apart. -/
structure LinkHeld (s t : State) : Prop where
  dlk : t.dlk = { s.dlk with own := t.dlk.own, polls := t.dlk.polls }
  polls : PollsKept s t

theorem LinkHeld.refl (s : State) : LinkHeld s s := ⟨rfl, pollsKept_of_polls rfl⟩

theorem LinkHeld.trans {s t u : State} (h : LinkHeld s t) (k : LinkHeld t u) : LinkHeld s u :=
  ⟨by rw [k.dlk, h.dlk], h.polls.trans k.polls⟩

theorem linkHeld_of_dlk {s t : State} (h : t.dlk = s.dlk) : LinkHeld s t := ⟨by rw [h], pollsKept_of_polls (by rw [h])⟩

theorem SameLink.held {s t : State} (h : SameLink s t) : LinkHeld s t := by
  unfold SameLink at h
  exact ⟨by rw [h], pollsKept_of_polls (by rw [h])⟩

/-- What an operation leaves of a state that differs from `s` outside DLK only. -/
theorem LinkHeld.from {s s' t : State} (h : LinkHeld s' t) (dlk : s'.dlk = s.dlk) : LinkHeld s t := (linkHeld_of_dlk dlk).trans h

theorem slotFreed_held (s : State) : LinkHeld s (slotFreed s) := by
  obtain ⟨-, e⟩ | ⟨-, k, ks, -, e⟩ | ⟨-, -, e⟩ | ⟨-, -, e⟩ := slotFreed_cases s <;> rw [e]
  · exact .refl s
  · exact linkHeld_of_dlk rfl
  · exact ⟨rfl, clearDeferred_pollsKept s⟩
  · exact .refl s

theorem releaseSlot_held (s : State) : LinkHeld s (releaseSlot s) := by
  obtain ⟨-, e⟩ | ⟨-, e⟩ := releaseSlot_cases s <;> rw [e]
  · exact (slotFreed_held _).from rfl
  · exact .refl s

theorem handFrame_held (role : Role) (k : OwnKind) (s : State) : LinkHeld s (handFrame role k s).1 :=
  (handFrame_sameLink role k s).held

theorem settleCash_held (before s : State) : LinkHeld s (settleCash before s) := (settleCash_sameLink before s).held

theorem cshRefresh_held (s : State) : LinkHeld s (cshRefresh s) := (cshRefresh_sameLink s).held

theorem evaluateClaims_held (s : State) : LinkHeld s (evaluateClaims s) := (evaluateClaims_grants s).link.held

theorem startCreditPayout_held (src : PayoutSource) (s : State) : LinkHeld s (startCreditPayout src s) :=
  (settleCash_held s _).from (by simp)

/-! ## The settlement of a vend -/

theorem settleSecondSlot_held (v : VendCtx) (s : State) : LinkHeld s (settleSecondSlot v s) := by
  unfold settleSecondSlot
  split
  · split
    · exact (startCreditPayout_held _ s).trans (evaluateClaims_held _)
    · exact releaseSlot_held s
  · exact .refl s

theorem resumeSweep_held (s : State) : LinkHeld s (resumeSweep s) := linkHeld_of_dlk (by simp)

theorem finishVend_held (informed : Bool) (s : State) : LinkHeld s (finishVend informed s) := by
  unfold finishVend
  split
  · dsimp only
    refine .trans ?_ (evaluateClaims_held _)
    refine .trans ?_ (resumeSweep_held _)
    have queued (ev : EventReport) : LinkHeld s (consumeSlot ev s) := linkHeld_of_dlk (by simp)
    exact ((queued _).trans (settleSecondSlot_held _ _)).trans (linkHeld_of_dlk rfl)
  · exact .refl s

theorem setSession_held (c : Crd) (s : State) : LinkHeld s (setSession c s) := linkHeld_of_dlk (by simp)

theorem sessionNone_held (s : State) : LinkHeld s (sessionNone s) := linkHeld_of_dlk (by simp)

theorem sessionEnds_held (s : State) : LinkHeld s (sessionEnds s) :=
  (handFrame_held .card .sessionEnd s).trans (sessionNone_held _)

theorem sessionOpens_held (s : State) : LinkHeld s (sessionOpens s) := by
  unfold sessionOpens
  split
  · exact setSession_held _ s
  · exact sessionEnds_held s

theorem resultEnds_held (acked : Bool) (s : State) : LinkHeld s (resultEnds acked s) := by
  unfold resultEnds
  split
  · next r _ =>
    dsimp only
    have finished : LinkHeld s (if r.vendLink = true then finishVend acked s else s) := by
      split
      · exact finishVend_held _ s
      · exact .refl s
    generalize (if r.vendLink = true then finishVend acked s else s) = s1 at finished ⊢
    split
    · exact finished.trans ((sessionNone_held _).from rfl)
    · exact finished.trans ((sessionOpens_held _).from rfl)
  · exact .refl s

theorem oweResult_held (r : ResultOwed) (s : State) : LinkHeld s (oweResult r s) := by
  have handed := (setSession_held { s.crd with state := .vending, deadline := none, owed := some r } s).trans
    (handFrame_held .card (.vendResult r.success r.price r.selection) _)
  unfold oweResult
  dsimp only
  split
  · next s2 e => rw [e] at handed; exact handed.trans (resultEnds_held _ _)
  · next s2 e => rw [e] at handed; exact handed

theorem requestResult_held (success : Bool) (v : VendCtx) (s : State) : LinkHeld s (requestResult success v s) := by
  unfold requestResult
  split
  · exact oweResult_held _ s
  · exact oweResult_held _ s
  · exact finishVend_held _ s
  · exact finishVend_held _ s

theorem releaseVend_held (s : State) : LinkHeld s (releaseVend s) := (evaluateClaims_held _).from rfl

theorem recordOutcome_held (o : VendOutcome) (jam : Bool) (v : VendCtx) (s : State) : LinkHeld s (recordOutcome o jam v s) :=
  linkHeld_of_dlk (by simp)

theorem settle_held (o : VendOutcome) (jam informed : Bool) (s : State) : LinkHeld s (settle o jam informed s) := by
  unfold settle
  split
  · next v _ =>
    have recorded : LinkHeld s (settleCash (releaseVend s) (recordOutcome o jam v (releaseVend s))) :=
      (releaseVend_held s).trans ((recordOutcome_held _ _ _ _).trans (settleCash_held _ _))
    dsimp only
    split
    · exact recorded.trans (requestResult_held _ _ _)
    · exact recorded.trans (finishVend_held _ _)
  · exact .refl s

/-! ## The card session and the bills -/

theorem denyVend_held (informed : Bool) (s : State) : LinkHeld s (denyVend informed s) := settle_held _ _ _ s

theorem requestEnds_held (acked : Bool) (s : State) : LinkHeld s (requestEnds acked s) := by
  unfold requestEnds
  split
  · exact (denyVend_held _ s).trans (sessionOpens_held _)
  · exact .refl s

theorem enterLoadWait_held (s : State) : LinkHeld s (enterLoadWait s) := by
  unfold enterLoadWait
  split
  · dsimp only
    split
    · exact linkHeld_of_dlk rfl
    · exact (evaluateClaims_held _).from rfl
  · exact .refl s

theorem sessionOpenEvent_held (funds : Option Nat) (s : State) : LinkHeld s (sessionOpenEvent funds s) := by
  unfold sessionOpenEvent
  split
  · split
    · exact setSession_held _ s
    · exact handFrame_held _ _ s
  · exact setSession_held _ s
  · exact setSession_held _ s
  · exact setSession_held _ s

theorem sessionCloseEvent_held (s : State) : LinkHeld s (sessionCloseEvent s) := by
  unfold sessionCloseEvent
  split
  · exact .refl s
  · exact sessionNone_held s
  · exact (denyVend_held _ s).trans (sessionNone_held _)
  · exact linkHeld_of_dlk rfl

theorem approvedEvent_held (amount : Nat) (s : State) : LinkHeld s (approvedEvent amount s) := by
  unfold approvedEvent
  split
  · split
    · exact (setSession_held _ s).trans (enterLoadWait_held _)
    · exact (denyVend_held _ s).trans (sessionOpens_held _)
  · exact oweResult_held _ s
  · exact .refl s

theorem deniedEvent_held (s : State) : LinkHeld s (deniedEvent s) := by
  unfold deniedEvent
  split
  · exact (denyVend_held _ s).trans (sessionOpens_held _)
  · exact .refl s

theorem readerLost_held (s : State) : LinkHeld s (readerLost s) := by
  unfold readerLost
  split
  · exact .refl s
  · exact sessionNone_held s
  · exact (denyVend_held _ s).trans (sessionNone_held _)
  · split
    · split
      · exact (finishVend_held _ s).trans (sessionNone_held _)
      · exact sessionNone_held s
    · exact sessionNone_held s

theorem dropEscrow_held (s : State) : LinkHeld s (dropEscrow s) := (settleCash_held s _).from rfl

theorem billEscrow_held (c : Nat) (s : State) : LinkHeld s (billEscrow c s) := by
  rw [billEscrow_eq]
  refine .trans ?_ (cshRefresh_held _)
  have handed : LinkHeld s (escrowHanded c s).1 := (handFrame_held _ _ _).from rfl
  split
  · exact handed.trans (linkHeld_of_dlk rfl)
  · exact handed

theorem billStacked_held (node c : Nat) (s : State) : LinkHeld s (billStacked node c s) := by
  unfold billStacked
  refine (settleCash_held s _).from ?_
  split
  · simp
  · simp [billAnomaly]

theorem takeEvent_held (node : Nat) (ev : PeripheralEvent) (s : State) : LinkHeld s (takeEvent node ev s) := by
  cases ev with
  | billEscrow c => exact billEscrow_held c s
  | billStacked c => exact billStacked_held node c s
  | billReturned => exact dropEscrow_held s
  | sessionOpen funds => exact sessionOpenEvent_held funds s
  | sessionClose => exact sessionCloseEvent_held s
  | approved amount => exact approvedEvent_held amount s
  | denied => exact deniedEvent_held s

/-! ## The owners of the frames -/

theorem ownFrameEnds_held (acked : Bool) (f : OwnFrame) (s : State) : LinkHeld s (ownFrameEnds acked f s) := by
  unfold ownFrameEnds
  split
  · exact .refl s
  · exact .refl s
  · split
    · exact dropEscrow_held s
    · exact .refl s
  · exact requestEnds_held _ s
  · exact resultEnds_held _ s

theorem ownFramesEnd_held (l : List OwnFrame) (s : State) :
    LinkHeld s (l.foldl (fun a f => ownFrameEnds false f a) s) := by
  induction l generalizing s with
  | nil => exact .refl s
  | cons f l ih => exact (ownFrameEnds_held _ f s).trans (ih _)

theorem dropOwnFrames_held (node : Nat) (s : State) : LinkHeld s (dropOwnFrames node s) :=
  LinkHeld.trans (t := { s with dlk := { s.dlk with own := s.dlk.own.filter fun f => f.node != node } })
    ⟨rfl, pollsKept_of_polls rfl⟩ (ownFramesEnd_held _ _)

theorem passLoss_held (bill card : Bool) (s : State) : LinkHeld s (passLoss bill card s) := by
  unfold passLoss
  have dropped : LinkHeld s (if bill = true then dropEscrow s else s) := by
    split
    · exact dropEscrow_held s
    · exact .refl s
  dsimp only
  generalize (if bill = true then dropEscrow s else s) = s1 at dropped ⊢
  split
  · exact dropped.trans (readerLost_held _)
  · exact dropped

end Sys2Proof.Machine
end

section
/-! SUPPORT. What the owners' ends and the reader's events retain of the reports (R193 to R196). -/

namespace Sys2Proof.Machine

theorem denyVend_retains (informed : Bool) (s : State) : Retains s (denyVend informed s) := settle_retains _ _ _ s

theorem requestEnds_retains (acked : Bool) (s : State) : Retains s (requestEnds acked s) := by
  unfold requestEnds
  split
  · exact (denyVend_retains _ s).trans (sessionOpens_retains _)
  · exact .refl s

theorem readerLost_retains (s : State) : Retains s (readerLost s) := by
  unfold readerLost
  split
  · exact .refl s
  · exact sessionNone_retains s
  · exact (denyVend_retains _ s).trans (sessionNone_retains _)
  · split
    · split
      · exact (finishVend_retains _ s).trans (sessionNone_retains _)
      · exact sessionNone_retains s
    · exact sessionNone_retains s

theorem dropEscrow_retains (s : State) : Retains s (dropEscrow s) := (settleCash_retains s _).from rfl rfl rfl

theorem sessionOpenEvent_retains (funds : Option Nat) (s : State) : Retains s (sessionOpenEvent funds s) := by
  unfold sessionOpenEvent
  split
  · split
    · exact setSession_retains _ s
    · exact handFrame_retains _ _ s
  · exact setSession_retains _ s
  · exact setSession_retains _ s
  · exact setSession_retains _ s

theorem sessionCloseEvent_retains (s : State) : Retains s (sessionCloseEvent s) := by
  unfold sessionCloseEvent
  split
  · exact .refl s
  · exact sessionNone_retains s
  · exact (denyVend_retains _ s).trans (sessionNone_retains _)
  · exact retains_same rfl rfl rfl

theorem approvedEvent_retains (amount : Nat) (s : State) : Retains s (approvedEvent amount s) := by
  unfold approvedEvent
  split
  · split
    · exact (setSession_retains _ s).trans (enterLoadWait_retains _)
    · exact (denyVend_retains _ s).trans (sessionOpens_retains _)
  · exact oweResult_retains _ s
  · exact .refl s

theorem deniedEvent_retains (s : State) : Retains s (deniedEvent s) := by
  unfold deniedEvent
  split
  · exact (denyVend_retains _ s).trans (sessionOpens_retains _)
  · exact .refl s

theorem billEscrow_retains (c : Nat) (s : State) : Retains s (billEscrow c s) := by
  rw [billEscrow_eq]
  refine .trans ?_ (cshRefresh_retains _)
  have handed : Retains s (escrowHanded c s).1 := (handFrame_retains _ _ _).from rfl rfl rfl
  split
  · exact handed.trans (retains_same rfl rfl rfl)
  · exact handed

theorem billAnomaly_retains (node c n : Nat) (s : State) : Retains s (billAnomaly node c n s) :=
  (report_retains _ _).from rfl rfl rfl

theorem billStacked_retains (node c : Nat) (s : State) : Retains s (billStacked node c s) := by
  unfold billStacked
  refine .trans ?_ (settleCash_retains s _)
  split
  · exact (reportIf_retains _ _ _).from rfl rfl rfl
  · refine .trans ?_ (billAnomaly_retains _ _ _ _)
    exact (reportIf_retains _ _ _).from rfl rfl rfl

theorem takeEvent_retains (node : Nat) (ev : PeripheralEvent) (s : State) : Retains s (takeEvent node ev s) := by
  cases ev with
  | billEscrow c => exact billEscrow_retains c s
  | billStacked c => exact billStacked_retains node c s
  | billReturned => exact dropEscrow_retains s
  | sessionOpen funds => exact sessionOpenEvent_retains funds s
  | sessionClose => exact sessionCloseEvent_retains s
  | approved amount => exact approvedEvent_retains amount s
  | denied => exact deniedEvent_retains s

theorem ownFrameEnds_retains (acked : Bool) (f : OwnFrame) (s : State) : Retains s (ownFrameEnds acked f s) := by
  unfold ownFrameEnds
  split
  · exact .refl s
  · exact .refl s
  · split
    · exact dropEscrow_retains s
    · exact .refl s
  · exact requestEnds_retains _ s
  · exact resultEnds_retains _ s

theorem ownFramesEnd_retain (l : List OwnFrame) (s : State) :
    Retains s (l.foldl (fun a f => ownFrameEnds false f a) s) := by
  induction l generalizing s with
  | nil => exact .refl s
  | cons f l ih => exact (ownFrameEnds_retains _ f s).trans (ih _)

theorem passLoss_retains (bill card : Bool) (s : State) : Retains s (passLoss bill card s) := by
  unfold passLoss
  have dropped : Retains s (if bill = true then dropEscrow s else s) := by
    split
    · exact dropEscrow_retains s
    · exact .refl s
  dsimp only
  generalize (if bill = true then dropEscrow s else s) = s1 at dropped ⊢
  split
  · exact dropped.trans (readerLost_retains _)
  · exact dropped

end Sys2Proof.Machine
end

section
/-! SUPPORT. The end of an exchange (R164): what it leaves of the line, of the routes and of the queue of transits. -/

namespace Sys2Proof.Machine

/-- The Downstream Link of `t` is that of `s`, its queues, its poll schedule and its routes apart. -/
def LineHeld (s t : State) : Prop :=
  t.dlk = { s.dlk with own := t.dlk.own, polls := t.dlk.polls, routes := t.dlk.routes, transits := t.dlk.transits }

theorem LineHeld.refl (s : State) : LineHeld s s := rfl

theorem LineHeld.trans {s t u : State} (h : LineHeld s t) (k : LineHeld t u) : LineHeld s u := by
  unfold LineHeld at h k ⊢
  rw [k, h]

theorem LinkHeld.line {s t : State} (h : LinkHeld s t) : LineHeld s t := by
  unfold LineHeld
  rw [h.dlk]

theorem LineHeld.exchange {s t : State} (h : LineHeld s t) : t.dlk.exchange = s.dlk.exchange := by
  unfold LineHeld at h
  rw [h]

theorem LineHeld.rx {s t : State} (h : LineHeld s t) : t.dlk.rx = s.dlk.rx := by
  unfold LineHeld at h
  rw [h]

theorem LineHeld.seg {s t : State} (h : LineHeld s t) : t.dlk.seg = s.dlk.seg := by
  unfold LineHeld at h
  rw [h]

theorem LineHeld.sending {s t : State} (h : LineHeld s t) : t.dlk.sending = s.dlk.sending := by
  unfold LineHeld at h
  rw [h]

theorem LinkHeld.routes {s t : State} (h : LinkHeld s t) : t.dlk.routes = s.dlk.routes := by
  rw [h.dlk]

theorem LinkHeld.transits {s t : State} (h : LinkHeld s t) : t.dlk.transits = s.dlk.transits := by
  rw [h.dlk]

theorem linkHeld_releasePollSlot (slot : Bool) (s : State) : LinkHeld s (releasePollSlot slot s) := by
  unfold releasePollSlot
  split
  · exact releaseSlot_held s
  · exact .refl s

theorem setRoute_line (i : Nat) (r : Route) (s : State) : LineHeld s (setRoute i r s) := rfl

theorem report_held (k : StateKey) (s : State) : LinkHeld s (report k s) := linkHeld_of_dlk (by simp)

theorem reportIf_held (c : Bool) (k : StateKey) (s : State) : LinkHeld s (reportIf c k s) := linkHeld_of_dlk (by simp)

theorem sendEnable_held (s : State) : LinkHeld s (sendEnable s) := (sendEnable_sameLink s).held

theorem consumeSlot_held (ev : EventReport) (s : State) : LinkHeld s (consumeSlot ev s) := linkHeld_of_dlk (by simp)

/-! ## Presence (R165) -/

theorem entryReplied_line (i : Nat) (r : Route) (s : State) : LineHeld s (entryReplied i r s) := by
  have stored := setRoute_line i { r with presence := .present, missed := 0 } s
  unfold entryReplied
  dsimp only
  split
  · exact stored
  · have told := stored.trans (report_held (.node r.base) _).line
    split
    · exact told.trans (sendEnable_held _).line
    · exact told

theorem entryLost_line (i : Nat) (r : Route) (s : State) : LineHeld s (entryLost i r s) := by
  unfold entryLost
  dsimp only
  refine .trans ?_ (dropOwnFrames_held _ _).line
  refine .trans ?_ (passLoss_held _ _ _).line
  exact (setRoute_line i { r with presence := .lost, missed := 3 } s).trans (report_held _ _).line

theorem entryMissed_line (i : Nat) (r : Route) (s : State) : LineHeld s (entryMissed i r s) := by
  unfold entryMissed
  split
  · split
    · exact setRoute_line _ _ s
    · exact entryLost_line i r s
  · exact .refl s

theorem updatePresence_line (replied : Bool) (dest : Nat) (s : State) : LineHeld s (updatePresence replied dest s) := by
  unfold updatePresence
  split
  · split
    · exact entryReplied_line _ _ s
    · exact entryMissed_line _ _ s
  · exact .refl s

/-! ## The effect of each kind -/

theorem removeTransit_line (tag : Nat) (s : State) : LineHeld s (removeTransit tag s) := rfl

theorem enableAcked_line (f : OwnFrame) (s : State) : LineHeld s (enableAcked f s) := by
  unfold enableAcked
  split
  · exact setRoute_line _ _ s
  · exact .refl s

theorem reportEvent_line (x : Exchange) (slot : Bool) (code : Byte) (params : List Byte) (s : State) :
    LineHeld s (reportEvent x slot code params s) := by
  unfold reportEvent
  split
  · exact (consumeSlot_held _ s).line
  · exact (setRoute_line _ _ s).trans (reportIf_held _ _ _).line

theorem pollReplied_line (x : Exchange) (slot : Bool) (kind : Byte) (payload : List Byte) (s : State) :
    LineHeld s (pollReplied x slot kind payload s) := by
  unfold pollReplied
  split
  · split
    · exact (linkHeld_releasePollSlot slot s).line
    · split
      · exact ((linkHeld_releasePollSlot slot s).trans (takeEvent_held _ _ _)).line
      · exact reportEvent_line _ _ _ _ s
  · exact (linkHeld_releasePollSlot slot s).line

theorem repliedByKind_line (x : Exchange) (src kind : Byte) (payload : List Byte) (s : State) :
    LineHeld s (repliedByKind x src kind payload s) := by
  unfold repliedByKind
  split
  · exact pollReplied_line _ _ _ _ s
  · split
    · exact (enableAcked_line _ s).trans (ownFrameEnds_held _ _ _).line
    · exact (ownFrameEnds_held _ _ s).line
  · exact (removeTransit_line _ s).trans (consumeSlot_held _ _).line

theorem unrepliedByKind_line (x : Exchange) (s : State) : LineHeld s (unrepliedByKind x s) := by
  unfold unrepliedByKind
  split
  · exact (linkHeld_releasePollSlot _ s).line
  · exact (ownFrameEnds_held _ _ s).line
  · exact (removeTransit_line _ s).trans (consumeSlot_held _ _).line

/-! ## The release that waits (R174) -/

theorem tryRelease_exchange (s : State) : (tryRelease s).dlk.exchange = s.dlk.exchange := by
  unfold tryRelease
  split <;> rfl

theorem tryRelease_rx (s : State) : (tryRelease s).dlk.rx = s.dlk.rx := by
  unfold tryRelease
  split <;> rfl

/-- What an exchange has done by its end, before a release that waits. -/
def missedEnd (x : Exchange) (s : State) : State := unrepliedByKind x (updatePresence false x.dest (clearExchange s))

theorem exchangeMissed_eq (x : Exchange) (s : State) : exchangeMissed x s = tryRelease (missedEnd x s) := rfl

theorem missedEnd_line (x : Exchange) (s : State) : LineHeld (clearExchange s) (missedEnd x s) :=
  (updatePresence_line _ _ _).trans (unrepliedByKind_line _ _)

/-- What a reply has done to an exchange, before a release that waits. -/
def repliedEnd (x : Exchange) (src kind : Byte) (payload : List Byte) (s : State) : State :=
  repliedByKind x src kind payload (updatePresence true x.dest (clearExchange s))

theorem exchangeReplied_eq (x : Exchange) (src kind : Byte) (payload : List Byte) (s : State) :
    exchangeReplied x src kind payload s = tryRelease (repliedEnd x src kind payload s) := rfl

theorem repliedEnd_line (x : Exchange) (src kind : Byte) (payload : List Byte) (s : State) :
    LineHeld (clearExchange s) (repliedEnd x src kind payload s) :=
  (updatePresence_line _ _ _).trans (repliedByKind_line _ _ _ _ _)

theorem exchangeMissed_exchange (x : Exchange) (s : State) : (exchangeMissed x s).dlk.exchange = none := by
  rw [exchangeMissed_eq, tryRelease_exchange, (missedEnd_line x s).exchange]
  rfl

theorem exchangeMissed_rx (x : Exchange) (s : State) : (exchangeMissed x s).dlk.rx = s.dlk.rx := by
  rw [exchangeMissed_eq, tryRelease_rx, (missedEnd_line x s).rx]
  rfl

theorem exchangeReplied_exchange (x : Exchange) (src kind : Byte) (payload : List Byte) (s : State) :
    (exchangeReplied x src kind payload s).dlk.exchange = none := by
  rw [exchangeReplied_eq, tryRelease_exchange, (repliedEnd_line ..).exchange]
  rfl

theorem exchangeReplied_rx (x : Exchange) (src kind : Byte) (payload : List Byte) (s : State) :
    (exchangeReplied x src kind payload s).dlk.rx = s.dlk.rx := by
  rw [exchangeReplied_eq, tryRelease_rx, (repliedEnd_line ..).rx]
  rfl

end Sys2Proof.Machine
end

section
/-! SUPPORT. Receivers: a character taken, a break and the end of a frame (R150 to R160). -/

namespace Sys2Proof.Machine

theorem rxOf_setRx (seg : Segment) (r : Receiver) (s : State) : rxOf seg (setRx seg r s) = r := by cases seg <;> rfl

theorem setRx_now (seg : Segment) (r : Receiver) (s : State) : (setRx seg r s).now = s.now := by cases seg <;> rfl

theorem setRx_upTo_only (seg : Segment) (r : Receiver) (due : Time) (s : State) :
    ChangesOnly [.now, if seg = .upstream then .ulk else .dlk] s (setRx seg r (s.upTo due)) := by
  cases seg <;> constructor <;> simp [setRx]

theorem setRx_only (seg : Segment) (r : Receiver) (s : State) :
    ChangesOnly [if seg = .upstream then .ulk else .dlk] s (setRx seg r s) := by
  cases seg <;> constructor <;> simp [setRx]

theorem rxDeaf_eq_false {seg : Segment} {s : State} (quiet : seg = .downstream → s.dlk.dde = false) : rxDeaf seg s = false := by
  cases seg with
  | upstream => rfl
  | downstream => exact quiet rfl

/-- The receiver's rate as a condition on its segment. -/
theorem rxFastRate_iff (seg : Segment) (s : State) : rxFastRate seg s = true ↔ seg = .upstream ∨ s.dlk.rxFast = true := by
  cases seg <;> simp [rxFastRate]

theorem sampleTicks_rxFastRate (seg : Segment) (s : State) :
    sampleTicks (rxFastRate seg s) = if seg = .upstream ∨ s.dlk.rxFast = true then 2 * 2083 + 208 else 2 * 4167 + 417 := by
  simp only [sampleTicks, rxFastRate_iff]

theorem stopTicks_rxFastRate (seg : Segment) (s : State) :
    stopTicks (rxFastRate seg s) = if seg = .upstream ∨ s.dlk.rxFast = true then 208 else 417 := by
  simp only [stopTicks, rxFastRate_iff]

theorem characterTaken_brk {seg : Segment} {s : State} (brk : (rxOf seg s).line = .brk) (bits : BitVec 9) (stopMark : Bool) :
    characterTaken seg bits stopMark s = s := if_pos (.inr brk)

/-- R150, R153: a character taken outside BREAK, with the clock at its stop sample. -/
theorem characterTaken_eq {seg : Segment} {s : State} (hears : rxDeaf seg s = false) (line : (rxOf seg s).line ≠ .brk)
    (bits : BitVec 9) (stopMark : Bool) :
    characterTaken seg bits stopMark s =
      setRx seg ((rxOf seg s).take (charOfSamples bits stopMark) (beginsOverrun seg s)
          (max s.now ((rxOf seg s).idleFrom + sampleTicks (rxFastRate seg s)) + stopTicks (rxFastRate seg s))
          (lastMark (rxFastRate seg s) bits stopMark (max s.now ((rxOf seg s).idleFrom + sampleTicks (rxFastRate seg s)))))
        (s.upTo ((rxOf seg s).idleFrom + sampleTicks (rxFastRate seg s))) := by
  rw [characterTaken, if_neg (by simp [hears, line])]
  cases seg <;> rfl

theorem beginsOverrun_eq (seg : Segment) (s : State) :
    beginsOverrun seg s = decide (seg = .upstream ∧ s.ulk.answerState ≠ .free) := by
  cases seg with
  | upstream => cases answer : s.ulk.answerState <;> simp [beginsOverrun, answer]
  | downstream => rfl

theorem lastMark_stop (fast : Bool) (bits : BitVec 9) {stopMark : Bool} (mark : stopMark = true) (now : Time) :
    lastMark fast bits stopMark now = now := if_pos mark

theorem breakTaken_upstream {s : State} (line : s.ulk.rx.line ≠ .brk) :
    breakTaken .upstream s = breakUpstream (setRx .upstream { s.ulk.rx with line := .brk, buffer := [], count := 0, overrun := false }
      (s.upTo (breakDue .upstream s))) := if_neg (by simp [rxDeaf, rxOf, line])

theorem breakTaken_downstream {s : State} (quiet : s.dlk.dde = false) (line : s.dlk.rx.line ≠ .brk) :
    breakTaken .downstream s =
      breakDownstream (setRx .downstream { s.dlk.rx with line := .brk, buffer := [], count := 0, overrun := false }
        (s.upTo (breakDue .downstream s))) := if_neg (by simp [rxDeaf, rxOf, line, quiet])

theorem breakDownstream_frame (s : State) :
    (breakDownstream s).now = s.now ∧ (breakDownstream s).ulk = s.ulk ∧ (breakDownstream s).dlk.rx = s.dlk.rx := by
  unfold breakDownstream
  split
  · exact ⟨rfl, rfl, rfl⟩
  · split
    · exact ⟨by simp, by simp, exchangeMissed_rx _ s⟩
    · exact ⟨rfl, rfl, rfl⟩

end Sys2Proof.Machine
end

section
/-! PROOF. Receivers (chapter 8). -/

namespace Sys2Proof.Machine

/-- Settles O48: the receiver's four line states, and the break's ends on both segments. -/
theorem receiversTakeCharactersAndBreaks : Obligations.ReceiversTakeCharactersAndBreaks := by
  constructor
  · intro seg data parityMark stopMark s quiet fast c r
    refine ⟨characterTaken seg (sampledBits data parityMark) stopMark s, rfl, ?_, ?_⟩
    · by_cases brk : (rxOf seg s).line = .brk
      · rw [characterTaken_brk brk]
        exact .refl _ s
      · rw [characterTaken_eq (rxDeaf_eq_false quiet) brk]
        exact setRx_upTo_only ..
    · cases line : r.line with
      | brk => exact characterTaken_brk line _ _
      | waitIdle =>
        simp only [characterTaken_eq (rxDeaf_eq_false quiet) (show r.line ≠ .brk by rw [line]; decide), setRx_now, rxOf_setRx,
          sampleTicks_rxFastRate, stopTicks_rxFastRate, Receiver.take, show (rxOf seg s).line = .waitIdle from line]
        exact ⟨rfl, rfl, fun mark => lastMark_stop _ _ mark _, rfl, rfl, rfl, rfl⟩
      | ready =>
        simp only [characterTaken_eq (rxDeaf_eq_false quiet) (show r.line ≠ .brk by rw [line]; decide), setRx_now, rxOf_setRx,
          sampleTicks_rxFastRate, stopTicks_rxFastRate, Receiver.take, show (rxOf seg s).line = .ready from line]
        exact ⟨rfl, rfl, fun mark => lastMark_stop _ _ mark _, beginsOverrun_eq seg s, rfl, trivial, rfl⟩
      | receiving =>
        simp only [characterTaken_eq (rxDeaf_eq_false quiet) (show r.line ≠ .brk by rw [line]; decide), setRx_now, rxOf_setRx,
          sampleTicks_rxFastRate, stopTicks_rxFastRate, Receiver.take, show (rxOf seg s).line = .receiving from line]
        exact ⟨rfl, rfl, fun mark => lastMark_stop _ _ mark _, rfl, rfl, rfl, rfl⟩
  · intro seg s quiet r
    refine ⟨fun line => ?_, fun brk => ?_⟩
    · cases seg with
      | upstream =>
        set s1 := setRx .upstream { s.ulk.rx with line := .brk, buffer := [], count := 0, overrun := false }
          (s.upTo (breakDue .upstream s)) with broken
        have taken : breakTaken .upstream s = breakUpstream s1 := breakTaken_upstream line
        have only : ChangesOnly [.now, .ulk] s s1 := setRx_upTo_only .upstream _ _ s
        refine ⟨breakTaken .upstream s, rfl, ?_⟩
        rw [taken]
        unfold breakUpstream
        split
        case isTrue turnaround =>
          exact ⟨rfl, rfl, rfl, fun _ => ⟨only.trans (by constructor <;> simp), fun _ => ⟨rfl, rfl⟩,
            fun other => absurd turnaround other⟩, nofun⟩
        case isFalse other =>
          exact ⟨rfl, rfl, rfl, fun _ => ⟨only, fun turnaround => absurd turnaround other, fun _ => ⟨rfl, rfl⟩⟩, nofun⟩
      | downstream =>
        set s1 := setRx .downstream { s.dlk.rx with line := .brk, buffer := [], count := 0, overrun := false }
          (s.upTo (breakDue .downstream s)) with broken
        have taken : breakTaken .downstream s = breakDownstream s1 := breakTaken_downstream (quiet rfl) line
        have only : ChangesOnly [.now, .dlk] s s1 := setRx_upTo_only .downstream _ _ s
        obtain ⟨now, ulk, rx⟩ := breakDownstream_frame s1
        refine ⟨breakTaken .downstream s, rfl, ?_⟩
        rw [taken]
        have received : rxOf .downstream (breakDownstream s1) = s1.dlk.rx := rx
        rw [received]
        refine ⟨now, rfl, rfl, nofun, fun _ => ⟨ulk, fun x since awaits owned => ?_, fun alone => ?_⟩⟩
        · have awaiting : awaitingExchange s1 = some (x, since) := awaits
          have ends : breakDownstream s1 = exchangeMissed x s1 := by
            rw [breakDownstream, if_neg (show ¬s1.dlk.seg = .released from owned)]
            simp only [awaiting]
          rw [ends]
          exact exchangeMissed_exchange x s1
        · have stays : breakDownstream s1 = s1 := by
            unfold breakDownstream
            split
            · rfl
            · next owned =>
              have idle : awaitingExchange s1 = none := alone.resolve_right owned
              simp only [idle]
          rw [stays]
          exact ⟨only, rfl⟩
    · refine ⟨breakEnds seg s, rfl, ?_⟩
      rw [breakEnds, if_pos brk, rxOf_setRx]
      exact ⟨rfl, rfl, rfl, setRx_only ..⟩

end Sys2Proof.Machine
end

section
/-! PROOF. The end of a frame (R153, R154, R156). -/

namespace Sys2Proof.Machine

theorem frameEnds_waitIdle {seg : Segment} {s : State} (line : (rxOf seg s).line = .waitIdle) :
    frameEnds seg s = setRx seg (.readyAt (max s.now ((rxOf seg s).idleFrom + bitTimes (rxFastRate seg s) 12)))
      (s.upTo ((rxOf seg s).idleFrom + bitTimes (rxFastRate seg s) 12)) := by
  simp only [frameEnds, line]
  rfl

theorem frameEnds_upstream {s : State} (line : s.ulk.rx.line = .receiving) :
    frameEnds .upstream s =
      endUpstream s.ulk.rx (setRx .upstream (.readyAt (max s.now (s.ulk.rx.idleFrom + bitTimes true 12)))
        (s.upTo (s.ulk.rx.idleFrom + bitTimes true 12))) := by
  simp only [frameEnds, rxOf, line]
  rfl

theorem frameEnds_downstream {s : State} (line : s.dlk.rx.line = .receiving) :
    frameEnds .downstream s =
      endDownstream (goodFrame s.dlk.rx) (setRx .downstream (.readyAt (max s.now (s.dlk.rx.idleFrom + bitTimes s.dlk.rxFast 12)))
        (s.upTo (s.dlk.rx.idleFrom + bitTimes s.dlk.rxFast 12))) := by
  simp only [frameEnds, rxOf, line]
  rfl

/-- A timeout that has not passed leaves the exchange waiting at the end of a frame. -/
theorem lateExpiry_waits {s : State} (waits : ∀ x since, awaitingExchange s = some (x, since) → x.expired = false) :
    lateExpiry s = s := by
  unfold lateExpiry
  split
  · next x since awaits => exact if_neg (by simp [waits x since awaits])
  · rfl

/-- R154: a frame on D that is not good, or goes elsewhere, leaves the exchange waiting. -/
theorem endDownstream_ignored {good : Option (Byte × Byte × Byte × List Byte)} {s : State}
    (elsewhere : ∀ src kind payload, good ≠ some (ownNode s, src, kind, payload))
    (waits : ∀ x since, awaitingExchange s = some (x, since) → x.expired = false) : endDownstream good s = s := by
  unfold endDownstream
  split
  · rfl
  · split
    · next dest src kind payload =>
      have other : ¬dest = ownNode s := by
        rintro rfl
        exact elsewhere src kind payload rfl
      rw [if_neg other, lateExpiry_waits waits]
    · exact lateExpiry_waits waits

/-- Settles O49: by the receiver's line state and the frame it holds. -/
theorem twelveBitTimesOfMarkEndAFrame : Obligations.TwelveBitTimesOfMarkEndAFrame := by
  intro s
  refine ⟨fun seg line => ⟨frameEnds seg s, rfl, ?_⟩, fun line => ?_, fun line => ⟨fun src kind payload good => ?_,
    fun elsewhere waits => ?_⟩⟩
  · rw [frameEnds_waitIdle line, setRx_now, rxOf_setRx]
    exact ⟨rfl, rfl, rfl, setRx_upTo_only ..⟩
  · intro e u
    show Host.Outcome.next (frameEnds .upstream s) = _
    rw [frameEnds_upstream line]
    unfold endUpstream
    cases good : goodFrame s.ulk.rx with
    | none => rfl
    | some frame => rfl
  · show Host.Outcome.next (frameEnds .downstream s) = _
    rw [frameEnds_downstream line, good]
    rfl
  · show Host.Outcome.next (frameEnds .downstream s) = _
    rw [frameEnds_downstream line]
    exact congrArg Host.Outcome.next (endDownstream_ignored elsewhere waits)

end Sys2Proof.Machine
end

section
/-! SUPPORT. Entries found by their address or by their role (R161), and the owners that have nothing to act on. -/

namespace Sys2Proof.Machine

/-- An entry found in a table stands there. -/
theorem tget_of_find {α : Type} {n : Nat} {v : Vector α n} {d : α} {p : α × Nat → Bool} {e : α × Nat}
    (found : v.toList.zipIdx.find? p = some e) : e.2 < n ∧ tget v d e.2 = e.1 ∧ p e = true := by
  obtain ⟨x, i⟩ := e
  have stands := List.mem_zipIdx_iff_getElem?.mp (List.mem_of_find?_eq_some found)
  obtain ⟨less, entry⟩ := List.getElem?_eq_some_iff.mp stands
  have within : i < n := by simpa using less
  refine ⟨within, ?_, List.find?_some found⟩
  rw [tget_of_lt v d within]
  simpa using entry

theorem coveringEntry_spec {s : State} {addr i : Nat} {r : Route} (covered : coveringEntry s addr = some (i, r)) :
    i < 8 ∧ routeOf s i = r ∧ r.covers addr = true := by
  obtain ⟨e, found, same⟩ := Option.map_eq_some_iff.mp covered
  obtain ⟨rfl, rfl⟩ := Prod.mk.inj same
  exact tget_of_find found

theorem entryOf_spec {s : State} {role : Role} {i : Nat} {r : Route} (entry : entryOf role s = some (i, r)) :
    i < 8 ∧ routeOf s i = r ∧ r.inUse = true ∧ r.role = role := by
  obtain ⟨e, found, same⟩ := Option.map_eq_some_iff.mp entry
  obtain ⟨rfl, rfl⟩ := Prod.mk.inj same
  obtain ⟨less, stands, holds⟩ := tget_of_find (d := Route.powerOn) found
  rw [Bool.and_eq_true, beq_iff_eq] at holds
  exact ⟨less, stands, holds⟩

/-- What makes an entry that of a role. -/
def Route.post (r : Route) : Bool × Role := (r.inUse, r.role)

/-- The entry of a role depends on the uses and the roles of the entries alone. -/
theorem entryOf_index (role : Role) (s : State) :
    (entryOf role s).map (·.1) =
      ((s.dlk.routes.toList.map Route.post).zipIdx.find? fun p => p.1.1 && p.1.2 == role).map (·.2) := by
  rw [entryOf, Option.map_map, List.zipIdx_map, List.find?_map, Option.map_map]
  rfl

theorem entryOf_index_congr {s t : State} (role : Role)
    (posts : t.dlk.routes.toList.map Route.post = s.dlk.routes.toList.map Route.post) :
    (entryOf role t).map (·.1) = (entryOf role s).map (·.1) := by
  rw [entryOf_index, entryOf_index, posts]

theorem map_toList_tset {α β : Type} {n : Nat} (f : α → β) (v : Vector α n) (d : α) {i : Nat} {x : α}
    (same : f x = f (tget v d i)) : (tset v i x).toList.map f = v.toList.map f := by
  refine List.ext_getElem (by simp) fun j less _ => ?_
  have within : j < n := by simpa using less
  simp only [List.getElem_map, Vector.getElem_toList]
  rw [← tget_of_lt (tset v i x) d within, ← tget_of_lt v d within, tget_tset]
  split
  · next here => rw [same, here.1]
  · rfl

/-- An entry stored with the use and the role it had. -/
theorem posts_setRoute {s : State} {i : Nat} {r : Route} (same : r.post = (routeOf s i).post) :
    (setRoute i r s).dlk.routes.toList.map Route.post = s.dlk.routes.toList.map Route.post :=
  map_toList_tset Route.post s.dlk.routes Route.powerOn same

theorem routeOf_setRoute {i : Nat} (less : i < 8) (r : Route) (s : State) : routeOf (setRoute i r s) i = r :=
  tget_tset_same _ _ _ less

theorem routeOf_setRoute_ne {i j : Nat} (other : j ≠ i) (r : Route) (s : State) :
    routeOf (setRoute i r s) j = routeOf s j := tget_tset_ne _ _ _ other

theorem routeOf_congr {s t : State} (routes : t.dlk.routes = s.dlk.routes) (i : Nat) : routeOf t i = routeOf s i := by
  simp only [routeOf, routes]

/-! ## Owners with nothing to act on (R67, R101, R107) -/

/-- No escrow record, no approval and no result stands that the end of an own frame could act on. -/
structure OwnersIdle (s : State) : Prop where
  escrow : s.csh.escrow = none
  owed : s.crd.owed = none
  state : s.crd.state ≠ .approvalWait

theorem ownFrameEnds_idle {s : State} (idle : OwnersIdle s) (f : OwnFrame) : ownFrameEnds false f s = s := by
  unfold ownFrameEnds
  split
  · rfl
  · rfl
  · simp [idle.escrow]
  · exact if_neg fun waits => idle.state waits.1
  · simp only [resultEnds, idle.owed]

theorem ownFramesEnd_idle {s : State} (idle : OwnersIdle s) (l : List OwnFrame) :
    l.foldl (fun a f => ownFrameEnds false f a) s = s := by
  induction l with
  | nil => rfl
  | cons f l ih => rw [List.foldl_cons, ownFrameEnds_idle idle, ih]

theorem dropOwnFrames_idle {s : State} (idle : OwnersIdle s) (node : Nat) :
    dropOwnFrames node s = { s with dlk := { s.dlk with own := s.dlk.own.filter fun f => f.node != node } } :=
  ownFramesEnd_idle (s := { s with dlk := { s.dlk with own := s.dlk.own.filter fun f => f.node != node } })
    ⟨idle.escrow, idle.owed, idle.state⟩ _

theorem dropEscrow_none {s : State} (none_ : s.csh.escrow = none) : dropEscrow s = s := by
  have same : { s with csh := { s.csh with escrow := none } } = s := by rw [← none_]
  rw [dropEscrow, same, settleCash_self]

/-- The loss of a node, with no escrow record and no vend before the reader. -/
theorem passLoss_idle {s : State} (escrow : s.csh.escrow = none) (owed : s.crd.owed = none)
    (session : s.crd.state = .none ∨ s.crd.state = .opened) (bill card : Bool) :
    (passLoss bill card s).dlk = s.dlk ∧ OwnersIdle (passLoss bill card s) := by
  have dropped : (if bill = true then dropEscrow s else s) = s := by
    split
    · exact dropEscrow_none escrow
    · rfl
  have still : OwnersIdle s := ⟨escrow, owed, by obtain e | e := session <;> rw [e] <;> decide⟩
  unfold passLoss
  simp only [dropped]
  split
  · unfold readerLost
    obtain none_ | opened := session
    · simp only [none_]
      exact ⟨trivial, still⟩
    · simp only [opened]
      exact ⟨by simp, by simpa using escrow, by simp [sessionNone, setSession], by simp [sessionNone, setSession]⟩
  · exact ⟨rfl, still⟩

/-! ## No BILL entry: no ENABLE is handed (R69) -/

/-- Without a BILL entry the own frames stand as they were. -/
def OwnStill (s t : State) : Prop :=
  entryOf .bill s = none → t.dlk.own = s.dlk.own ∧ t.dlk.routes = s.dlk.routes

theorem OwnStill.refl (s : State) : OwnStill s s := fun _ => ⟨rfl, rfl⟩

theorem OwnStill.trans {s t u : State} (h : OwnStill s t) (k : OwnStill t u) : OwnStill s u := by
  intro none_
  obtain ⟨own, routes⟩ := h none_
  obtain ⟨own', routes'⟩ := k (by simpa only [entryOf, routes] using none_)
  exact ⟨own'.trans own, routes'.trans routes⟩

theorem ownStill_of_dlk {s t : State} (h : t.dlk = s.dlk) : OwnStill s t := fun _ => by rw [h]; exact ⟨rfl, rfl⟩

theorem OwnStill.from {s s' t : State} (h : OwnStill s' t) (dlk : s'.dlk = s.dlk) : OwnStill s t := (ownStill_of_dlk dlk).trans h

theorem sendEnable_ownStill (s : State) : OwnStill s (sendEnable s) := by
  intro none_
  simp only [sendEnable, none_]
  exact ⟨trivial, trivial⟩

theorem cshRefresh_ownStill (s : State) : OwnStill s (cshRefresh s) := by
  unfold cshRefresh
  exact (sendEnable_ownStill _).from (by simp)

theorem settleCash_ownStill (before s : State) : OwnStill s (settleCash before s) := by
  obtain ⟨-, e⟩ | ⟨-, e⟩ := settleCash_cases before s <;> rw [e]
  · exact .refl s
  · exact cshRefresh_ownStill s

theorem endPayout_ownStill (s : State) : OwnStill s (endPayout s) := by
  unfold endPayout endPayoutWith
  split
  · refine .trans ?_ (ownStill_of_dlk (by simp only [consumeSlot_frame]; rfl))
    refine (settleCash_ownStill s _).from ?_
    split <;> simp
  · exact .refl s

theorem beginPaying_ownStill (s : State) : OwnStill s (beginPaying s) := by
  unfold beginPaying
  split
  · unfold payFirst
    split
    · exact ownStill_of_dlk rfl
    · exact (endPayout_ownStill _).from rfl
  · exact .refl s

theorem grantClaim_ownStill (c : Claim) (s : State) : OwnStill s (grantClaim c s) := by
  unfold grantClaim
  dsimp only
  split
  · exact ownStill_of_dlk (by simp)
  · exact (beginPaying_ownStill _).from rfl
  · exact ownStill_of_dlk (by simp)
  · exact ownStill_of_dlk (by simp)

theorem evaluateClaims_ownStill (s : State) : OwnStill s (evaluateClaims s) :=
  evaluateClaims_induct (P := OwnStill s) (.refl s) fun _ c _ h => h.trans (grantClaim_ownStill c _)

theorem settleSecondSlot_ownStill (v : VendCtx) (s : State) : OwnStill s (settleSecondSlot v s) := by
  unfold settleSecondSlot
  split
  · split
    · exact ((settleCash_ownStill s _).from (by simp)).trans (evaluateClaims_ownStill _)
    · refine fun _ => ⟨?_, (releaseSlot_held s).routes⟩
      obtain ⟨-, e⟩ | ⟨-, e⟩ := releaseSlot_cases s
      · rw [e]
        obtain ⟨-, f⟩ | ⟨-, k, ks, -, f⟩ | ⟨-, -, f⟩ | ⟨-, -, f⟩ :=
          slotFreed_cases { s with rpq := { s.rpq with reserved := s.rpq.reserved - 1 } } <;> rw [f]
        rfl
      · rw [e]
  · exact .refl s

theorem finishVend_ownStill (informed : Bool) (s : State) : OwnStill s (finishVend informed s) := by
  unfold finishVend
  split
  · dsimp only
    refine .trans ?_ (evaluateClaims_ownStill _)
    have resumed (u : State) : OwnStill u (resumeSweep u) := ownStill_of_dlk (by simp)
    refine .trans ?_ (resumed _)
    exact (settleSecondSlot_ownStill _ _).from (by simp)
  · exact .refl s

theorem denyVend_ownStill (informed : Bool) (s : State) : OwnStill s (denyVend informed s) := by
  unfold denyVend settle
  split
  · next v _ =>
    dsimp only
    rw [if_neg (by simp)]
    refine .trans ?_ (finishVend_ownStill _ _)
    refine .trans ?_ (settleCash_ownStill _ _)
    have recorded (u : State) : OwnStill u (recordOutcome .denied false v u) := ownStill_of_dlk (by simp)
    refine .trans ?_ (recorded _)
    exact (evaluateClaims_ownStill _).from rfl
  · exact .refl s

theorem readerLost_ownStill (s : State) : OwnStill s (readerLost s) := by
  have ended (u : State) : OwnStill u (sessionNone u) := ownStill_of_dlk (by simp)
  unfold readerLost
  split
  · exact .refl s
  · exact ended s
  · exact (denyVend_ownStill _ s).trans (ended _)
  · split
    · split
      · exact (finishVend_ownStill _ s).trans (ended _)
      · exact ended s
    · exact ended s

end Sys2Proof.Machine
end

section
/-! SUPPORT. A missed exchange (R164, R165): presence, and what the exchange's owner is told. -/

namespace Sys2Proof.Machine

theorem tryRelease_routes (s : State) : (tryRelease s).dlk.routes = s.dlk.routes := by
  unfold tryRelease
  split <;> rfl

theorem tryRelease_own (s : State) : (tryRelease s).dlk.own = s.dlk.own := by
  unfold tryRelease
  split <;> rfl

theorem tryRelease_transits (s : State) : (tryRelease s).dlk.transits = s.dlk.transits := by
  unfold tryRelease
  split <;> rfl

theorem tryRelease_rpq (s : State) : (tryRelease s).rpq = s.rpq := by simp

theorem tryRelease_owned {s : State} (owned : s.dlk.seg ≠ .releasePending) : tryRelease s = s := if_neg fun h => owned h.1

theorem unrepliedByKind_routes (x : Exchange) (s : State) : (unrepliedByKind x s).dlk.routes = s.dlk.routes := by
  unfold unrepliedByKind
  split
  · exact (linkHeld_releasePollSlot _ s).routes
  · exact (ownFrameEnds_held _ _ s).routes
  · exact (consumeSlot_held _ _).routes

theorem releasePollSlot_retains (slot : Bool) (s : State) : Retains s (releasePollSlot slot s) := by
  unfold releasePollSlot
  split
  · exact releaseSlot_retains s
  · exact .refl s

theorem unrepliedByKind_retains (x : Exchange) (s : State) : Retains s (unrepliedByKind x s) := by
  unfold unrepliedByKind
  split
  · exact releasePollSlot_retains _ s
  · exact ownFrameEnds_retains _ _ s
  · exact (consumeSlot_retains _ _).from rfl rfl rfl

theorem tryRelease_reported {k : StateKey} {s : State} (h : Reported k s) : Reported k (tryRelease s) := h.of_rpq (by simp)

/-- R194: an event takes its slot. -/
theorem consumeSlot_of_slot {ev : EventReport} {s : State} (slot : 0 < s.rpq.reserved) :
    consumeSlot ev s =
      { s with rpq := { s.rpq with queue := s.rpq.queue ++ [.event ev], reserved := s.rpq.reserved - 1 } } := if_pos slot

/-- The routes at the end of a missed exchange are those that its presence left. -/
theorem exchangeMissed_routeOf (x : Exchange) (s : State) (i : Nat) :
    routeOf (exchangeMissed x s) i = routeOf (updatePresence false x.dest (clearExchange s)) i :=
  routeOf_congr ((tryRelease_routes _).trans (unrepliedByKind_routes x _)) i

theorem updatePresence_covered {s : State} {dest i : Nat} {r : Route} (covered : coveringEntry s dest = some (i, r)) :
    updatePresence false dest (clearExchange s) = entryMissed i r (clearExchange s) := by
  have same : coveringEntry (clearExchange s) dest = some (i, r) := covered
  simp only [updatePresence, same]
  rfl

theorem entryLost_routes (i : Nat) (r : Route) (s : State) :
    (entryLost i r s).dlk.routes = tset s.dlk.routes i { r with presence := .lost, missed := 3 } := by
  unfold entryLost
  dsimp only
  rw [(dropOwnFrames_held _ _).routes, (passLoss_held _ _ _).routes, (report_held _ _).routes]
  rfl

theorem entryLost_reported (i : Nat) (r : Route) (s : State) : Reported (.node r.base) (entryLost i r s) := by
  unfold entryLost
  dsimp only
  refine (ownFramesEnd_retain _ _).reported ?_
  exact ((passLoss_retains _ _ _).reported (report_reported _ _)).of_rpq rfl

theorem entryLost_own {i : Nat} {r : Route} {s : State} (session : s.crd.state = .none ∨ s.crd.state = .opened)
    (owed : s.crd.owed = none) (escrow : s.csh.escrow = none) :
    (entryLost i r s).dlk.own = s.dlk.own.filter (fun f => f.node != r.base) ∧ OwnersIdle (entryLost i r s) := by
  set s1 := report (.node r.base) (setRoute i { r with presence := .lost, missed := 3 } s) with told
  have csh : s1.csh = s.csh := by simp [told, setRoute]
  have crd : s1.crd = s.crd := by simp [told, setRoute]
  have own : s1.dlk.own = s.dlk.own := by simp [told, setRoute]
  obtain ⟨dlk, idle⟩ := passLoss_idle (s := s1) (csh ▸ escrow) (crd ▸ owed) (crd ▸ session)
    (isEntryOf .bill s1 i) (isEntryOf .card s1 i)
  have lost : entryLost i r s = dropOwnFrames r.base (passLoss (isEntryOf .bill s1 i) (isEntryOf .card s1 i) s1) := rfl
  rw [lost, dropOwnFrames_idle idle]
  refine ⟨?_, idle.escrow, idle.owed, idle.state⟩
  show List.filter _ _ = _
  rw [dlk, own]

theorem unrepliedByKind_own {x : Exchange} {s : State} (idle : OwnersIdle s) : (unrepliedByKind x s).dlk.own = s.dlk.own := by
  unfold unrepliedByKind
  split
  · unfold releasePollSlot
    split
    · obtain ⟨-, e⟩ | ⟨-, e⟩ := releaseSlot_cases s
      · rw [e]
        obtain ⟨-, f⟩ | ⟨-, k, ks, -, f⟩ | ⟨-, -, f⟩ | ⟨-, -, f⟩ :=
          slotFreed_cases { s with rpq := { s.rpq with reserved := s.rpq.reserved - 1 } } <;> rw [f]
        rfl
      · rw [e]
    · rfl
  · rw [ownFrameEnds_idle idle]
  · simp [removeTransit]

/-- R109, R165: the loss of the CARD node, with no BILL entry and nothing queued. -/
theorem entryLost_reader {i : Nat} {r : Route} {s : State} (card : entryOf .card s = some (i, r))
    (noBill : entryOf .bill s = none) (own : s.dlk.own = []) :
    ∃ u, ChangesOnly [.dlk, .rpq] s u ∧ u.dlk.seg = s.dlk.seg ∧ entryLost i r s = readerLost u := by
  obtain ⟨less, stands, -, -⟩ := entryOf_spec card
  set s1 := report (.node r.base) (setRoute i { r with presence := .lost, missed := 3 } s) with told
  have routes : s1.dlk.routes = (setRoute i { r with presence := .lost, missed := 3 } s).dlk.routes := by simp [told]
  have posts : s1.dlk.routes.toList.map Route.post = s.dlk.routes.toList.map Route.post := by
    rw [routes]
    exact posts_setRoute (by rw [stands]; rfl)
  have noBill' : entryOf .bill s1 = none := by
    have index := entryOf_index_congr .bill posts
    rw [noBill] at index
    simpa using index
  have bill : isEntryOf .bill s1 i = false := by simp [isEntryOf, noBill']
  have reader : isEntryOf .card s1 i = true := by
    rw [isEntryOf_iff, entryOf_index_congr .card posts, card]
    rfl
  have lost : entryLost i r s = dropOwnFrames r.base (readerLost s1) := by
    show dropOwnFrames r.base (passLoss (isEntryOf .bill s1 i) (isEntryOf .card s1 i) s1) = _
    rw [bill, reader]
    rfl
  have empty : (readerLost s1).dlk.own = [] := by
    rw [(readerLost_ownStill s1 noBill').1]
    simpa [told, setRoute] using own
  refine ⟨s1, by constructor <;> simp [told, setRoute], by simp [told, setRoute], ?_⟩
  rw [lost, dropOwnFrames, empty]
  have same : { readerLost s1 with dlk := { (readerLost s1).dlk with own := [] } } = readerLost s1 := by rw [← empty]
  exact same

end Sys2Proof.Machine
end

section
/-! PROOF. Missed exchanges (R164, R165). -/

namespace Sys2Proof.Machine

theorem entryMissed_few {i : Nat} {r : Route} (few : r.presence ≠ .present ∨ r.missed < 2) (s : State) :
    entryMissed i r s = s ∨ entryMissed i r s = setRoute i { r with missed := r.missed + 1 } s := by
  unfold entryMissed
  split
  · next present => exact .inr (if_pos (by have := few.resolve_left (not_not_intro present); omega))
  · exact .inl rfl

/-- With no entry lost, a miss changes DLK alone. -/
theorem updatePresence_few {s : State} {dest : Nat}
    (few : ∀ i r, coveringEntry s dest = some (i, r) → r.presence ≠ .present ∨ r.missed < 2) :
    ∃ routes, updatePresence false dest (clearExchange s) =
      { s with dlk := { s.dlk with exchange := none, routes := routes } } := by
  cases covered : coveringEntry s dest with
  | none =>
    have none_ : coveringEntry (clearExchange s) dest = none := covered
    exact ⟨s.dlk.routes, by simp only [updatePresence, none_]; rfl⟩
  | some e =>
    obtain ⟨i, r⟩ := e
    rw [updatePresence_covered covered]
    obtain same | missed := entryMissed_few (i := i) (few i r covered) (clearExchange s)
    · exact ⟨s.dlk.routes, same⟩
    · exact ⟨_, missed⟩

/-- Settles O54: the presence by the missed count, then the owner of the exchange. -/
theorem timeoutsEndTheExchangeMissed : Obligations.TimeoutsEndTheExchangeMissed := by
  intro x since s awaits fresh
  set s1 := s.upTo (since + ms x.timeout) with timed
  have row : execResponseTimeout s = if s.dlk.rx.line = .receiving then
      .next { s1 with dlk := { s1.dlk with exchange := some { x with expired := true } } } else .next (exchangeMissed x s1) := by
    simp only [execResponseTimeout, awaits, fresh, Bool.false_eq_true, if_false]
    rfl
  refine ⟨fun receiving => ⟨_, row.trans (if_pos receiving), rfl, rfl, by constructor <;> simp [timed]⟩, fun quiet =>
    ⟨_, row.trans (if_neg quiet), by simp [timed], exchangeMissed_exchange x s1, fun i r covered => ?_, fun f kind owned few => ?_,
      fun tag kind slot few => ?_⟩⟩
  · obtain ⟨less, stands, -⟩ := coveringEntry_spec covered
    have covered' : coveringEntry s1 x.dest = some (i, r) := covered
    rw [exchangeMissed_routeOf, updatePresence_covered covered']
    have before : routeOf (clearExchange s1) i = r := stands
    refine ⟨fun absent => ?_, fun present few => ?_, fun present third => ?_⟩
    · rw [entryMissed, if_neg absent, before]
      exact ⟨rfl, rfl⟩
    · rw [entryMissed, if_pos present, if_pos (by omega), routeOf_setRoute less]
      exact ⟨present, rfl⟩
    · have gone : entryMissed i r (clearExchange s1) = entryLost i r (clearExchange s1) := by
        rw [entryMissed, if_pos present, if_neg (by omega)]
      have ends : exchangeMissed x s1 = tryRelease (unrepliedByKind x (entryLost i r (clearExchange s1))) := by
        rw [exchangeMissed_eq, missedEnd, updatePresence_covered covered', gone]
      have entry : routeOf (entryLost i r (clearExchange s1)) i = { r with presence := .lost, missed := 3 } := by
        rw [routeOf, entryLost_routes]
        exact tget_tset_same _ _ _ less
      rw [gone, entry, ends]
      refine ⟨rfl, rfl, tryRelease_reported ((unrepliedByKind_retains x _).reported (entryLost_reported i r _)),
        fun session owed escrow => ?_, fun card noBill own kind owned => ?_⟩
      · obtain ⟨filtered, idle⟩ := entryLost_own (i := i) (r := r) (s := clearExchange s1) session owed escrow
        rw [tryRelease_own, unrepliedByKind_own idle, filtered]
        rfl
      · obtain ⟨u, only, seg, lost⟩ := entryLost_reader (s := clearExchange s1) card noBill own
        have told : unrepliedByKind x (entryLost i r (clearExchange s1)) = readerLost u := by
          simp only [unrepliedByKind, kind, releasePollSlot, lost, Bool.false_eq_true, if_false]
        rw [told, tryRelease_owned]
        · refine ⟨u, .trans (t := clearExchange s1) (by constructor <;> simp [timed, clearExchange]) (only.mono (by simp)), rfl⟩
        · rw [(readerLost_held u).line.seg, seg]
          show s.dlk.seg ≠ .releasePending
          rw [owned]
          decide
  · obtain ⟨routes, after⟩ := updatePresence_few (s := s1) (dest := x.dest) few
    have ends : missedEnd x s1 = ownFrameEnds false f { s1 with dlk := { s1.dlk with exchange := none, routes := routes } } := by
      simp only [missedEnd, after, unrepliedByKind, kind]
    refine ⟨{ s1 with dlk := { s1.dlk with exchange := none, routes := routes } }, by constructor <;> simp [timed], ?_⟩
    rw [exchangeMissed_eq, ends, tryRelease_owned]
    rw [(ownFrameEnds_held _ _ _).line.seg]
    show s.dlk.seg ≠ .releasePending
    rw [owned]
    decide
  · obtain ⟨routes, after⟩ := updatePresence_few (s := s1) (dest := x.dest) few
    have ends : missedEnd x s1 = consumeSlot (.transitLost tag)
        (removeTransit tag { s1 with dlk := { s1.dlk with exchange := none, routes := routes } }) := by
      simp only [missedEnd, after, unrepliedByKind, kind]
    rw [exchangeMissed_eq, ends, tryRelease_transits, tryRelease_rpq]
    refine ⟨?_, ?_⟩
    · rw [consumeSlot_of_slot]
      · rfl
      · exact slot
    · rw [(consumeSlot_held _ _).transits]
      rfl

end Sys2Proof.Machine
end

section
/-! SUPPORT. A replied exchange (R164, R165, R168, R170, R172): the presence that it sets, and the events of the polls. -/

namespace Sys2Proof.Machine

theorem map_toList_congr {α β : Type} {n : Nat} (f : α → β) {v w : Vector α n} (d : α)
    (same : ∀ j < n, f (tget w d j) = f (tget v d j)) : w.toList.map f = v.toList.map f := by
  refine List.ext_getElem (by simp) fun j less _ => ?_
  have within : j < n := by simpa using less
  simp only [List.getElem_map, Vector.getElem_toList]
  rw [← tget_of_lt w d within, ← tget_of_lt v d within]
  exact same j within

/-- A route entry with what an exchange's reply sets taken out. -/
def Route.settings (r : Route) : Route := { r with presence := .absent, missed := 0 }

/-- What the presence of a replied exchange leaves: every entry's settings, the line, the queue of transits and the slots. -/
structure PresenceTaken (s v : State) : Prop where
  only : ChangesOnly [.dlk, .rpq] s v
  line : LineHeld s v
  transits : v.dlk.transits = s.dlk.transits
  reserved : v.rpq.reserved = s.rpq.reserved
  routes : ∀ j, (routeOf v j).settings = (routeOf s j).settings

theorem PresenceTaken.post {s v : State} (h : PresenceTaken s v) (j : Nat) : (routeOf v j).post = (routeOf s j).post := by
  have same := h.routes j
  have uses : (routeOf v j).settings.inUse = (routeOf s j).settings.inUse := by rw [same]
  have roles : (routeOf v j).settings.role = (routeOf s j).settings.role := by rw [same]
  exact Prod.ext uses roles

theorem PresenceTaken.index {s v : State} (h : PresenceTaken s v) (role : Role) :
    (entryOf role v).map (·.1) = (entryOf role s).map (·.1) :=
  entryOf_index_congr role (map_toList_congr Route.post Route.powerOn fun j _ => h.post j)

theorem settings_setRoute {i : Nat} {r : Route} {s : State} (same : r.settings = (routeOf s i).settings) (j : Nat) :
    (routeOf (setRoute i r s) j).settings = (routeOf s j).settings := by
  show (tget (tset s.dlk.routes i r) Route.powerOn j).settings = _
  rw [tget_tset]
  split
  · next here => rw [same, here.1]
  · rfl

theorem PresenceTaken.refl (s : State) : PresenceTaken s s := ⟨.refl _ s, .refl s, rfl, rfl, fun _ => rfl⟩

theorem PresenceTaken.trans {s t u : State} (h : PresenceTaken s t) (k : PresenceTaken t u) : PresenceTaken s u :=
  ⟨h.only.trans k.only, h.line.trans k.line, k.transits.trans h.transits, k.reserved.trans h.reserved,
    fun j => (k.routes j).trans (h.routes j)⟩

theorem report_presenceTaken (k : StateKey) (s : State) : PresenceTaken s (report k s) :=
  ⟨by constructor <;> simp, (report_held k s).line, by simp, (report_rpq k s).1, fun _ => by simp [routeOf]⟩

theorem sendEnable_presenceTaken (s : State) : PresenceTaken s (sendEnable s) :=
  ⟨by constructor <;> simp, (sendEnable_held s).line, (sendEnable_held s).transits, by simp,
    fun _ => by rw [routeOf_congr (sendEnable_held s).routes]⟩

/-- The presence stored, before what its change leads to. -/
theorem setRoute_presenceTaken {i : Nat} {r : Route} {s : State} (same : r.settings = (routeOf s i).settings) :
    PresenceTaken s (setRoute i r s) :=
  ⟨by constructor <;> simp [setRoute], setRoute_line i r s, rfl, rfl, settings_setRoute same⟩

theorem entryReplied_presenceTaken {i : Nat} {r : Route} {s : State} (stands : routeOf s i = r) :
    PresenceTaken s (entryReplied i r s) := by
  have stored : PresenceTaken s (setRoute i { r with presence := .present, missed := 0 } s) :=
    setRoute_presenceTaken (by rw [stands]; rfl)
  unfold entryReplied
  dsimp only
  split
  · exact stored
  · have told := stored.trans (report_presenceTaken (.node r.base) _)
    split
    · exact told.trans (sendEnable_presenceTaken _)
    · exact told

/-- R165: the entry of a replied exchange is PRESENT with no miss, and its change is reported. -/
theorem entryReplied_present {i : Nat} (less : i < 8) (r : Route) (s : State) :
    routeOf (entryReplied i r s) i = { r with presence := .present, missed := 0 } ∧
      (r.presence ≠ .present → Reported (.node r.base) (entryReplied i r s)) := by
  set s1 := setRoute i { r with presence := .present, missed := 0 } s with stored
  have entry : routeOf s1 i = { r with presence := .present, missed := 0 } := routeOf_setRoute less _ s
  have told : routeOf (report (.node r.base) s1) i = routeOf s1 i := routeOf_congr (report_held _ s1).routes i
  unfold entryReplied
  dsimp only
  split
  · next present => exact ⟨entry, fun absent => absurd present absent⟩
  · split
    · refine ⟨?_, fun _ => (sendEnable_retains _).reported (report_reported _ _)⟩
      rw [routeOf_congr (sendEnable_held _).routes, told, entry]
    · exact ⟨told.trans entry, fun _ => report_reported _ _⟩

theorem updatePresence_presenceTaken (dest : Nat) (s : State) : PresenceTaken s (updatePresence true dest s) := by
  unfold updatePresence
  split
  · next i r covered => exact entryReplied_presenceTaken (coveringEntry_spec covered).2.1
  · exact .refl s

theorem updatePresence_present {s : State} {dest i : Nat} {r : Route} (covered : coveringEntry s dest = some (i, r)) :
    (routeOf (updatePresence true dest s) i).presence = .present ∧ (routeOf (updatePresence true dest s) i).missed = 0 ∧
      (r.presence ≠ .present → Reported (.node r.base) (updatePresence true dest s)) := by
  have next : updatePresence true dest s = entryReplied i r s := by simp only [updatePresence, covered]; rfl
  obtain ⟨entry, told⟩ := entryReplied_present (coveringEntry_spec covered).1 r s
  rw [next, entry]
  exact ⟨rfl, rfl, told⟩

/-! ## The events of a poll (R168, R192) -/

theorem billEventOf_eq_some_iff (code : Byte) (params : List Byte) (ev : PeripheralEvent) :
    billEventOf code params = some ev ↔ ∃ c, params = [c] ∧ (code = 1 ∧ ev = .billEscrow c.toNat ∨
      code = 2 ∧ ev = .billStacked c.toNat ∨ code = 3 ∧ ev = .billReturned) := by
  constructor
  · intro taken
    unfold billEventOf at taken
    split at taken
    · next c =>
      refine ⟨c, rfl, ?_⟩
      split at taken
      · next h => exact .inl ⟨h, (Option.some.inj taken).symm⟩
      · split at taken
        · next h => exact .inr (.inl ⟨h, (Option.some.inj taken).symm⟩)
        · split at taken
          · next h => exact .inr (.inr ⟨h, (Option.some.inj taken).symm⟩)
          · exact absurd taken (by simp)
    · exact absurd taken (by simp)
  · rintro ⟨c, rfl, (⟨rfl, rfl⟩ | ⟨rfl, rfl⟩ | ⟨rfl, rfl⟩)⟩ <;> rfl

theorem cardEventOf_eq_some_iff (code : Byte) (params : List Byte) (ev : PeripheralEvent) :
    cardEventOf code params = some ev ↔
      params = [] ∧ (code = 9 ∧ ev = .sessionClose ∨ code = 0x0B ∧ ev = .denied) ∨
        ∃ lo hi, (params = [lo, hi] ∧ code = 0x0A ∧ ev = .approved (lo.toNat + 256 * hi.toNat)) ∨
          (params = [0, lo, hi] ∧ code = 8 ∧ ev = .sessionOpen none) ∨
          (params = [1, lo, hi] ∧ code = 8 ∧ ev = .sessionOpen (some (lo.toNat + 256 * hi.toNat))) := by
  constructor
  · intro taken
    unfold cardEventOf at taken
    split at taken
    · split at taken
      · next h => exact .inl ⟨rfl, .inl ⟨h, (Option.some.inj taken).symm⟩⟩
      · split at taken
        · next h => exact .inl ⟨rfl, .inr ⟨h, (Option.some.inj taken).symm⟩⟩
        · exact absurd taken (by simp)
    · next lo hi =>
      split at taken
      · next h => exact .inr ⟨lo, hi, .inl ⟨rfl, h, (Option.some.inj taken).symm⟩⟩
      · exact absurd taken (by simp)
    · next known lo hi =>
      split at taken
      · next h =>
        split at taken
        · next one => exact .inr ⟨lo, hi, .inr (.inr ⟨by rw [one], h, (Option.some.inj taken).symm⟩)⟩
        · split at taken
          · next zero => exact .inr ⟨lo, hi, .inr (.inl ⟨by rw [zero], h, (Option.some.inj taken).symm⟩)⟩
          · exact absurd taken (by simp)
      · exact absurd taken (by simp)
    · exact absurd taken (by simp)
  · rintro (⟨rfl, (⟨rfl, rfl⟩ | ⟨rfl, rfl⟩)⟩ | ⟨lo, hi, (⟨rfl, rfl, rfl⟩ | ⟨rfl, rfl, rfl⟩ | ⟨rfl, rfl, rfl⟩)⟩) <;> rfl

/-- An entry has one role. -/
theorem not_bill_of_card {s : State} {i : Nat} (card : (entryOf .card s).map (·.1) = some i) :
    (entryOf .bill s).map (·.1) ≠ some i := by
  intro bill
  obtain ⟨⟨j, r⟩, cardEntry, rfl⟩ := Option.map_eq_some_iff.mp card
  obtain ⟨⟨k, q⟩, billEntry, same⟩ := Option.map_eq_some_iff.mp bill
  obtain ⟨-, stands, -, role⟩ := entryOf_spec cardEntry
  obtain ⟨-, stands', -, role'⟩ := entryOf_spec billEntry
  simp only at same
  rw [same, stands] at stands'
  rw [stands', role'] at role
  exact absurd role (by decide)

/-- R168: an event goes to the Cash Unit or the Card Unit by the role of its entry. -/
theorem consumedEvent_eq_some_iff (s : State) (i : Nat) (code : Byte) (params : List Byte) (ev : PeripheralEvent) :
    consumedEvent s i code params = some ev ↔
      ((entryOf .bill s).map (·.1) = some i ∧ billEventOf code params = some ev) ∨
        ((entryOf .card s).map (·.1) = some i ∧ cardEventOf code params = some ev) := by
  unfold consumedEvent
  simp only [isEntryOf_iff]
  split
  · next bill =>
    constructor
    · exact fun taken => .inl ⟨bill, taken⟩
    · rintro (⟨-, taken⟩ | ⟨card, -⟩)
      · exact taken
      · exact absurd bill (not_bill_of_card card)
  · next other =>
    split
    · next card => exact ⟨fun taken => .inr ⟨card, taken⟩, fun h => h.elim (fun l => absurd l.1 other) (·.2)⟩
    · next none_ => exact iff_of_false (by simp) fun h => h.elim (fun l => other l.1) fun l => none_ l.1

theorem consumedEvent_congr {s v : State} (h : PresenceTaken s v) (i : Nat) (code : Byte) (params : List Byte) :
    consumedEvent v i code params = consumedEvent s i code params := by
  simp only [consumedEvent, isEntryOf, h.index]
  rfl

/-! ## Each kind of exchange -/

theorem releaseSlot_reserved (s : State) : (releaseSlot s).rpq.reserved = s.rpq.reserved - 1 := by
  obtain ⟨some_, e⟩ | ⟨none_, e⟩ := releaseSlot_cases s
  · rw [e]
    obtain ⟨-, f⟩ | ⟨-, k, ks, -, f⟩ | ⟨-, -, f⟩ | ⟨-, -, f⟩ :=
      slotFreed_cases { s with rpq := { s.rpq with reserved := s.rpq.reserved - 1 } } <;> rw [f]
    rfl
  · rw [e]
    omega

theorem releasePollSlot_reserved (slot : Bool) (s : State) :
    (releasePollSlot slot s).rpq.reserved = s.rpq.reserved - (if slot then 1 else 0) := by
  cases slot with
  | true => exact releaseSlot_reserved s
  | false => rfl

theorem releasePollSlot_only (slot : Bool) (s : State) : ChangesOnly [.dlk, .rpq] s (releasePollSlot slot s) := by
  unfold releasePollSlot
  split
  · constructor <;> simp
  · exact .refl _ s

/-- The presence and the misses of the entries are the same in both. -/
def SamePresence (s t : State) : Prop :=
  ∀ j, (routeOf t j).presence = (routeOf s j).presence ∧ (routeOf t j).missed = (routeOf s j).missed

theorem samePresence_of_routes {s t : State} (routes : t.dlk.routes = s.dlk.routes) : SamePresence s t :=
  fun j => by rw [routeOf_congr routes]; exact ⟨rfl, rfl⟩

theorem setRoute_samePresence {i : Nat} {r : Route} {s : State} (presence : r.presence = (routeOf s i).presence)
    (missed : r.missed = (routeOf s i).missed) : SamePresence s (setRoute i r s) := by
  intro j
  show (tget (tset s.dlk.routes i r) Route.powerOn j).presence = _ ∧ (tget (tset s.dlk.routes i r) Route.powerOn j).missed = _
  rw [tget_tset]
  split
  · next here =>
    rw [here.1]
    exact ⟨presence, missed⟩
  · exact ⟨rfl, rfl⟩

theorem SamePresence.trans {s t u : State} (h : SamePresence s t) (k : SamePresence t u) : SamePresence s u :=
  fun j => ⟨(k j).1.trans (h j).1, (k j).2.trans (h j).2⟩

theorem enableAcked_samePresence (f : OwnFrame) (s : State) : SamePresence s (enableAcked f s) := by
  unfold enableAcked
  split
  · next m i r kind entry =>
    obtain ⟨-, stands, -, -⟩ := entryOf_spec entry
    exact setRoute_samePresence (by rw [stands]) (by rw [stands])
  · exact fun _ => ⟨rfl, rfl⟩

theorem reportEvent_samePresence (x : Exchange) (slot : Bool) (code : Byte) (params : List Byte) (s : State) :
    SamePresence s (reportEvent x slot code params s) := by
  unfold reportEvent
  split
  · exact samePresence_of_routes (consumeSlot_held _ s).routes
  · refine .trans (t := setRoute x.entry
      { routeOf s x.entry with discarded := satAdd 255 (routeOf s x.entry).discarded 1 } s) (setRoute_samePresence rfl rfl) ?_
    exact samePresence_of_routes (reportIf_held _ _ _).routes

theorem pollReplied_samePresence (x : Exchange) (slot : Bool) (kind : Byte) (payload : List Byte) (s : State) :
    SamePresence s (pollReplied x slot kind payload s) := by
  have released := samePresence_of_routes (linkHeld_releasePollSlot slot s).routes
  unfold pollReplied
  split
  · split
    · exact released
    · split
      · exact released.trans (samePresence_of_routes (takeEvent_held _ _ _).routes)
      · exact reportEvent_samePresence _ _ _ _ s
  · exact released

theorem repliedByKind_samePresence (x : Exchange) (src kind : Byte) (payload : List Byte) (s : State) :
    SamePresence s (repliedByKind x src kind payload s) := by
  unfold repliedByKind
  split
  · exact pollReplied_samePresence _ _ _ _ s
  · split
    · exact (enableAcked_samePresence _ s).trans (samePresence_of_routes (ownFrameEnds_held _ _ _).routes)
    · exact samePresence_of_routes (ownFrameEnds_held _ _ s).routes
  · exact samePresence_of_routes (consumeSlot_held _ _).routes

theorem enableAcked_retains (f : OwnFrame) (s : State) : Retains s (enableAcked f s) := by
  unfold enableAcked
  split <;> exact retains_same rfl rfl rfl

theorem reportEvent_retains (x : Exchange) (slot : Bool) (code : Byte) (params : List Byte) (s : State) :
    Retains s (reportEvent x slot code params s) := by
  unfold reportEvent
  split
  · exact consumeSlot_retains _ s
  · exact (reportIf_retains _ _ _).from rfl rfl rfl

theorem repliedByKind_retains (x : Exchange) (src kind : Byte) (payload : List Byte) (s : State) :
    Retains s (repliedByKind x src kind payload s) := by
  unfold repliedByKind
  split
  · unfold pollReplied
    split
    · split
      · exact releasePollSlot_retains _ s
      · split
        · exact (releasePollSlot_retains _ s).trans (takeEvent_retains _ _ _)
        · exact reportEvent_retains _ _ _ _ s
    · exact releasePollSlot_retains _ s
  · split
    · exact (enableAcked_retains _ s).trans (ownFrameEnds_retains _ _ _)
    · exact ownFrameEnds_retains _ _ s
  · exact (consumeSlot_retains _ _).from rfl rfl rfl

end Sys2Proof.Machine
end

section
/-! PROOF. Replied exchanges (R164, R165, R168, R170, R172). -/

namespace Sys2Proof.Machine

/-- The state in which a reply acts: D's receiver is READY, the exchange's record is removed and its presence taken. -/
def State.replyTaken (dest : Nat) (s : State) : State :=
  updatePresence true dest (clearExchange (setRx .downstream (.readyAt s.now) s))

/-- What the state of a reply keeps of the state before it. -/
theorem replyTaken_kept (dest : Nat) (s : State) :
    ChangesOnly [.dlk, .rpq] s (s.replyTaken dest) ∧ (s.replyTaken dest).dlk.exchange = none ∧
      (s.replyTaken dest).dlk.seg = s.dlk.seg ∧ (s.replyTaken dest).dlk.sending = s.dlk.sending ∧
      (s.replyTaken dest).dlk.transits = s.dlk.transits ∧ (s.replyTaken dest).rpq.reserved = s.rpq.reserved ∧
      (∀ role, (entryOf role (s.replyTaken dest)).map (·.1) = (entryOf role s).map (·.1)) ∧
      ∀ j, (routeOf (s.replyTaken dest) j).settings = (routeOf s j).settings := by
  have taken := updatePresence_presenceTaken dest (clearExchange (setRx .downstream (.readyAt s.now) s))
  refine ⟨.trans (t := clearExchange (setRx .downstream (.readyAt s.now) s)) (by constructor <;> simp [clearExchange, setRx]) taken.only,
    taken.line.exchange, taken.line.seg, taken.line.sending, taken.transits, taken.reserved, taken.index, taken.routes⟩

/-- The exchange replied, up to a release that waits. -/
theorem reply_row {x : Exchange} {since : Time} {src kind : Byte} {payload : List Byte} {s : State}
    (awaits : awaitingExchange s = some (x, since)) (owned : s.dlk.seg ≠ .released) (sender : src.toNat = x.dest) :
    exec (.reply src kind payload) s = .next (tryRelease (repliedByKind x src kind payload (s.replyTaken x.dest))) := by
  set u := setRx .downstream (.readyAt s.now) s with ready
  have awaits' : awaitingExchange u = some (x, since) := awaits
  have replied : downstreamFrame src kind payload u = exchangeReplied x src kind payload u := by
    simp only [downstreamFrame, awaits']
    exact if_pos sender
  have done : awaitingExchange (exchangeReplied x src kind payload u) = none := by
    simp only [awaitingExchange, exchangeReplied_exchange]
  have late : lateExpiry (exchangeReplied x src kind payload u) = exchangeReplied x src kind payload u := by
    simp only [lateExpiry, done]
  show Host.Outcome.next (endDownstream (some (ownNode s, src, kind, payload)) u) = _
  rw [endDownstream, if_neg (show ¬u.dlk.seg = .released from owned)]
  rw [if_pos (show ownNode s = ownNode u from rfl), replied, late]
  rfl

/-- R164: another sender's frame leaves the exchange waiting. -/
theorem reply_other {x : Exchange} {since : Time} {src kind : Byte} {payload : List Byte} {s : State}
    (awaits : awaitingExchange s = some (x, since)) (owned : s.dlk.seg ≠ .released) (other : src.toNat ≠ x.dest)
    (fresh : x.expired = false) :
    exec (.reply src kind payload) s = .next { s with dlk := { s.dlk with rx := .readyAt s.now } } := by
  set u := setRx .downstream (.readyAt s.now) s with ready
  have awaits' : awaitingExchange u = some (x, since) := awaits
  have waits : downstreamFrame src kind payload u = u := by
    simp only [downstreamFrame, awaits']
    exact if_neg other
  have late : lateExpiry u = u := lateExpiry_waits fun y t awaits'' => by
    rw [awaits'] at awaits''
    obtain ⟨rfl, -⟩ := Prod.mk.inj (Option.some.inj awaits'')
    exact fresh
  show Host.Outcome.next (endDownstream (some (ownNode s, src, kind, payload)) u) = _
  rw [endDownstream, if_neg (show ¬u.dlk.seg = .released from owned)]
  rw [if_pos (show ownNode s = ownNode u from rfl), waits, late]
  rfl

/-- R170: an acknowledged ENABLE. -/
theorem repliedByKind_enable {x : Exchange} {src : Byte} {payload : List Byte} {node i : Nat} {m : Vector Bool 8} {s v : State}
    (kind : x.kind = .own ⟨node, .enable m⟩) (index : (entryOf .bill v).map (·.1) = (entryOf .bill s).map (·.1)) {r : Route}
    (bill : entryOf .bill s = some (i, r)) : (routeOf (repliedByKind x src kAck payload v) i).lastEnable = some m := by
  rw [bill] at index
  obtain ⟨⟨j, q⟩, entry, rfl⟩ := Option.map_eq_some_iff.mp index
  have acted : repliedByKind x src kAck payload v = setRoute j { q with lastEnable := some m } v := by
    simp only [repliedByKind, kind, if_true, enableAcked, entry]
    rfl
  rw [acted, routeOf_setRoute (entryOf_spec entry).1]

/-- R170: the owner of an own frame takes its end. -/
theorem repliedByKind_own {x : Exchange} {src kind : Byte} {payload : List Byte} {f : OwnFrame} (own : x.kind = .own f) (v : State) :
    ∃ u, ChangesOnly [.dlk] v u ∧ LineHeld v u ∧ repliedByKind x src kind payload v = ownFrameEnds (decide (kind = 0x23)) f u := by
  by_cases acked : kind = kAck
  · refine ⟨enableAcked f v, ?_, enableAcked_line f v, ?_⟩
    · unfold enableAcked
      split
      · constructor <;> simp [setRoute]
      · exact .refl _ v
    · simp only [repliedByKind, own]
      rw [if_pos acked, decide_eq_true (show kind = 0x23 from acked)]
  · refine ⟨v, .refl _ v, .refl v, ?_⟩
    simp only [repliedByKind, own]
    rw [if_neg acked, decide_eq_false (show ¬kind = 0x23 from acked)]

/-- R168: an event that no block takes. -/
theorem reportEvent_outcome (x : Exchange) (slot : Bool) (code : Byte) (params : List Byte) (v : State) :
    (slot = true → 1 ≤ v.rpq.reserved → .event (.peripheralEvent x.dest code params) ∈ (reportEvent x slot code params v).rpq.queue ∧
      (reportEvent x slot code params v).rpq.reserved = v.rpq.reserved - 1) ∧
    (slot = false → x.entry < 8 →
      (routeOf (reportEvent x slot code params v) x.entry).discarded = min 255 ((routeOf v x.entry).discarded + 1) ∧
      ((routeOf v x.entry).discarded < 255 → Reported (.node (routeOf v x.entry).base) (reportEvent x slot code params v))) := by
  constructor
  · rintro rfl some_
    rw [reportEvent, if_pos rfl, consumeSlot_of_slot some_]
    exact ⟨by simp, rfl⟩
  · rintro rfl less
    rw [reportEvent, if_neg (by simp)]
    dsimp only
    rw [routeOf_congr (reportIf_held _ _ _).routes, routeOf_setRoute less]
    refine ⟨rfl, fun few => ?_⟩
    rw [reportIf, if_pos (by simpa using few)]
    exact report_reported _ _

/-- Settles O53: the presence, then the effect of the exchange's kind, then a release that waits. -/
theorem repliesEndTheExchange : Obligations.RepliesEndTheExchange := by
  intro x since src kind payload s awaits owned
  refine ⟨fun sender => ?_, fun other fresh => reply_other awaits owned other fresh⟩
  obtain ⟨only, exchange, seg, sending, transits, reserved, index, settings⟩ := replyTaken_kept x.dest s
  set v := s.replyTaken x.dest with taken
  set w := repliedByKind x src kind payload v with acted
  have line : LineHeld v w := repliedByKind_line x src kind payload v
  have replied : tryRelease w = exchangeReplied x src kind payload (setRx .downstream (.readyAt s.now) s) := rfl
  have notPending (held : s.dlk.seg = .owned) {u : State} (same : u.dlk.seg = v.dlk.seg) : tryRelease u = u :=
    tryRelease_owned (by rw [same, seg, held]; decide)
  refine ⟨tryRelease w, reply_row awaits owned sender, by rw [replied]; simp [setRx_now],
    by rw [replied]; exact exchangeReplied_exchange ..,
    by rw [replied]; exact exchangeReplied_rx .., by rw [replied]; simp, by rw [replied]; simp [setRx], by rw [replied]; simp [setRx],
    fun i r covered => ?_, fun tag transit slot => ?_, fun node m i r own ack bill => ?_, fun f own held => ?_,
    fun slot poll plain => ?_, ?_, fun pending idle => ?_⟩
  · have covered' : coveringEntry (clearExchange (setRx .downstream (.readyAt s.now) s)) x.dest = some (i, r) := covered
    obtain ⟨present, missed, told⟩ := updatePresence_present covered'
    obtain ⟨samePresence, sameMissed⟩ := repliedByKind_samePresence x src kind payload v i
    rw [routeOf_congr (tryRelease_routes w)]
    exact ⟨samePresence.trans present, sameMissed.trans missed, fun absent =>
      tryRelease_reported ((repliedByKind_retains x src kind payload v).reported (told absent))⟩
  · have ends : w = consumeSlot (.transitReply tag src.toNat kind payload) (removeTransit tag v) := by
      simp only [acted, repliedByKind, transit]
    have room : 0 < (removeTransit tag v).rpq.reserved := by
      show 0 < v.rpq.reserved
      omega
    rw [tryRelease_transits, tryRelease_rpq, ends, consumeSlot_of_slot room]
    refine ⟨by simp, ?_, fun q mem => ?_⟩
    · show v.rpq.reserved - 1 = _
      rw [reserved]
    · have kept := (List.mem_filter.mp mem).2
      simpa using kept
  · rw [routeOf_congr (tryRelease_routes w), acted, show kind = kAck from ack]
    exact repliedByKind_enable own (index .bill) bill
  · obtain ⟨u, changes, same, ends⟩ := repliedByKind_own (src := src) (kind := kind) (payload := payload) own v
    refine ⟨u, only.trans (changes.mono (by simp)), same.exchange.trans exchange, ?_⟩
    rw [notPending held line.seg]
    exact ends
  · have ends : w = releasePollSlot slot v := by
      simp only [acted, repliedByKind, poll, pollReplied]
      exact if_neg plain
    rw [tryRelease_rpq, ends, releasePollSlot_reserved, reserved]
  · intro entry consumed slot code params poll event body
    have same : consumedEvent v x.entry code params = consumedEvent s x.entry code params := by
      simp only [consumedEvent, isEntryOf, index]
      rfl
    have ends : w = (match consumedEvent v x.entry code params with
        | some ev => takeEvent x.dest ev (releasePollSlot slot v)
        | none => reportEvent x slot code params v) := by
      simp only [acted, repliedByKind, poll, pollReplied, body]
      exact if_pos event
    have takes (ev : PeripheralEvent) : consumed code params ev ↔ consumedEvent v x.entry code params = some ev := by
      rw [same, consumedEvent_eq_some_iff, billEventOf_eq_some_iff, cardEventOf_eq_some_iff]
    refine ⟨fun ev takes_ held => ?_, fun ignored => ?_⟩
    · rw [(takes ev).mp takes_] at ends
      refine ⟨releasePollSlot slot v, only.trans (releasePollSlot_only slot v), ?_, ?_, ?_⟩
      · exact (linkHeld_releasePollSlot slot v).line.exchange.trans exchange
      · rw [releasePollSlot_reserved, reserved]
      · rw [notPending held line.seg, ends]
    · have none_ : consumedEvent v x.entry code params = none :=
        Option.eq_none_iff_forall_ne_some.mpr fun ev takes_ => ignored ev ((takes ev).mpr takes_)
      rw [none_] at ends
      obtain ⟨queued, discarded⟩ := reportEvent_outcome x slot code params v
      have entrySame : (routeOf v x.entry).settings = (routeOf s x.entry).settings := settings x.entry
      have count : (routeOf v x.entry).discarded = (routeOf s x.entry).discarded :=
        show (routeOf v x.entry).settings.discarded = (routeOf s x.entry).settings.discarded by rw [entrySame]
      have base : (routeOf v x.entry).base = (routeOf s x.entry).base :=
        show (routeOf v x.entry).settings.base = (routeOf s x.entry).settings.base by rw [entrySame]
      rw [reserved] at queued
      rw [count, base] at discarded
      rw [tryRelease_rpq, routeOf_congr (tryRelease_routes w), ends]
      refine ⟨queued, fun unslotted less => ?_⟩
      obtain ⟨counted, told⟩ := discarded unslotted less
      exact ⟨counted, fun few => ends ▸ tryRelease_reported (ends ▸ told few)⟩
  · have released : tryRelease w = { w with dlk := { w.dlk with
        seg := .released, sgr := true, dde := false
        polls := tmap (fun p => { p with due := false, deferred := false }) w.dlk.polls } } :=
      if_pos ⟨by rw [line.seg, seg, pending], by rw [line.exchange, exchange], by rw [line.sending, sending, idle]⟩
    rw [released]
    exact ⟨rfl, rfl⟩

end Sys2Proof.Machine
end

section
/-! SUPPORT. The start of an exchange (R163, R166, R167, R172): the frame that begins, and the poll that is chosen. -/

namespace Sys2Proof.Machine

/-- An exchange has begun from `s`: its frame is being sent at the rate in force. -/
structure Started (s : State) (k : ExchKind) (dest i : Nat) (kind : Byte) (payload : List Byte) (t : State) : Prop where
  exchange : t.dlk.exchange = some ⟨k, dest, i, (routeOf s i).timeout, s.dlk.fastRate, none, false⟩
  sending : t.dlk.sending = some ⟨frame (ch dest) (ownNode s) kind payload,
    s.now + frameTicks s.dlk.fastRate (payload.length + 5) s.dlk.guardGap⟩
  dde : t.dlk.dde = true
  rxFast : t.dlk.rxFast = s.dlk.fastRate
  only : ChangesOnly [.dlk, .rpq] s t
  dlk : t.dlk = { t.dlk with
    routes := s.dlk.routes, nextTag := s.dlk.nextTag, seg := s.dlk.seg, sgr := s.dlk.sgr, rx := s.dlk.rx,
    requestWaiting := s.dlk.requestWaiting, fastRate := s.dlk.fastRate, guardGap := s.dlk.guardGap }

/-- What stands before an exchange begins: the queues, the polls and the pointer may have moved. -/
structure BeforeStart (s u : State) : Prop where
  dlk : u.dlk = { s.dlk with
    own := u.dlk.own, transits := u.dlk.transits, polls := u.dlk.polls, pointer := u.dlk.pointer }
  only : ChangesOnly [.dlk, .rpq] s u

theorem BeforeStart.routeOf {s u : State} (h : BeforeStart s u) (i : Nat) : routeOf u i = routeOf s i :=
  routeOf_congr (by rw [h.dlk]) i

theorem beginExchange_started {s u : State} (h : BeforeStart s u) (k : ExchKind) (dest i : Nat) (kind : Byte) (payload : List Byte) :
    Started s k dest i kind payload (beginExchange k dest i (routeOf s i).timeout kind payload u) := by
  have now : u.now = s.now := h.only.now.resolve_right (by simp)
  have ulk : u.ulk = s.ulk := h.only.ulk.resolve_right (by simp)
  have rate : u.dlk.fastRate = s.dlk.fastRate := by rw [h.dlk]
  have gap : u.dlk.guardGap = s.dlk.guardGap := by rw [h.dlk]
  have own : ownNode u = ownNode s := by simp only [ownNode, ulk]
  refine ⟨?_, ?_, rfl, rate, h.only.trans (by constructor <;> simp [beginExchange]), ?_⟩
  · simp only [beginExchange, rate]
  · simp only [beginExchange, rate, gap, now, own, frame_length]
  · simp only [beginExchange]
    rw [h.dlk]

/-! ## The poll chosen (R166, R167) -/

/-- R166: the poll of an entry in use is due and not deferred. -/
def PollReady (s : State) (i : Nat) : Prop :=
  (routeOf s i).inUse = true ∧ (pollOf s i).due = true ∧ (pollOf s i).deferred = false

theorem choosePoll_cons (i : Nat) (is : List Nat) (s : State) :
    (¬PollReady s i → choosePoll (i :: is) s = choosePoll is s) ∧
      (PollReady s i → canReserve 1 s = true → choosePoll (i :: is) s = beginPoll i true s) ∧
      (PollReady s i → canReserve 1 s = false → actsPassive s i = true → choosePoll (i :: is) s = choosePoll is (deferPoll i s)) ∧
      (PollReady s i → canReserve 1 s = false → actsPassive s i = false → choosePoll (i :: is) s = beginPoll i false s) := by
  unfold PollReady
  refine ⟨fun idle => ?_, fun ready room => ?_, fun ready full passive => ?_, fun ready full active => ?_⟩
  · rw [choosePoll, if_neg idle]
  · rw [choosePoll, if_pos ready, if_pos room]
  · rw [choosePoll, if_pos ready, if_neg (by simp [full]), if_pos passive]
  · rw [choosePoll, if_pos ready, if_neg (by simp [full]), if_neg (by simp [active])]

/-- Entries with no poll due are passed over. -/
theorem choosePoll_idle (l rest : List Nat) {s : State} (idle : ∀ i ∈ l, ¬PollReady s i) :
    choosePoll (l ++ rest) s = choosePoll rest s := by
  induction l with
  | nil => rfl
  | cons i l ih =>
    obtain ⟨first, later⟩ := List.forall_mem_cons.mp idle
    rw [List.cons_append, (choosePoll_cons i (l ++ rest) s).1 first, ih later]

theorem pollOf_deferPoll {s : State} {i : Nat} (less : i < 8) (j : Nat) :
    pollOf (deferPoll i s) j = if j = i then { pollOf s i with deferred := true } else pollOf s j := by
  show tget (tset s.dlk.polls i { pollOf s i with deferred := true }) _ j = _
  rw [tget_tset]
  simp [less, pollOf]

/-- What the deferral of polls leaves: everything but the poll schedule. -/
def OnlyPolls (s u : State) : Prop := u = { s with dlk := { s.dlk with polls := u.dlk.polls } }

theorem OnlyPolls.trans {s t u : State} (h : OnlyPolls s t) (k : OnlyPolls t u) : OnlyPolls s u := by
  unfold OnlyPolls at *
  rw [k, h]

theorem OnlyPolls.routeOf {s u : State} (h : OnlyPolls s u) (i : Nat) : routeOf u i = routeOf s i :=
  routeOf_congr (by rw [h]) i

theorem OnlyPolls.actsPassive {s u : State} (h : OnlyPolls s u) (i : Nat) : actsPassive u i = actsPassive s i := by rw [h]; rfl

theorem OnlyPolls.canReserve {s u : State} (h : OnlyPolls s u) (n : Nat) : canReserve n u = canReserve n s := by rw [h]; rfl

/-- R167: without a slot the PASSIVE entries with a poll due are deferred, and the rest is looked at. -/
theorem choosePoll_defers (l rest : List Nat) {s : State} (once : l.Nodup) (within : ∀ i ∈ l, i < 8)
    (full : canReserve 1 s = false) (passive : ∀ i ∈ l, PollReady s i → actsPassive s i = true) :
    ∃ u, choosePoll (l ++ rest) s = choosePoll rest u ∧ OnlyPolls s u ∧
      (∀ i ∈ l, PollReady s i → pollOf u i = { pollOf s i with deferred := true }) ∧
      ∀ i, (i ∉ l ∨ ¬PollReady s i) → pollOf u i = pollOf s i := by
  induction l generalizing s with
  | nil => exact ⟨s, rfl, rfl, nofun, fun _ _ => rfl⟩
  | cons i l ih =>
    obtain ⟨apart, once⟩ := List.nodup_cons.mp once
    obtain ⟨less, within⟩ := List.forall_mem_cons.mp within
    obtain ⟨first, later⟩ := List.forall_mem_cons.mp passive
    by_cases ready : PollReady s i
    · set d := deferPoll i s with deferred
      have onlyFirst : OnlyPolls s d := rfl
      have polls (j : Nat) : pollOf d j = if j = i then { pollOf s i with deferred := true } else pollOf s j := pollOf_deferPoll less j
      have same (j : Nat) (other : j ≠ i) : PollReady d j ↔ PollReady s j := by
        unfold PollReady
        rw [onlyFirst.routeOf, polls, if_neg other]
      have away (j : Nat) (mem : j ∈ l) : j ≠ i := by
        rintro rfl
        exact apart mem
      obtain ⟨u, next, only, marked, kept⟩ := ih (s := d) once within full fun j mem ready' => by
        rw [onlyFirst.actsPassive]
        exact later j mem ((same j (away j mem)).mp ready')
      refine ⟨u, ?_, onlyFirst.trans only, fun j mem ready' => ?_, fun j out => ?_⟩
      · rw [List.cons_append, (choosePoll_cons i (l ++ rest) s).2.2.1 ready full (first ready)]
        exact next
      · by_cases here : j = i
        · rw [here, kept i (.inl apart), polls, if_pos rfl]
        · have mem' : j ∈ l := (List.mem_cons.mp mem).resolve_left here
          rw [marked j mem' ((same j here).mpr ready'), polls, if_neg here]
      · have here : j ≠ i := by
          rintro rfl
          obtain out | idle := out
          · exact out List.mem_cons_self
          · exact idle ready
        rw [kept j ?_, polls, if_neg here]
        exact out.imp (fun out mem => out (List.mem_cons_of_mem i mem)) fun idle ready' => idle ((same j here).mp ready')
    · obtain ⟨u, next, only, marked, kept⟩ := ih once within full later
      refine ⟨u, ?_, only, fun j mem ready' => ?_, fun j out => kept j ?_⟩
      · rw [List.cons_append, (choosePoll_cons i (l ++ rest) s).1 ready]
        exact next
      · obtain rfl | mem := List.mem_cons.mp mem
        · exact absurd ready' ready
        · exact marked j mem ready'
      · exact out.imp (fun out mem => out (List.mem_cons_of_mem i mem)) id

/-! ## The order of the polls (R166) -/

/-- The entry at a place of the polling order. -/
def pollPlace (s : State) (k : Nat) : Nat := (s.dlk.pointer + k) % 8

theorem pollOrder_eq (s : State) : pollOrder s = (List.range 8).map (pollPlace s) := rfl

theorem pollOrder_nodup (s : State) : (pollOrder s).Nodup := by
  rw [pollOrder_eq]
  refine List.Nodup.map_on (fun j hj k hk same => ?_) List.nodup_range
  rw [List.mem_range] at hj hk
  unfold pollPlace at same
  omega

theorem mem_pollOrder (s : State) (i : Nat) : i ∈ pollOrder s ↔ i < 8 := by
  rw [pollOrder_eq, List.mem_map]
  constructor
  · rintro ⟨k, -, rfl⟩
    exact Nat.mod_lt _ (by omega)
  · intro less
    refine ⟨(i + 8 - s.dlk.pointer % 8) % 8, List.mem_range.mpr (Nat.mod_lt _ (by omega)), ?_⟩
    unfold pollPlace
    omega

/-- The order up to a place, the entry there and the rest. -/
theorem pollOrder_split (s : State) {k : Nat} (less : k < 8) :
    ∃ rest, pollOrder s = (List.range k).map (pollPlace s) ++ pollPlace s k :: rest := by
  refine ⟨((List.range 8).drop (k + 1)).map (pollPlace s), ?_⟩
  rw [pollOrder_eq]
  conv_lhs => rw [← List.take_append_drop k (List.range 8)]
  rw [List.map_append, List.take_range, min_eq_left less.le, List.drop_eq_getElem_cons (by simpa using less), List.map_cons,
    List.getElem_range]

theorem beginPoll_eq (i : Nat) (slot : Bool) (s : State) :
    beginPoll i slot s = beginExchange (.poll slot) (routeOf s i).base i (routeOf s i).timeout kPoll []
      { (if slot then reserve 1 s else s) with dlk := { s.dlk with
        polls := tset s.dlk.polls i
          { nextDue := s.now + if (routeOf s i).presence = .present then ms (routeOf s i).pollInterval else ms 1000
            due := false, deferred := false }
        pointer := (i + 1) % 8 } } := by
  cases slot <;> rfl

/-- R166, R167: a poll begun from a state in which polls have been deferred. -/
theorem beginPoll_started {s u : State} (only : OnlyPolls s u) {i : Nat} (less : i < 8) (slot : Bool) :
    Started s (.poll slot) (routeOf s i).base i 0x20 [] (beginPoll i slot u) ∧
      (beginPoll i slot u).rpq = (if slot then { s.rpq with reserved := s.rpq.reserved + 1 } else s.rpq) ∧
      (beginPoll i slot u).dlk.pointer = (i + 1) % 8 ∧
      pollOf (beginPoll i slot u) i =
        ⟨s.now + if (routeOf s i).presence = .present then ms (routeOf s i).pollInterval else ms 1000, false, false⟩ ∧
      ∀ j, j ≠ i → pollOf (beginPoll i slot u) j = pollOf u j := by
  have now : u.now = s.now := by rw [only]
  have rpq : u.rpq = s.rpq := by rw [only]
  rw [beginPoll_eq, only.routeOf, now]
  refine ⟨beginExchange_started ⟨?_, ?_⟩ _ _ _ _ _, ?_, rfl, ?_, fun j other => ?_⟩
  · rw [only]
  · rw [only]
    cases slot <;> constructor <;> simp [reserve]
  · rw [only]
    cases slot <;> rfl
  · show tget (tset u.dlk.polls i _) _ i = _
    rw [tget_tset_same _ _ _ less]
  · show tget (tset u.dlk.polls i _) _ j = _
    rw [tget_tset_ne _ _ _ other]
    rfl

end Sys2Proof.Machine
end

section
/-! PROOF. The start of an exchange (R163, R166, R167, R172). -/

namespace Sys2Proof.Machine

theorem exchangeStart_row {s : State} (owned : s.dlk.seg = .owned) (idle : s.dlk.exchange = none) (quiet : s.dlk.sending = none) :
    (∀ f rest, s.dlk.own = f :: rest → exec .exchangeStart s = .next (beginOwn f rest s)) ∧
      (∀ q, s.dlk.own = [] → s.dlk.transits.find? (fun u => !u.sent) = some q →
        exec .exchangeStart s = .next (beginTransit q s)) ∧
      (s.dlk.own = [] → s.dlk.transits.find? (fun u => !u.sent) = none →
        exec .exchangeStart s = .next (choosePoll (pollOrder s) s)) := by
  have next : exec .exchangeStart s = .next (nextExchange s) := rfl
  rw [next]
  unfold nextExchange
  rw [if_pos ⟨owned, idle, quiet⟩]
  refine ⟨fun f rest own => ?_, fun q own found => ?_, fun own found => ?_⟩
  · simp only [own]
  · simp only [own, found]
  · simp only [own, found]

theorem canReserve_one_eq_true_iff (s : State) : canReserve 1 s = true ↔ s.rpq.queue.length + s.rpq.reserved < 32 := by
  rw [canReserve, decide_eq_true_eq, freeSlots]
  omega

theorem canReserve_one_eq_false_iff (s : State) : canReserve 1 s = false ↔ 32 ≤ s.rpq.queue.length + s.rpq.reserved := by
  rw [canReserve, decide_eq_false_iff_not, freeSlots]
  omega

/-- The places before one hold every poll that is looked at before it. -/
theorem forall_places_iff (s : State) (k : Nat) (p : Nat → Prop) :
    (∀ i ∈ (List.range k).map (pollPlace s), p i) ↔ ∀ j < k, p (pollPlace s j) := by
  rw [List.forall_mem_map]
  exact forall_congr' fun j => imp_congr_left List.mem_range

theorem pollPlace_lt (s : State) (k : Nat) : pollPlace s k < 8 := Nat.mod_lt _ (by omega)

/-- R166: the first poll that is due begins with a slot, where one is free. -/
theorem choosePoll_slot {s : State} {k : Nat} (less : k < 8) (ready : PollReady s (pollPlace s k))
    (before : ∀ j < k, ¬PollReady s (pollPlace s j)) (room : canReserve 1 s = true) :
    choosePoll (pollOrder s) s = beginPoll (pollPlace s k) true s := by
  obtain ⟨rest, order⟩ := pollOrder_split s less
  rw [order, choosePoll_idle _ _ ((forall_places_iff s k _).mpr before)]
  exact (choosePoll_cons _ rest s).2.1 ready room

/-- R167: without a slot the PASSIVE polls before it are deferred, and it begins without one. -/
theorem choosePoll_noSlot {s : State} {k : Nat} (less : k < 8) (ready : PollReady s (pollPlace s k))
    (active : actsPassive s (pollPlace s k) = false)
    (passive : ∀ j < k, PollReady s (pollPlace s j) → actsPassive s (pollPlace s j) = true) (full : canReserve 1 s = false) :
    ∃ u, choosePoll (pollOrder s) s = beginPoll (pollPlace s k) false u ∧ OnlyPolls s u ∧
      ∀ j < k, PollReady s (pollPlace s j) → pollPlace s j ≠ pollPlace s k ∧ (pollOf u (pollPlace s j)).deferred = true := by
  obtain ⟨rest, order⟩ := pollOrder_split s less
  have once := pollOrder_nodup s
  rw [order] at once
  have apart : pollPlace s k ∉ (List.range k).map (pollPlace s) := fun mem =>
    List.disjoint_of_nodup_append once mem List.mem_cons_self
  obtain ⟨u, next, only, marked, kept⟩ := choosePoll_defers ((List.range k).map (pollPlace s)) (pollPlace s k :: rest)
    (List.Nodup.of_append_left once) ((forall_places_iff s k _).mpr fun j _ => pollPlace_lt s j) full
    ((forall_places_iff s k _).mpr passive)
  have still : PollReady u (pollPlace s k) := by
    unfold PollReady
    rw [only.routeOf, kept _ (.inl apart)]
    exact ready
  refine ⟨u, ?_, only, fun j before ready' => ⟨fun same => apart ?_, ?_⟩⟩
  · rw [order, next]
    exact (choosePoll_cons _ rest u).2.2.2 still (by rw [only.canReserve, full]) (by rw [only.actsPassive, active])
  · rw [← same]
    exact List.mem_map_of_mem (List.mem_range.mpr before)
  · rw [marked _ (List.mem_map_of_mem (List.mem_range.mpr before)) ready']

/-- Settles O52: the own frames, the transits, then the polls in their order; and the end of the frame. -/
theorem exchangesStartInTheirOrder : Obligations.ExchangesStartInTheirOrder := by
  constructor
  · intro s owned idle quiet started due nth wait
    have begun {k : ExchKind} {dest i : Nat} {kind : Byte} {payload : List Byte} {t : State} (h : Started s k dest i kind payload t) :
        started k dest i kind payload t := ⟨h.exchange, h.sending, h.dde, h.rxFast, h.only, h.dlk⟩
    obtain ⟨ownRow, transitRow, pollRow⟩ := exchangeStart_row owned idle quiet
    refine ⟨fun f rest i r own covered => ?_, fun q i r own found covered => ?_, fun q own found covered slot => ?_,
      fun own found => ?_⟩
    · obtain ⟨-, stands, -⟩ := coveringEntry_spec covered
      have next : beginOwn f rest s = beginExchange (.own f) f.node i (routeOf s i).timeout f.kind.kind f.kind.payload
          { s with dlk := { s.dlk with own := rest } } := by
        simp only [beginOwn, covered, stands]
      have before : BeforeStart s { s with dlk := { s.dlk with own := rest } } := ⟨rfl, by constructor <;> simp⟩
      rw [ownRow f rest own, next]
      exact ⟨_, rfl, begun (beginExchange_started before _ _ _ _ _), rfl, rfl, rfl, rfl⟩
    · obtain ⟨-, stands, -⟩ := coveringEntry_spec covered
      have next : beginTransit q s = beginExchange (.transit q.tag) q.dest i (routeOf s i).timeout q.kind q.payload
          { s with dlk := { s.dlk with
            transits := s.dlk.transits.map fun u => if u.tag = q.tag then { u with sent := true } else u } } := by
        simp only [beginTransit, covered, stands]
      have before : BeforeStart s { s with dlk := { s.dlk with
          transits := s.dlk.transits.map fun u => if u.tag = q.tag then { u with sent := true } else u } } :=
        ⟨rfl, by constructor <;> simp⟩
      rw [transitRow q own found, next]
      exact ⟨_, rfl, begun (beginExchange_started before _ _ _ _ _), rfl, rfl⟩
    · have next : beginTransit q s = consumeSlot (.transitLost q.tag) (removeTransit q.tag s) := by
        simp only [beginTransit, covered]
      rw [transitRow q own found, next, consumeSlot_of_slot]
      · exact ⟨_, rfl, by constructor <;> simp [removeTransit], rfl, rfl⟩
      · exact slot
    · rw [pollRow own found]
      refine ⟨fun none_ => ?_, fun k less ready before room => ?_, fun k less ready active passive full => ?_, fun passive full => ?_⟩
      · have skipped := choosePoll_idle (pollOrder s) [] (s := s) fun i mem => none_ i ((mem_pollOrder s i).mp mem)
        rw [List.append_nil] at skipped
        rw [skipped]
        rfl
      · obtain ⟨starts, slot, pointer, poll, others⟩ := beginPoll_started (s := s) (u := s) rfl (pollPlace_lt s k) true
        rw [choosePoll_slot less ready before ((canReserve_one_eq_true_iff s).mpr room)]
        exact ⟨_, rfl, begun starts, slot, pointer, poll, others⟩
      · obtain ⟨u, next, only, marked⟩ := choosePoll_noSlot less ready active passive ((canReserve_one_eq_false_iff s).mpr full)
        obtain ⟨starts, slot, pointer, poll, others⟩ := beginPoll_started only (pollPlace_lt s k) false
        rw [next]
        refine ⟨_, rfl, begun starts, slot, pointer, poll, fun j before ready' => ?_⟩
        obtain ⟨other, deferred⟩ := marked j before ready'
        show (pollOf (beginPoll (pollPlace s k) false u) (pollPlace s j)).deferred = true
        rw [others _ other]
        exact deferred
      · obtain ⟨u, next, only, marked, kept⟩ := choosePoll_defers (pollOrder s) [] (pollOrder_nodup s)
          (fun i mem => (mem_pollOrder s i).mp mem) ((canReserve_one_eq_false_iff s).mpr full)
          fun i mem ready => passive i ((mem_pollOrder s i).mp mem) ready
        rw [List.append_nil] at next
        rw [next]
        refine ⟨u, rfl, ?_, by rw [only], fun i less => ⟨fun ready => marked i ((mem_pollOrder s i).mpr less) ready,
          fun unready => kept i (.inr unready)⟩⟩
        rw [only]
        constructor <;> simp
  · intro s
    refine ⟨fun f x sending exchange waits => ?_, fun f sending gone => ?_, fun i used undue held => ?_⟩
    · have row : exec .downstreamFrameSent s = .next (frameSent (s.upTo f.finish)) := by
        show execDownstreamFrameSent s = _
        simp only [execDownstreamFrameSent, sending]
      have sent : frameSent (s.upTo f.finish) = { s.upTo f.finish with dlk := { s.dlk with
          sending := none, dde := false, rx := .readyAt (max s.now f.finish)
          exchange := some { x with awaiting := some (max s.now f.finish) } } } := by
        simp only [frameSent, upTo_frame, exchange]
        rw [if_pos waits]
        rfl
      rw [row, sent]
      exact ⟨_, rfl, rfl, by constructor <;> simp, rfl⟩
    · have row : exec .downstreamFrameSent s = .next (frameSent (s.upTo f.finish)) := by
        show execDownstreamFrameSent s = _
        simp only [execDownstreamFrameSent, sending]
      set u : State := { s.upTo f.finish with dlk := { s.dlk with
        exchange := none, sending := none, dde := false, rx := .readyAt (max s.now f.finish) } } with freed
      have sent : frameSent (s.upTo f.finish) = tryRelease u := by
        simp only [frameSent, upTo_frame, gone]
        rfl
      have only : ChangesOnly [.now, .dlk] s u := by constructor <;> simp [freed]
      rw [row, sent]
      refine ⟨_, rfl, ?_⟩
      by_cases pending : s.dlk.seg = .releasePending
      · rw [tryRelease, if_pos (show u.dlk.seg = .releasePending ∧ _ from ⟨pending, rfl, rfl⟩), if_pos pending]
        exact ⟨rfl, only.trans (by constructor <;> simp), rfl, rfl, rfl, rfl⟩
      · rw [tryRelease_owned (s := u) pending, if_neg pending]
        exact ⟨rfl, only, rfl, rfl, rfl, rfl⟩
    · refine ⟨_, if_pos ⟨used, undue, held⟩, rfl, by constructor <;> simp, rfl, ?_, fun j other => ?_⟩
      · exact tget_tset_same _ _ _ i.isLt
      · exact tget_tset_ne _ _ _ other

end Sys2Proof.Machine
end

section
/-! SUPPORT. The write to the route table (R162): its checks, and a re-homed entry. -/

namespace Sys2Proof.Machine

theorem routePermitted_iff {w : Write} (len : w.given.length = 11) (m : Mode) :
    (!routePermitted m w) = true ↔ m = .safe ∨ ([6, 7, 8, 9, 10].any w.has = true) ∨
      (m ≠ .setup ∧ [0, 1, 2, 3].any w.has = true) := by
  have setup := not_only_iff len [0, 1, 2, 3, 4, 5] [6, 7, 8, 9, 10] (by decide) (by decide)
  have later := not_only_iff len [4, 5] ([6, 7, 8, 9, 10] ++ [0, 1, 2, 3]) (by decide) (by decide)
  rw [List.any_append, Bool.or_eq_true] at later
  cases m <;> simp [routePermitted, setup, later, ← Bool.not_eq_true]

theorem not_wellPlaced_iff (r : Route) :
    (!r.wellPlaced) = true ↔ r.base < 0x20 ∨ 0x5F < r.base ∨ r.span ∉ [1, 2, 4, 8] ∨ r.base % r.span ≠ 0 ∨
      0x5F < r.base + r.span - 1 := by
  rw [Bool.not_eq_true', ← Bool.not_eq_true, Route.wellPlaced]
  simp only [Bool.and_eq_true, decide_eq_true_eq, not_and_or, not_le, List.contains_iff_mem, or_assoc]

theorem overlaps_any_iff (s : State) (index : Nat) (r : Route) :
    ((List.range 8).any fun i => i != index && r.overlaps (routeOf s i)) = true ↔
      r.inUse = true ∧ ∃ j : Fin 8, j.val ≠ index ∧ (routeOf s j).inUse = true ∧
        r.base < (routeOf s j).base + (routeOf s j).span ∧ (routeOf s j).base < r.base + r.span := by
  simp only [List.any_eq_true, List.mem_range, Bool.and_eq_true, bne_iff_ne, Route.overlaps, decide_eq_true_eq]
  constructor
  · rintro ⟨i, less, other, ⟨⟨used, used'⟩, low⟩, high⟩
    exact ⟨used, ⟨i, less⟩, other, used', low, high⟩
  · rintro ⟨used, j, other, used', low, high⟩
    exact ⟨j, j.isLt, other, ⟨⟨used, used'⟩, low⟩, high⟩

theorem ite_ite_same {α : Type} (p q : Prop) [Decidable p] [Decidable q] (x y : α) :
    (if p then x else if q then x else y) = if p ∨ q then x else y := by
  split
  case isTrue h => rw [if_pos (.inl h)]
  case isFalse h => simp only [h, false_or]

theorem routeRefusal_eq (s : State) {w : Write} (len : w.given.length = 11) :
    routeRefusal s w =
      let n := routeWritten w (routeOf s w.index)
      if 8 ≤ w.index then some .badIndex
      else if s.mgt.mode = .safe ∨ ([6, 7, 8, 9, 10].any w.has = true) ∨
          (s.mgt.mode ≠ .setup ∧ [0, 1, 2, 3].any w.has = true) then some .wrongMode
      else if n.base < 0x20 ∨ 0x5F < n.base ∨ n.span ∉ [1, 2, 4, 8] ∨ n.base % n.span ≠ 0 ∨ 0x5F < n.base + n.span - 1 ∨
          (n.inUse = true ∧ ∃ j : Fin 8, j.val ≠ w.index ∧ (routeOf s j).inUse = true ∧
            n.base < (routeOf s j).base + (routeOf s j).span ∧ (routeOf s j).base < n.base + n.span) then some .badValue
      else none := by
  simp only [routeRefusal, routePermitted_iff len, not_wellPlaced_iff, overlaps_any_iff, ite_ite_same, or_assoc]

theorem routeWritten_role (w : Write) (r : Route) :
    (routeWritten w r).role = if w.has 3 then roleOf (w.int 3 0) else r.role := by
  cases given : w.get 3 <;> simp [routeWritten, Write.has, Write.int, given]

theorem rehomes_eq_false_iff (old new : Route) :
    rehomes old new = false ↔ new.inUse = old.inUse ∧ new.base = old.base ∧ new.span = old.span ∧ new.role = old.role := by
  simp only [rehomes, Bool.or_eq_false_iff, bne_eq_false_iff_eq, and_assoc]
  exact ⟨fun ⟨a, b, c, d⟩ => ⟨a.symm, b.symm, c.symm, d.symm⟩, fun ⟨a, b, c, d⟩ => ⟨a.symm, b.symm, c.symm, d.symm⟩⟩

/-! ## A re-homed entry -/

/-- The entry as it stands once re-homed. -/
def Route.fresh (r : Route) : Route := { r with presence := .absent, missed := 0, lastEnable := none, discarded := 0 }

/-- R162: the entry stored, its loss passed on and reported. -/
def State.rehomed (i : Nat) (old new : Route) (s : State) : State :=
  reportIf new.inUse (.node new.base) (reportIf old.inUse (.node old.base)
    (passLoss (isEntryOf .bill s i && old.presence == .present) (isEntryOf .card s i && old.presence == .present)
      (setRoute i new.fresh s)))

/-- R162: the own frames of the old node dropped where the entry was in use, and the polls of the new one. -/
def State.rehomedQueues (i : Nat) (old new : Route) (s : State) : State :=
  rehomePoll i new.inUse (if old.inUse then dropOwnFrames old.base (s.rehomed i old new) else s.rehomed i old new)

theorem rehome_eq (i : Nat) (old new : Route) (s : State) :
    rehome i old new s = tryRelease (endCoveredExchange old (s.rehomedQueues i old new)) := rfl

theorem rehomed_held (i : Nat) (old new : Route) (s : State) :
    LinkHeld (setRoute i new.fresh s) (s.rehomed i old new) :=
  (passLoss_held _ _ _).trans ((reportIf_held _ _ _).trans (reportIf_held _ _ _))

theorem rehomedDropped_held (i : Nat) (old new : Route) (s : State) :
    LinkHeld (setRoute i new.fresh s)
      (if old.inUse then dropOwnFrames old.base (s.rehomed i old new) else s.rehomed i old new) := by
  split
  · exact (rehomed_held i old new s).trans (dropOwnFrames_held _ _)
  · exact rehomed_held i old new s

/-- What stands before a covered exchange ends: the routes with the entry stored, the line, and the polls with its own due. -/
theorem rehomedQueues_kept {i : Nat} (less : i < 8) (old new : Route) (s : State) :
    (s.rehomedQueues i old new).dlk.routes = tset s.dlk.routes i new.fresh ∧
      (s.rehomedQueues i old new).dlk.exchange = s.dlk.exchange ∧ (s.rehomedQueues i old new).dlk.seg = s.dlk.seg ∧
      (s.rehomedQueues i old new).now = s.now ∧
      pollOf (s.rehomedQueues i old new) i =
        { nextDue := s.now, due := new.inUse && s.dlk.seg != .released, deferred := false } := by
  have held := rehomedDropped_held i old new s
  have now : (if old.inUse then dropOwnFrames old.base (s.rehomed i old new) else s.rehomed i old new).now = s.now := by
    split <;> simp [State.rehomed, setRoute]
  have seg : (if old.inUse then dropOwnFrames old.base (s.rehomed i old new) else s.rehomed i old new).dlk.seg = s.dlk.seg :=
    held.line.seg
  unfold State.rehomedQueues
  generalize (if old.inUse then dropOwnFrames old.base (s.rehomed i old new) else s.rehomed i old new) = u at held now seg ⊢
  refine ⟨held.routes, held.line.exchange, seg, now, ?_⟩
  show tget (tset u.dlk.polls i _) _ i = _
  rw [tget_tset_same _ _ _ less, now, seg]

theorem endCoveredExchange_cases (old : Route) (s : State) :
    (endCoveredExchange old s = s ∧ ∀ x, s.dlk.exchange = some x → old.covers x.dest = false) ∨
      ∃ x, s.dlk.exchange = some x ∧ endCoveredExchange old s = unrepliedByKind x (clearExchange s) := by
  unfold endCoveredExchange
  split
  · next x exchange =>
    split
    · exact .inr ⟨x, exchange, rfl⟩
    · next apart =>
      refine .inl ⟨rfl, fun y same => ?_⟩
      obtain rfl := Option.some.inj (exchange.symm.trans same)
      simpa using apart
  · next none_ => exact .inl ⟨rfl, fun x exchange => nomatch none_.symm.trans exchange⟩

theorem unrepliedByKind_polls (x : Exchange) (s : State) : PollsKept s (unrepliedByKind x s) := by
  unfold unrepliedByKind
  split
  · exact (linkHeld_releasePollSlot _ s).polls
  · exact (ownFrameEnds_held _ _ s).polls
  · exact (pollsKept_of_polls rfl).trans (consumeSlot_held _ _).polls

/-- A covered exchange ends; the routes, the segment and the polls stand. -/
theorem endCoveredExchange_kept (old : Route) (s : State) :
    (endCoveredExchange old s).dlk.routes = s.dlk.routes ∧ (endCoveredExchange old s).dlk.seg = s.dlk.seg ∧
      PollsKept s (endCoveredExchange old s) ∧
      ∀ x, s.dlk.exchange = some x → old.covers x.dest = true → (endCoveredExchange old s).dlk.exchange = none := by
  obtain ⟨same, apart⟩ | ⟨x, -, ends⟩ := endCoveredExchange_cases old s
  · rw [same]
    refine ⟨rfl, rfl, pollsKept_of_polls rfl, fun x exchange covers => ?_⟩
    rw [apart x exchange] at covers
    exact absurd covers (by decide)
  · rw [ends]
    exact ⟨unrepliedByKind_routes x _, (unrepliedByKind_line x _).seg,
      (pollsKept_of_polls rfl).trans (unrepliedByKind_polls x _), fun _ _ _ => (unrepliedByKind_line x _).exchange⟩

theorem tryRelease_poll (s : State) (j : Nat) :
    (pollOf (tryRelease s) j).nextDue = (pollOf s j).nextDue ∧
      ((pollOf s j).deferred = false → (pollOf (tryRelease s) j).deferred = false) ∧
      ((pollOf (tryRelease s) j).due = true ↔
        (pollOf s j).due = true ∧ ((tryRelease s).dlk.seg ≠ .released ∨ s.dlk.seg = .released)) := by
  unfold tryRelease
  split
  · next pending =>
    have poll : tget (tmap (fun p : PollSlot => ({ p with due := false, deferred := false } : PollSlot)) s.dlk.polls) ⟨0, false, false⟩ j =
        { pollOf s j with due := false, deferred := false } :=
      tget_tmap (fun p : PollSlot => ({ p with due := false, deferred := false } : PollSlot)) s.dlk.polls ⟨0, false, false⟩ j
    simp only [pollOf] at poll ⊢
    rw [poll]
    simp [pending.1]
  · refine ⟨rfl, id, ?_⟩
    by_cases released : s.dlk.seg = .released
    · simp [released]
    · simp [released]

theorem tryRelease_released {s : State} (released : s.dlk.seg = .released) : (tryRelease s).dlk.seg = .released := by
  rw [tryRelease_owned (by rw [released]; decide), released]

/-! ## The own frames of a re-homed entry -/

theorem OwnersIdle.of_blocks {s t : State} (h : OwnersIdle s) (csh : t.csh = s.csh) (crd : t.crd = s.crd) : OwnersIdle t :=
  ⟨csh ▸ h.escrow, crd ▸ h.owed, crd ▸ h.state⟩

theorem isEntryOf_unused {s : State} {i : Nat} {role : Role} (unused : (routeOf s i).inUse = false) : isEntryOf role s i = false := by
  rw [Bool.eq_false_iff, ne_eq, isEntryOf_iff]
  intro entry
  obtain ⟨⟨j, r⟩, found, rfl⟩ := Option.map_eq_some_iff.mp entry
  obtain ⟨-, stands, used, -⟩ := entryOf_spec found
  rw [stands, used] at unused
  exact absurd unused (by decide)

/-- An entry that was not in use leaves the own frames as they were (log entry 38). -/
theorem rehome_own_unused {i : Nat} {new : Route} {s : State} (unused : (routeOf s i).inUse = false) :
    (rehome i (routeOf s i) new s).dlk.own = s.dlk.own := by
  have bill := isEntryOf_unused (role := .bill) unused
  have card := isEntryOf_unused (role := .card) unused
  have own : (s.rehomedQueues i (routeOf s i) new).dlk.own = s.dlk.own := by
    simp [State.rehomedQueues, rehomePoll, unused, State.rehomed, bill, card, passLoss, setRoute]
  have kept : endCoveredExchange (routeOf s i) (s.rehomedQueues i (routeOf s i) new) = s.rehomedQueues i (routeOf s i) new := by
    unfold endCoveredExchange
    split
    · exact if_neg (by simp [Route.covers, unused])
    · rfl
  rw [rehome_eq, tryRelease_own, kept, own]

/-- With idle owners, an entry that was in use drops the own frames of its node. -/
theorem rehome_own_used {i : Nat} {old new : Route} {s : State} (used : old.inUse = true)
    (session : s.crd.state = .none ∨ s.crd.state = .opened) (owed : s.crd.owed = none) (escrow : s.csh.escrow = none) :
    (rehome i old new s).dlk.own = s.dlk.own.filter fun f => f.node != old.base := by
  obtain ⟨dlk, idle⟩ := passLoss_idle (s := setRoute i new.fresh s) escrow owed session
    (isEntryOf .bill s i && old.presence == .present) (isEntryOf .card s i && old.presence == .present)
  have rehomedIdle : OwnersIdle (s.rehomed i old new) := idle.of_blocks (by simp [State.rehomed]) (by simp [State.rehomed])
  have rehomedOwn : (s.rehomed i old new).dlk.own = s.dlk.own := by
    simp only [State.rehomed, reportIf_frame, dlk]
    rfl
  set d := dropOwnFrames old.base (s.rehomed i old new) with dropped
  have drops := dropOwnFrames_idle rehomedIdle old.base
  have own : d.dlk.own = s.dlk.own.filter fun f => f.node != old.base := by rw [dropped, drops, ← rehomedOwn]
  have queues : s.rehomedQueues i old new = rehomePoll i new.inUse d := by
    unfold State.rehomedQueues
    rw [if_pos used]
  have stillIdle : OwnersIdle (rehomePoll i new.inUse d) := by
    rw [dropped, drops]
    exact ⟨rehomedIdle.escrow, rehomedIdle.owed, rehomedIdle.state⟩
  rw [rehome_eq, tryRelease_own, queues]
  obtain ⟨same, -⟩ | ⟨x, -, ends⟩ := endCoveredExchange_cases old (rehomePoll i new.inUse d)
  · rw [same]
    exact own
  · rw [ends, unrepliedByKind_own (s := clearExchange (rehomePoll i new.inUse d)) ⟨stillIdle.escrow, stillIdle.owed, stillIdle.state⟩]
    exact own

end Sys2Proof.Machine
end

section
/-! PROOF. The write to the route table (R162). -/

namespace Sys2Proof.Machine

/-- Settles O14: the checks as one chain of answers; a re-homed entry by what each of its steps keeps. -/
theorem routeWriteChecksThenStores : Obligations.RouteWriteChecksThenStores := by
  intro src p w s h hr
  obtain ⟨t, named⟩ : ∃ t, t = deliver src kTableWrite (writeRoute p) s := ⟨_, rfl⟩
  refine ⟨t, congrArg Host.Outcome.next named.symm, ?_⟩
  have outcome : WriteOutcome src (routeRefusal s w)
      (StoredAnswer src 6 w.index s t ∧ t = { storeRouteWrite w s.taken with ulk := t.ulk }) s t :=
    named ▸ deliver_ownedWrite src (refusal := routeRefusal) (store := storeRouteWrite) h hr rfl (by simp)
  simp only [routeRefusal_eq s (readWrite_length hr), writeOutcome_ite] at outcome
  intro r inUse base span role
  set n := routeWritten w r with written
  have roleSame : n.role = role := routeWritten_role w r
  refine else_imp (fun inTable => else_imp fun _ => else_imp fun _ => ?_) outcome
  have less : w.index < 8 := Nat.lt_of_not_le inTable
  rintro ⟨answered, beside⟩
  by_cases stays : rehomes r n = false
  · obtain ⟨sameUse, sameBase, sameSpan, sameRole⟩ := (rehomes_eq_false_iff r n).mp stays
    rw [if_pos ⟨sameUse, sameBase, sameSpan, roleSame.symm.trans sameRole⟩]
    have stored : storeRouteWrite w s.taken = setRoute w.index n s.taken := if_neg (show ¬rehomes r n = true by simp [stays])
    rw [stored] at beside
    have entry : n = { r with
        pollInterval := max 20 (min 1000 (w.nat 4 r.pollInterval)), timeout := max 10 (min 250 (w.nat 5 r.timeout)) } := by
      rw [← sameUse, ← sameBase, ← sameSpan, ← sameRole]
      rfl
    refine ⟨answered, ?_, ?_, fun j other => ?_, ?_⟩
    · rw [beside]
      constructor <;> simp [setRoute]
    · rw [← entry, beside]
      exact routeOf_setRoute less n s.taken
    · rw [beside]
      exact routeOf_setRoute_ne other n s.taken
    · rw [beside]
      rfl
  · have moves : ¬(inUse = r.inUse ∧ base = r.base ∧ span = r.span ∧ role = r.role) := by
      rw [← roleSame]
      exact fun same => stays ((rehomes_eq_false_iff r n).mpr same)
    rw [if_neg moves]
    have stored : storeRouteWrite w s.taken = rehome w.index r n s.taken := if_pos (show rehomes r n = true by simpa using stays)
    rw [stored] at beside
    obtain ⟨routes, exchange, seg, now, poll⟩ := rehomedQueues_kept less r n s.taken
    set q := s.taken.rehomedQueues w.index r n with queues
    obtain ⟨routes', seg', polls, ended⟩ := endCoveredExchange_kept r q
    obtain ⟨nextDue, deferred, due⟩ := tryRelease_poll (endCoveredExchange r q) w.index
    obtain ⟨nextDue', due', deferred'⟩ := polls w.index
    have dlk : t.dlk = (tryRelease (endCoveredExchange r q)).dlk := by
      rw [beside]
      rfl
    have table : t.dlk.routes = tset s.dlk.routes w.index n.fresh := by rw [dlk, tryRelease_routes, routes', routes]; rfl
    have pollSame : pollOf t w.index = pollOf (tryRelease (endCoveredExchange r q)) w.index := by simp only [pollOf, dlk]
    refine ⟨answered, ?_, fun j other => ?_, fun x had covers => ?_, fun unused => ?_, fun used session owed escrow => ?_, ?_, ?_, ?_⟩
    · rw [routeOf, table, tget_tset_same _ _ _ less, ← roleSame]
      rfl
    · rw [routeOf, table, tget_tset_ne _ _ _ other]
      rfl
    · rw [dlk, tryRelease_exchange]
      exact ended x (exchange.trans had) covers
    · rw [beside]
      exact rehome_own_unused (s := s.taken) unused
    · rw [beside]
      exact rehome_own_used (s := s.taken) used session owed escrow
    · rw [pollSame, nextDue, nextDue', poll]
      rfl
    · rw [pollSame]
      exact deferred (deferred' (by rw [poll]))
    · rw [pollSame, due, due', dlk, seg', seg, poll]
      have back : (tryRelease (endCoveredExchange r q)).dlk.seg ≠ .released → s.dlk.seg ≠ .released := fun stands released =>
        stands (tryRelease_released (seg'.trans (seg.trans released)))
      show (n.inUse && s.dlk.seg != .released) = true ∧ (_ ∨ s.dlk.seg = .released) ↔ n.inUse = true ∧ _
      rw [Bool.and_eq_true, bne_iff_ne]
      constructor
      · rintro ⟨⟨used, open_⟩, stands | released⟩
        · exact ⟨used, stands⟩
        · exact absurd released open_
      · exact fun ⟨used, stands⟩ => ⟨⟨used, back stands⟩, .inl stands⟩

end Sys2Proof.Machine
end

section
/-! SUPPORT. The compressor: what a change of its state leaves, where GUARD and IDLE lead, and the evaluation of its claim (R120 to
R129, R138, R140). -/

namespace Sys2Proof.Machine

/-! ## A change of state (R129, R130) -/

/-- A change of state is one of the state, its fans and its run times. -/
@[simp] theorem setComp_clg_frame (c : CompState) (s : State) :
    (setComp c s).clg.sensors = s.clg.sensors ∧ (setComp c s).clg.points = s.clg.points ∧
    (setComp c s).clg.settings = s.clg.settings ∧ (setComp c s).clg.temp = s.clg.temp ∧
    (setComp c s).clg.filtered = s.clg.filtered ∧ (setComp c s).clg.blind = s.clg.blind ∧
    (setComp c s).clg.blindSince = s.clg.blindSince ∧ (setComp c s).clg.demand = s.clg.demand ∧
    (setComp c s).clg.contactor = s.clg.contactor ∧ (setComp c s).clg.startedAt = s.clg.startedAt ∧
    (setComp c s).clg.lastStop = s.clg.lastStop ∧ (setComp c s).clg.runTicks = s.clg.runTicks ∧
    (setComp c s).clg.stateSince = s.clg.stateSince ∧ (setComp c s).clg.termInForce = s.clg.termInForce ∧
    (setComp c s).clg.maxInForce = s.clg.maxInForce ∧ (setComp c s).clg.dripInForce = s.clg.dripInForce ∧
    (setComp c s).clg.hot = s.clg.hot ∧ (setComp c s).clg.tripCount = s.clg.tripCount ∧
    (setComp c s).clg.grace = s.clg.grace ∧ (setComp c s).clg.warmTime = s.clg.warmTime ∧
    (setComp c s).clg.hold = s.clg.hold ∧ (setComp c s).clg.ecoRequested = s.clg.ecoRequested ∧
    (setComp c s).clg.ecoEffective = s.clg.ecoEffective ∧ (setComp c s).clg.nextSample = s.clg.nextSample := by
  unfold setComp
  split
  · simp
  · simp [setFans]

theorem setComp_self {c : CompState} {s : State} (same : s.clg.comp = c) : setComp c s = s := if_pos same

/-- A state that changes is reported, with the fans as it wants them. -/
theorem setComp_moved {c : CompState} {s : State} (moves : s.clg.comp ≠ c) :
    Reported .cooling (setComp c s) ∧ (setComp c s).clg.evapFan = (!s.cmn.doorOpen && c != .drip) ∧
      (setComp c s).clg.condFan = s.clg.contactor ∧
      (setComp c s).clg.runEntered = if c = .run then s.now else s.clg.runEntered := by
  unfold setComp
  rw [if_neg moves]
  exact ⟨report_reported _ _, by simp, by simp, by simp [setFans]⟩

theorem setComp_changes (c : CompState) (s : State) : ChangesOnly [.clg, .rpq] s (setComp c s) := by
  constructor <;> simp

/-- With the contactor as it stands, a change of state leaves the condenser fan with it. -/
theorem setComp_condFan {c : CompState} {s : State} (follows : s.clg.condFan = s.clg.contactor) :
    (setComp c s).clg.condFan = s.clg.contactor := by
  by_cases same : s.clg.comp = c
  · rw [setComp_self same, follows]
  · exact (setComp_moved same).2.2.1

/-! ## IDLE and GUARD (R120, R121, R126) -/

theorem idleLook_rests {s : State} (rests : s.clg.comp ≠ .idle ∨ s.mgt.mode = .safe ∨ s.clg.hot = true ∨
    s.clg.blind = false ∧ s.clg.demand = false) : idleLook s = s := by
  unfold idleLook
  split
  · next looks =>
    obtain ⟨idle, awake, cool⟩ := looks
    obtain other | safe | hot | ⟨sees, none⟩ := rests
    · exact absurd idle other
    · exact absurd safe awake
    · exact absurd (hot.symm.trans cool) (by decide)
    · simp [sees, none]
  · rfl

theorem idleLook_blind {s : State} (idle : s.clg.comp = .idle) (awake : s.mgt.mode ≠ .safe) (cool : s.clg.hot = false)
    (blind : s.clg.blind = true) : idleLook s = fileStart (setComp .blindOn s) := by
  simp [idleLook, idle, awake, cool, blind]

theorem idleLook_demand {s : State} (idle : s.clg.comp = .idle) (awake : s.mgt.mode ≠ .safe) (cool : s.clg.hot = false)
    (sees : s.clg.blind = false) (demand : s.clg.demand = true) : idleLook s = fileStart (setComp .waitSupply s) := by
  simp [idleLook, idle, awake, cool, sees, demand]

theorem leaveGuard_rests {s : State} (rests : s.mgt.mode = .safe ∨ s.clg.hot = true ∨ s.clg.blind = false ∧ s.clg.demand = false) :
    leaveGuard s = setComp .idle s :=
  idleLook_rests (.inr (by simpa using rests))

theorem leaveGuard_blind {s : State} (awake : s.mgt.mode ≠ .safe) (cool : s.clg.hot = false) (blind : s.clg.blind = true) :
    leaveGuard s = fileStart (setComp .blindOn (setComp .idle s)) :=
  idleLook_blind (setComp_comp _ _) (by simpa using awake) (by simpa using cool) (by simpa using blind)

theorem leaveGuard_demand {s : State} (awake : s.mgt.mode ≠ .safe) (cool : s.clg.hot = false) (sees : s.clg.blind = false)
    (demand : s.clg.demand = true) : leaveGuard s = fileStart (setComp .waitSupply (setComp .idle s)) :=
  idleLook_demand (setComp_comp _ _) (by simpa using awake) (by simpa using cool) (by simpa using sees) (by simpa using demand)

theorem enterGuard_waits {s : State} (runs : s.now < s.clg.lastStop + seconds 180) : enterGuard s = setComp .guard s :=
  if_neg (Nat.not_le.mpr runs)

theorem enterGuard_past {s : State} (past : s.clg.lastStop + seconds 180 ≤ s.now) :
    enterGuard s = leaveGuard (setComp .guard s) := if_pos past

/-- A start of the guard time leads into GUARD itself. -/
theorem enterGuard_stopped {s : State} (stopped : s.clg.lastStop = s.now) : enterGuard s = setComp .guard s :=
  enterGuard_waits (stopped ▸ Nat.lt_add_of_pos_right (by decide))

/-! ## The claim of the compressor (R121, R136, R138) -/

@[simp] theorem fileStart_units (s : State) : unitsGranted (fileStart s) = unitsGranted s := rfl

theorem fileStart_claims {s : State} (none : ∀ c ∈ s.lds.claims, c.kind ≠ .compressor) :
    (fileStart s).lds.claims = s.lds.claims ++ [⟨.compressor, 4, s.now, false⟩] := by
  have kept : s.lds.claims.filter (fun c => c.kind != .compressor) = s.lds.claims :=
    List.filter_eq_self.mpr fun c mem => bne_iff_ne.mpr (none c mem)
  show s.lds.claims.filter _ ++ _ = _
  rw [kept]

/-- A start claim that waits alone is passed over while a unit is granted. -/
theorem evaluateClaims_startWaits {s : State} {since : Time} (alone : s.lds.claims = [⟨.compressor, 4, since, false⟩])
    (busy : 0 < unitsGranted s) : evaluateClaims s = s := by
  have held : ¬4 ≤ freeUnits s := by
    unfold freeUnits
    omega
  exact evaluateClaims_of_none (by simp [nextGrant, grantableClaim, alone, held])

/-- A start claim that waits alone is granted where all units are free. -/
theorem evaluateClaims_startGranted {s : State} {since : Time} (alone : s.lds.claims = [⟨.compressor, 4, since, false⟩])
    (awake : s.mgt.mode ≠ .safe) (free : unitsGranted s = 0) :
    evaluateClaims s = startCompressor { s with lds := { s.lds with claims := [] } } := by
  have fits : (4 : Nat) ≤ freeUnits s := by
    unfold freeUnits
    omega
  have next : nextGrant s = some ⟨.compressor, 4, since, false⟩ := by simp [nextGrant, grantableClaim, alone, fits, awake]
  unfold evaluateClaims
  rw [alone]
  show evaluateUpTo 1 s = _
  simp only [evaluateUpTo, next, grantClaim, withdrawClaim, alone]
  rfl

/-- The compressor that waits for the supply starts. -/
theorem startCompressor_starts {s : State} (waits : s.clg.comp ≠ .blindOn) :
    (startCompressor s).clg.comp = .start ∧ (startCompressor s).clg.contactor = true ∧
      (startCompressor s).clg.startedAt = s.now ∧ (startCompressor s).clg.condFan = true ∧
      (startCompressor s).lds = { s.lds with compUnits := 4 } := by
  unfold startCompressor
  dsimp only
  rw [if_neg waits]
  exact ⟨setComp_comp _ _, by simp, by simp, setComp_condFan rfl, by simp⟩

theorem evaluateClaims_starts {s : State} {since : Time} (alone : s.lds.claims = [⟨.compressor, 4, since, false⟩])
    (awake : s.mgt.mode ≠ .safe) (free : unitsGranted s = 0) (waits : s.clg.comp ≠ .blindOn) :
    (evaluateClaims s).clg.comp = .start ∧ (evaluateClaims s).clg.contactor = true ∧ (evaluateClaims s).clg.startedAt = s.now ∧
      (evaluateClaims s).clg.condFan = true ∧ (evaluateClaims s).lds = { s.lds with claims := [], compUnits := 4 } := by
  rw [evaluateClaims_startGranted alone awake free]
  exact startCompressor_starts (s := { s with lds := { s.lds with claims := [] } }) waits

/-- In BLIND the compressor starts in the state it has. -/
theorem startCompressor_blind {s : State} (blind : s.clg.comp = .blindOn) :
    startCompressor s = { s with
      lds := { s.lds with compUnits := 4 }
      clg := { s.clg with contactor := true, condFan := true, startedAt := s.now } } :=
  if_pos blind

/-- An evaluation leaves BLIND_ON in place: a start granted in it begins its period. -/
theorem evaluateClaims_blindOn {s : State} (blind : s.clg.comp = .blindOn) : (evaluateClaims s).clg.comp = .blindOn := by
  refine evaluateClaims_induct (P := fun u => u.clg.comp = .blindOn) blind fun u c _ stands => ?_
  unfold grantClaim
  dsimp only
  split
  · unfold grantVend; split <;> exact stands
  · simpa using stands
  · unfold energizeCheck; split <;> exact stands
  · rw [startCompressor_blind (s := withdrawClaim c.kind u) stands]
    exact stands

/-- What the cooling sample and the settings have stored, an evaluation leaves. -/
theorem grantClaim_clg_frame (c : Claim) (s : State) : ∃ comp contactor startedAt runEntered contRun evapFan condFan,
    (grantClaim c s).clg = { s.clg with
      comp := comp, contactor := contactor, startedAt := startedAt, runEntered := runEntered, contRun := contRun
      evapFan := evapFan, condFan := condFan } := by
  have kept {t : State} (h : t.clg = s.clg) : ∃ comp contactor startedAt runEntered contRun evapFan condFan, t.clg = { s.clg with
      comp := comp, contactor := contactor, startedAt := startedAt, runEntered := runEntered, contRun := contRun
      evapFan := evapFan, condFan := condFan } := ⟨_, _, _, _, _, _, _, h⟩
  unfold grantClaim
  dsimp only
  split
  · exact kept (by unfold grantVend; split <;> rfl)
  · exact kept (by simp)
  · exact kept (by unfold energizeCheck; split <;> rfl)
  · unfold startCompressor setComp
    dsimp only
    split
    · exact ⟨_, _, _, _, _, _, _, rfl⟩
    · split
      · exact ⟨_, _, _, _, _, _, _, rfl⟩
      · exact ⟨_, _, _, _, _, _, _, by simp only [report_frame]; rfl⟩

/-- R118, R124, R132: an evaluation leaves the settings, what the sample stored, and the times of DEFROST and DRIP. -/
@[simp] theorem evaluateClaims_clg_frame (s : State) :
    (evaluateClaims s).clg.sensors = s.clg.sensors ∧ (evaluateClaims s).clg.points = s.clg.points ∧
    (evaluateClaims s).clg.settings = s.clg.settings ∧ (evaluateClaims s).clg.temp = s.clg.temp ∧
    (evaluateClaims s).clg.filtered = s.clg.filtered ∧ (evaluateClaims s).clg.blind = s.clg.blind ∧
    (evaluateClaims s).clg.blindSince = s.clg.blindSince ∧ (evaluateClaims s).clg.demand = s.clg.demand ∧
    (evaluateClaims s).clg.lastStop = s.clg.lastStop ∧ (evaluateClaims s).clg.hot = s.clg.hot ∧
    (evaluateClaims s).clg.tripCount = s.clg.tripCount ∧ (evaluateClaims s).clg.grace = s.clg.grace ∧
    (evaluateClaims s).clg.warmTime = s.clg.warmTime ∧ (evaluateClaims s).clg.hold = s.clg.hold ∧
    (evaluateClaims s).clg.ecoRequested = s.clg.ecoRequested ∧ (evaluateClaims s).clg.ecoEffective = s.clg.ecoEffective ∧
    (evaluateClaims s).clg.nextSample = s.clg.nextSample := by
  refine evaluateClaims_induct (P := fun u => u.clg.sensors = s.clg.sensors ∧ u.clg.points = s.clg.points ∧
    u.clg.settings = s.clg.settings ∧ u.clg.temp = s.clg.temp ∧ u.clg.filtered = s.clg.filtered ∧ u.clg.blind = s.clg.blind ∧
    u.clg.blindSince = s.clg.blindSince ∧ u.clg.demand = s.clg.demand ∧ u.clg.lastStop = s.clg.lastStop ∧ u.clg.hot = s.clg.hot ∧
    u.clg.tripCount = s.clg.tripCount ∧ u.clg.grace = s.clg.grace ∧ u.clg.warmTime = s.clg.warmTime ∧ u.clg.hold = s.clg.hold ∧
    u.clg.ecoRequested = s.clg.ecoRequested ∧ u.clg.ecoEffective = s.clg.ecoEffective ∧ u.clg.nextSample = s.clg.nextSample)
    (by simp) fun u c _ before => ?_
  obtain ⟨_, _, _, _, _, _, _, granted⟩ := grantClaim_clg_frame c u
  rw [granted]
  exact before

/-! ## The write to the cooling settings (R118, R127) -/

theorem coolingRefusal_eq (s : State) (w : Write) : coolingRefusal s w =
    (let n := coolingWritten w s.clg.settings
    if s.mgt.mode = .safe then some .wrongMode
    else if n.setpoint < -50 ∨ 150 < n.setpoint ∨ n.differential < 5 ∨ 50 < n.differential ∨ n.economyOffset < 0 ∨
        60 < n.economyOffset ∨ n.safeLimit < 0 ∨ 150 < n.safeLimit ∨ n.holdDelay < 1 ∨ 120 < n.holdDelay ∨
        n.defrostInterval < 1 ∨ 24 < n.defrostInterval ∨ n.defrostTermination < 0 ∨ 150 < n.defrostTermination ∨
        n.defrostMaximum < 5 ∨ 60 < n.defrostMaximum ∨ 600 < n.dripTime ∨ n.condenserTrip < 400 ∨ 800 < n.condenserTrip then
      some .badValue
    else none) := by
  unfold coolingRefusal CoolSettings.inRange
  generalize coolingWritten w s.clg.settings = n
  refine ite_congr rfl (fun _ => rfl) fun _ => ite_congr (propext ?_) (fun _ => rfl) fun _ => rfl
  simp only [Bool.not_eq_true', Bool.and_eq_false_iff, decide_eq_false_iff_not]
  omega

/-- The state with the cooling settings stored. -/
def State.coolingSet (n : CoolSettings) (s : State) : State := { s with clg := { s.clg with settings := n } }

theorem disableCooling_disabled (s : State) :
    (disableCooling s).clg.comp = .disabled ∧ (disableCooling s).clg.contactor = false ∧ (disableCooling s).lds.compUnits = 0 ∧
      (∀ c ∈ (disableCooling s).lds.claims, c.kind ≠ .compressor) ∧ (disableCooling s).clg.settings = s.clg.settings ∧
      ChangesOnly [.clg, .lds, .rpq] s (disableCooling s) := by
  unfold disableCooling
  refine ⟨setComp_comp _ _, ?_, ?_, ?_, ?_, ?_⟩
  · by_cases on : s.clg.contactor <;> simp [on]
  · by_cases on : s.clg.contactor <;> simp [on]
  · intro c mem
    simp only [setComp_frame, withdrawClaim_claims, List.mem_filter, bne_iff_ne] at mem
    exact mem.2
  · by_cases on : s.clg.contactor <;> simp [on, compStop, contactorOff]
  · by_cases on : s.clg.contactor <;> constructor <;> simp [on]

theorem enterGuard_changes (s : State) : ChangesOnly [.clg, .lds, .rpq] s (enterGuard s) := by
  constructor <;> simp

@[simp] theorem idleLook_settings (s : State) : (idleLook s).clg.settings = s.clg.settings := by
  unfold idleLook
  repeat' split
  all_goals simp

@[simp] theorem enterGuard_settings (s : State) : (enterGuard s).clg.settings = s.clg.settings := by
  obtain runs | past := Nat.lt_or_ge s.now (s.clg.lastStop + seconds 180)
  · rw [enterGuard_waits runs]
    simp
  · rw [enterGuard_past past, leaveGuard]
    simp

/-- R121: from GUARD the compressor is looked at as from IDLE, with its claim not yet filed. -/
theorem enterGuard_unclaimed {s : State} (rests : s.now < s.clg.lastStop + seconds 180 ∨ s.mgt.mode = .safe ∨ s.clg.hot = true ∨
    s.clg.blind = false ∧ s.clg.demand = false) : (enterGuard s).lds = s.lds ∧ (enterGuard s).clg.contactor = s.clg.contactor := by
  obtain runs | past := Nat.lt_or_ge s.now (s.clg.lastStop + seconds 180)
  · rw [enterGuard_waits runs]
    simp
  · have looks := rests.resolve_left (Nat.not_lt.mpr past)
    rw [enterGuard_past past, leaveGuard_rests (by simpa using looks)]
    simp

theorem enterGuard_demand {s : State} (past : s.clg.lastStop + seconds 180 ≤ s.now) (awake : s.mgt.mode ≠ .safe)
    (cool : s.clg.hot = false) (sees : s.clg.blind = false) (demand : s.clg.demand = true) :
    (enterGuard s).clg.comp = .waitSupply ∧ (enterGuard s).lds = (fileStart s).lds := by
  rw [enterGuard_past past, leaveGuard_demand (by simpa using awake) (by simpa using cool) (by simpa using sees)
    (by simpa using demand)]
  exact ⟨by simp [setComp_comp], by simp [fileStart, fileClaim]⟩

theorem enterGuard_blind {s : State} (past : s.clg.lastStop + seconds 180 ≤ s.now) (awake : s.mgt.mode ≠ .safe)
    (cool : s.clg.hot = false) (blind : s.clg.blind = true) :
    (enterGuard s).clg.comp = .blindOn ∧ (enterGuard s).lds = (fileStart s).lds := by
  rw [enterGuard_past past, leaveGuard_blind (by simpa using awake) (by simpa using cool) (by simpa using blind)]
  exact ⟨by simp [setComp_comp], by simp [fileStart, fileClaim]⟩

theorem enterGuard_idle {s : State} (past : s.clg.lastStop + seconds 180 ≤ s.now)
    (rests : s.mgt.mode = .safe ∨ s.clg.hot = true ∨ s.clg.blind = false ∧ s.clg.demand = false) :
    (enterGuard s).clg.comp = .idle := by
  rw [enterGuard_past past, leaveGuard_rests (by simpa using rests)]
  exact setComp_comp _ _

/-- R120, R121, R126: what an evaluation leaves where the compressor has entered GUARD. -/
theorem enterGuard_evaluated {u : State} (alone : ∀ c ∈ u.lds.claims, c.kind ≠ .compressor) (awake : u.mgt.mode ≠ .safe) :
    let t := evaluateClaims (enterGuard u)
    (u.now < u.clg.lastStop + seconds 180 → t.clg.comp = .guard) ∧
    (u.clg.lastStop + seconds 180 ≤ u.now → u.clg.hot = true ∨ (u.clg.blind = false ∧ u.clg.demand = false) → t.clg.comp = .idle) ∧
    (u.clg.lastStop + seconds 180 ≤ u.now → u.clg.hot = false → u.clg.blind = true → t.clg.comp = .blindOn) ∧
    (u.clg.lastStop + seconds 180 ≤ u.now → u.clg.hot = false → u.clg.blind = false → u.clg.demand = true → u.lds.claims = [] →
      (0 < unitsGranted u → t.clg.comp = .waitSupply ∧ t.lds.claims = [⟨.compressor, 4, u.now, false⟩]) ∧
      (unitsGranted u = 0 → t.clg.comp = .start ∧ t.clg.contactor = true ∧ t.lds.compUnits = 4)) := by
  refine ⟨fun runs => ?_, fun past rests => ?_, fun past cool blind => ?_, fun past cool sees demand none => ?_⟩
  · obtain ⟨lds, -⟩ := enterGuard_unclaimed (.inl runs)
    rw [(evaluateClaims_clg (lds ▸ alone)).1, enterGuard_waits runs]
    exact setComp_comp _ _
  · obtain ⟨lds, -⟩ := enterGuard_unclaimed (.inr (.inr rests))
    rw [(evaluateClaims_clg (lds ▸ alone)).1]
    exact enterGuard_idle past (.inr rests)
  · exact evaluateClaims_blindOn (enterGuard_blind past awake cool blind).1
  · obtain ⟨comp, lds⟩ := enterGuard_demand past awake cool sees demand
    have claims : (enterGuard u).lds.claims = [⟨.compressor, 4, u.now, false⟩] := by
      rw [lds, fileStart_claims alone, none]
      rfl
    have units : unitsGranted (enterGuard u) = unitsGranted u := by
      unfold unitsGranted
      rw [lds]
      rfl
    refine ⟨fun busy => ?_, fun free => ?_⟩
    · rw [evaluateClaims_startWaits claims (units ▸ busy)]
      exact ⟨comp, claims⟩
    · obtain ⟨starts, contactor, -, -, started⟩ :=
        evaluateClaims_starts claims (by simpa using awake) (units.trans free) (comp ▸ (nofun : CompState.waitSupply ≠ .blindOn))
      exact ⟨starts, contactor, by rw [started]⟩

theorem beside_clg {t u : State} {l : Ulk} (beside : t = { u with ulk := l }) : t.clg = u.clg := by rw [beside]

theorem beside_lds {t u : State} {l : Ulk} (beside : t = { u with ulk := l }) : t.lds = u.lds := by rw [beside]

end Sys2Proof.Machine
end

section
/-! PROOF. The write to the cooling settings (R118, R127). -/

namespace Sys2Proof.Machine

/-- Settles O16: the checks as one chain of answers; disabling and enabling by where GUARD leads. -/
theorem coolingSettingsWriteChecksThenStores : Obligations.CoolingSettingsWriteChecksThenStores := by
  intro src p w s h hr
  obtain ⟨t, named⟩ : ∃ t, t = deliver src kTableWrite (writeCooling p) s := ⟨_, rfl⟩
  refine ⟨t, congrArg Host.Outcome.next named.symm, ?_⟩
  have outcome : WriteOutcome src (coolingRefusal s w)
      (StoredAnswer src 8 w.index s t ∧ t = { storeCoolingWrite w s.taken with ulk := t.ulk }) s t :=
    named ▸ deliver_ownedWrite src (refusal := coolingRefusal) (store := storeCoolingWrite) h hr rfl (by simp)
  simp only [coolingRefusal_eq, writeOutcome_ite] at outcome
  intro o n
  refine else_imp (fun awake => else_imp fun _ => ?_) outcome
  rintro ⟨answered, beside⟩
  have index : w.index = 0 := readWrite_index_eq_zero (.inr (.inl rfl)) hr
  rw [index] at answered
  set u := s.taken.coolingSet n with stored
  have changes : ChangesOnly (.ulk :: Block.grants) s u := by constructor <;> simp [stored, State.coolingSet, State.taken, Block.grants]
  have answers (v : State) : ChangesOnly [.ulk] v { v with ulk := t.ulk } := by constructor <;> simp
  -- the three ways of the write
  have same (kept : n.enabled = o.enabled) : storeCoolingWrite w s.taken = evaluateClaims u :=
    congrArg evaluateClaims (if_pos kept.symm)
  have disables (off : n.enabled = false) (on : o.enabled = true) :
      storeCoolingWrite w s.taken = evaluateClaims (disableCooling u) := by
    refine congrArg evaluateClaims ((if_neg ?_).trans (if_neg ?_))
    · show ¬o.enabled = n.enabled
      rw [off, on]
      decide
    · show ¬n.enabled = true
      rw [off]
      decide
  have enables (on : n.enabled = true) (off : o.enabled = false) : storeCoolingWrite w s.taken =
      evaluateClaims (if s.clg.comp = .disabled then enterGuard u else u) := by
    refine congrArg evaluateClaims ((if_neg ?_).trans (if_pos on))
    show ¬o.enabled = n.enabled
    rw [off, on]
    decide
  have three : ∃ v, storeCoolingWrite w s.taken = evaluateClaims v ∧ v.clg.settings = n ∧ ChangesOnly [.clg, .lds, .rpq] u v := by
    cases held : o.enabled <;> cases given : n.enabled
    · exact ⟨u, same (given.trans held.symm), rfl, .refl _ u⟩
    · refine ⟨_, enables given held, ?_, ?_⟩ <;> split
      · simp [stored, State.coolingSet]
      · rfl
      · exact enterGuard_changes u
      · exact .refl _ u
    · obtain ⟨-, -, -, -, settings, changes⟩ := disableCooling_disabled u
      exact ⟨_, disables given held, settings, changes⟩
    · exact ⟨u, same (given.trans held.symm), rfl, .refl _ u⟩
  refine ⟨answered, ?_, ?_, fun off on => ?_, fun kept unclaimed => ?_, fun on off disabled unclaimed => ?_⟩
  · obtain ⟨v, by_, settings, -⟩ := three
    rw [beside, by_]
    simpa using settings
  · obtain ⟨v, by_, -, only⟩ := three
    rw [beside, by_]
    exact ((changes.trans (only.mono (by decide))).trans ((evaluateClaims_grants v).only.mono (by decide))).trans
      ((answers _).mono (by decide))
  · obtain ⟨comp, contactor, units, claims, -⟩ := disableCooling_disabled u
    obtain ⟨clg, comps⟩ := evaluateClaims_clg claims
    rw [beside, disables off on]
    exact ⟨clg ▸ comp, clg ▸ contactor, comps ▸ units, fun c mem => claims c (evaluateClaims_claims mem)⟩
  · rw [beside, same kept, evaluateClaims_nil (s := u) unclaimed]
    exact ⟨by constructor <;> simp [stored, State.coolingSet, State.taken], rfl⟩
  · have entered : storeCoolingWrite w s.taken = evaluateClaims (enterGuard u) := by
      rw [enables on off, if_pos disabled]
    obtain ⟨waits, rests, blind, demand⟩ := enterGuard_evaluated (u := u) (unclaimed disabled) awake
    rw [entered] at beside
    rw [beside_clg beside, beside_lds beside]
    exact ⟨waits, fun past => ⟨rests past, blind past, demand past⟩⟩

end Sys2Proof.Machine
end

section
/-! SUPPORT. The checks of GO ONLINE (R184) and what a change of mode leaves (R189). -/

namespace Sys2Proof.Machine

/-! ## The first item that fails a check (R184) -/

theorem firstFailing_first {table n : Nat} {f : Nat → Bool} {fails : Nat → Prop} (means : ∀ i, fails i ↔ i < n ∧ f i = true) {i : Nat}
    (first : fails i ∧ ∀ j < i, ¬fails j) : firstFailing table n f = some (table, i) := by
  obtain ⟨less, hit⟩ := (means i).mp first.1
  have found : (List.range n).find? f = some i := by
    refine List.find?_range_eq_some.mpr ⟨hit, List.mem_range.mpr less, fun j before => ?_⟩
    rw [Bool.not_eq_true', Bool.eq_false_iff]
    exact fun hits => first.2 j before ((means j).mpr ⟨before.trans less, hits⟩)
  rw [firstFailing, found]
  rfl

theorem firstFailing_passes {table n : Nat} {f : Nat → Bool} {fails : Nat → Prop} (means : ∀ i, fails i ↔ i < n ∧ f i = true)
    (within : n ≤ 80) (passes : ∀ i < 80, ¬fails i) : firstFailing table n f = none := by
  have none : (List.range n).find? f = none := by
    refine List.find?_range_eq_none.mpr fun i less => ?_
    rw [Bool.not_eq_true', Bool.eq_false_iff]
    exact fun hits => passes i (less.trans_le within) ((means i).mpr ⟨less, hits⟩)
  rw [firstFailing, none]
  rfl

theorem selectionActive_iff (s : State) (i : Nat) : selectionActive s i = true ↔ (selOf s i).state = .active := by
  rw [selectionActive, beq_iff_eq]

theorem failsPosition_iff (s : State) (i : Nat) : failsPosition s i = true ↔
    (selOf s i).state = .active ∧ ¬((trayOf s (selOf s i).tray).present = true ∧ (positionOf s (selOf s i)).isSome) := by
  rw [failsPosition, Bool.and_eq_true, selectionActive_iff, Bool.not_eq_true', Bool.eq_false_iff, ne_eq, Bool.and_eq_true]

theorem failsShared_iff (s : State) (i : Nat) : failsShared s i = true ↔ (selOf s i).state = .active ∧
    ∃ j < i, (selOf s j).state = .active ∧ ∃ q ∈ positionsOf s i, q ∈ positionsOf s j := by
  simp only [failsShared, Bool.and_eq_true, selectionActive_iff, List.any_eq_true, List.mem_range, List.contains_iff_mem]

theorem failsDenomination_iff (s : State) (i : Nat) : failsDenomination s i = true ↔
    (tubeOf s i).denom ≠ 0 ∧ ∃ j < i, (tubeOf s j).denom = (tubeOf s i).denom := by
  simp only [failsDenomination, Bool.and_eq_true, bne_iff_ne, List.any_eq_true, List.mem_range, beq_iff_eq]

theorem failsRoute_iff (s : State) (i : Nat) : failsRoute s i = true ↔ (coinOf s i).enabled = true ∧
    ∃ tube, (coinOf s i).route = some tube ∧ (coinOf s i).value ≠ (tubeOf s tube).denom := by
  unfold failsRoute
  cases route : (coinOf s i).route with
  | none => simp
  | some tube => simp

theorem failsRole_iff (s : State) (i : Nat) : failsRole s i = true ↔ (routeOf s i).inUse = true ∧ (routeOf s i).role ≠ .passive ∧
    ∃ j < i, (routeOf s j).inUse = true ∧ (routeOf s j).role = (routeOf s i).role := by
  simp only [failsRole, Bool.and_eq_true, bne_iff_ne, List.any_eq_true, List.mem_range, beq_iff_eq, and_assoc]

theorem creditLimit_lt_iff (s : State) : s.csh.creditLimit < largestEnabled s ↔
    (∃ i < 16, (coinOf s i).enabled = true ∧ s.csh.creditLimit < (coinOf s i).value) ∨
      ∃ i < 8, (billOf s i).enabled = true ∧ s.csh.creditLimit < (billOf s i).value := by
  rw [← not_iff_not, Nat.not_lt, largestEnabled_le_iff, LargestValue, not_or]
  simp only [not_exists, not_and, Nat.not_lt]

/-! ## A change of mode (R173, R189) -/

/-- The mode stored and the claims evaluated, before CSH, CRD and DLK take the change. -/
def State.modeTaken (m : Mode) (s : State) : State :=
  evaluateClaims (if m = .online then stopSweep (storeMode m s) else storeMode m s)

theorem changeMode_eq {m : Mode} {s : State} (other : s.mgt.mode ≠ m) : changeMode m s = modeFollows s (s.modeTaken m) := if_neg other

theorem modeTaken_mode (m : Mode) (s : State) : (s.modeTaken m).mgt.mode = m := by
  unfold State.modeTaken
  simp only [evaluateClaims_frame]
  split <;> simp [storeMode]

theorem modeTaken_only (m : Mode) (s : State) : ChangesOnly (.mgt :: Block.grants) s (s.modeTaken m) := by
  have stored : ChangesOnly (.mgt :: Block.grants) s (storeMode m s) := by constructor <;> simp [storeMode]
  unfold State.modeTaken
  refine .trans ?_ ((evaluateClaims_grants _).only.mono (List.subset_cons_self _ _))
  split
  · exact stored.trans (by constructor <;> simp [Block.grants])
  · exact stored

theorem modeFollows_entered {before s : State} (h : before.mgt.mode ≠ .online ∨ s.mgt.mode = .online) :
    modeFollows before s = settleCash before s := by
  unfold modeFollows
  refine if_neg ?_
  rintro ⟨left, other⟩
  exact h.elim (· left) other

theorem modeFollows_left {before s : State} (left : before.mgt.mode = .online) (other : s.mgt.mode ≠ .online) :
    modeFollows before s = segmentLeavesOnline (sessionLeavesOnline (settleCash before s)) :=
  if_pos ⟨left, other⟩

theorem settleCash_moved {before s : State} (moved : before.mgt.mode ≠ s.mgt.mode) : settleCash before s = cshRefresh s :=
  if_neg fun same => moved (congrArg CashInputs.mode same)

theorem modeFollows_csh {before s : State} (moved : before.mgt.mode ≠ s.mgt.mode) :
    (modeFollows before s).csh = (cshRefresh s).csh := by
  unfold modeFollows
  rw [settleCash_moved moved]
  split <;> simp

/-- R68: outside ONLINE no bill is taken. -/
theorem cshRefresh_effMask_offline {s : State} (offline : s.mgt.mode ≠ .online) (i : Nat) :
    tget (cshRefresh s).csh.effMask false i = false := by
  by_cases less : i < 8
  · simp only [cshRefresh, sendEnable_frame, reportIf_frame]
    rw [tget_tmk _ _ less]
    simp [effectiveFlag, offline]
  · exact tget_of_le _ _ (Nat.not_lt.mp less)

theorem sessionLeavesOnline_opened {s : State} (opened : s.crd.state = .opened) :
    (sessionLeavesOnline s).crd.state = .none ∧ (sessionLeavesOnline s).crd.funds = none := by
  rw [sessionLeavesOnline, if_pos opened]
  simp [sessionEnds, sessionNone, setSession]

theorem sessionLeavesOnline_held (s : State) : LinkHeld s (sessionLeavesOnline s) := by
  unfold sessionLeavesOnline
  split
  · exact sessionEnds_held s
  · exact .refl s

/-- R173: a waiting request is acted on when ONLINE is left. -/
theorem segmentLeavesOnline_releases {s : State} (owned : s.dlk.seg = .owned) (waits : s.dlk.requestWaiting = true) :
    (segmentLeavesOnline s).dlk.requestWaiting = false ∧ (segmentLeavesOnline s).dlk.seg ≠ .owned := by
  rw [segmentLeavesOnline, if_pos ⟨owned, waits⟩, pendRelease, tryRelease]
  split <;> exact ⟨rfl, nofun⟩

/-! ## The answers -/

/-- R184: an inconsistency found is answered, and nothing else changes. -/
theorem goOnline_inconsistent {src : Byte} {s : State} {table i : Nat} (h : Deliverable s) (setup : s.mgt.mode = .setup)
    (found : firstInconsistency s = some (table, i)) : ∃ t, exec (.goOnline src []) s = .next t ∧
      Answered src kCommand ⟨.inconsistent, [ch table, ch i]⟩ s t ∧ ChangesOnly [.ulk] s t := by
  have acts : noParams goOnlineCommand [] s.taken = (⟨.inconsistent, [ch table, ch i]⟩, s.taken) := by
    rw [noParams_nil, goOnlineCommand, if_neg (show ¬s.taken.mgt.mode ≠ .setup from fun other => other setup),
      show firstInconsistency s.taken = some (table, i) from found]
  have acted := deliver_acted src kCommand _ h acts rfl
  exact ⟨_, rfl, acted.1, acted.only (.refl _ _)⟩

theorem modeFollows_only (before s : State) : ChangesOnly [.csh, .crd, .dlk, .rpq] s (modeFollows before s) := by
  constructor <;> simp

/-- From SETUP a change of mode leaves the session. -/
theorem changeMode_fromSetup {m : Mode} {s : State} (setup : s.mgt.mode = .setup) (other : m ≠ .setup) :
    ChangesOnly (.mgt :: Block.grants) s (changeMode m s) := by
  rw [changeMode_eq (by rw [setup]; exact other.symm), modeFollows_entered (.inl (by rw [setup]; decide))]
  exact (modeTaken_only m s).trans (by constructor <;> simp [Block.grants])

theorem changeMode_only {m : Mode} {s : State} (other : s.mgt.mode ≠ m) :
    ChangesOnly (.mgt :: .crd :: Block.grants) s (changeMode m s) := by
  rw [changeMode_eq other]
  exact ((modeTaken_only m s).mono (by decide)).trans ((modeFollows_only _ _).mono (by decide))

theorem changeMode_leaves_session {m : Mode} {s : State} (online : s.mgt.mode = .online) (other : m ≠ .online)
    (opened : s.crd.state = .opened) : (changeMode m s).crd.state = .none ∧ (changeMode m s).crd.funds = none := by
  rw [changeMode_eq (by rw [online]; exact other.symm), modeFollows_left online (by rw [modeTaken_mode]; exact other)]
  have kept : (s.modeTaken m).crd = s.crd := (modeTaken_only m s).crd.resolve_right (by decide)
  simp only [segmentLeavesOnline_frame]
  exact sessionLeavesOnline_opened (by simpa [kept] using opened)

theorem changeMode_leaves_segment {m : Mode} {s : State} (online : s.mgt.mode = .online) (other : m ≠ .online)
    (owned : s.dlk.seg = .owned) (waits : s.dlk.requestWaiting = true) :
    (changeMode m s).dlk.requestWaiting = false ∧ (changeMode m s).dlk.seg ≠ .owned := by
  rw [changeMode_eq (by rw [online]; exact other.symm), modeFollows_left online (by rw [modeTaken_mode]; exact other)]
  have taken : LinkHeld s (s.modeTaken m) := by
    unfold State.modeTaken
    rw [if_neg other]
    exact (evaluateClaims_held _).from rfl
  have held := (taken.trans (settleCash_held s _)).trans (sessionLeavesOnline_held _)
  exact segmentLeavesOnline_releases (by rw [held.dlk]; exact owned) (by rw [held.dlk]; exact waits)

theorem changeMode_effMask {m : Mode} {s : State} (other : s.mgt.mode ≠ m) (offline : m ≠ .online) (i : Nat) :
    tget (changeMode m s).csh.effMask false i = false := by
  rw [changeMode_eq other, modeFollows_csh (by rw [modeTaken_mode]; exact other)]
  exact cshRefresh_effMask_offline (by rw [modeTaken_mode]; exact offline) i

/-- R184: all checks passed, the mode is taken up. -/
theorem goOnline_accepted {src : Byte} {s : State} (h : Deliverable s) (setup : s.mgt.mode = .setup)
    (found : firstInconsistency s = none) : ∃ t, exec (.goOnline src []) s = .next t ∧
      Answered src kCommand (okAnswer [if s.cmn.doorOpen then 2 else 1]) s t ∧
      t.mgt = { mode := if s.cmn.doorOpen then .service else .online
                returnMode := if s.cmn.doorOpen then .online else s.mgt.returnMode } ∧
      (s.cmn.doorOpen = false → t.spd.sweep = none) ∧ ChangesOnly (.ulk :: .mgt :: Block.grants) s t := by
  have acts : noParams goOnlineCommand [] s.taken = (okAnswer [if s.cmn.doorOpen then 2 else 1], changeMode (onlineMode s) s.taken) := by
    rw [noParams_nil, goOnlineCommand, if_neg (show ¬s.taken.mgt.mode ≠ .setup from fun other => other setup),
      show firstInconsistency s.taken = none from found]
    have code : ch (onlineMode s).code = if s.cmn.doorOpen then 2 else 1 := by
      unfold onlineMode
      cases s.cmn.doorOpen <;> rfl
    show (okAnswer [ch (onlineMode s).code], _) = _
    rw [code]
    rfl
  have entered : onlineMode s ≠ .setup := by
    unfold onlineMode
    split <;> decide
  have acted := deliver_acted src kCommand _ h acts (by simp)
  have moves : s.taken.mgt.mode ≠ onlineMode s := fun same => entered (same.symm.trans setup)
  refine ⟨_, rfl, acted.1, ?_, fun closed => ?_, acted.only (changeMode_fromSetup setup entered)⟩
  · rw [acted.2]
    show (changeMode (onlineMode s) s.taken).mgt = _
    rw [changeMode_mgt moves]
    unfold onlineMode
    cases s.cmn.doorOpen <;> rfl
  · rw [acted.2]
    show (changeMode (onlineMode s) s.taken).spd.sweep = none
    have online : onlineMode s = .online := by simp [onlineMode, closed]
    rw [online] at moves ⊢
    exact changeMode_online_sweep moves

end Sys2Proof.Machine
end

section
/-! PROOF. GO ONLINE and GO OFFLINE (R184, R185). -/

namespace Sys2Proof.Machine

/-- Settles O17: the first inconsistency by the checks in their order; the change of mode by what it leaves. -/
theorem goOnlineAndGoOfflineSetTheMode : Obligations.GoOnlineAndGoOfflineSetTheMode := by
  refine ⟨fun src s h => ⟨fun other => ⟨_, rfl, ?_⟩, fun setup => ?_⟩, fun src s h => ⟨_, rfl, ?_⟩⟩
  · exact deliver_refused src kCommand _ h ((noParams_nil _ _).trans (if_pos (show s.mgt.mode ≠ .setup from other)))
  · have unplaced i : (i < 80 ∧ (selOf s i).state = .active ∧ ¬((trayOf s (selOf s i).tray).present = true ∧
        (positionOf s (selOf s i)).isSome)) ↔ i < 80 ∧ failsPosition s i = true := by rw [failsPosition_iff]
    have shared i : (i < 80 ∧ (selOf s i).state = .active ∧ ∃ j < i, (selOf s j).state = .active ∧
        ∃ q ∈ positionsOf s i, q ∈ positionsOf s j) ↔ i < 80 ∧ failsShared s i = true := by rw [failsShared_iff]
    have twice i : (i < 6 ∧ (tubeOf s i).denom ≠ 0 ∧ ∃ j < i, (tubeOf s j).denom = (tubeOf s i).denom) ↔
        i < 6 ∧ failsDenomination s i = true := by rw [failsDenomination_iff]
    have misrouted i : (i < 16 ∧ (coinOf s i).enabled = true ∧ ∃ tube, (coinOf s i).route = some tube ∧
        (coinOf s i).value ≠ (tubeOf s tube).denom) ↔ i < 16 ∧ failsRoute s i = true := by rw [failsRoute_iff]
    have second i : (i < 8 ∧ (routeOf s i).inUse = true ∧ (routeOf s i).role ≠ .passive ∧
        ∃ j < i, (routeOf s j).inUse = true ∧ (routeOf s j).role = (routeOf s i).role) ↔ i < 8 ∧ failsRole s i = true := by
      rw [failsRole_iff]
    have least : firstInconsistency s = (firstFailing 1 80 (failsPosition s)).or _ := rfl
    refine ⟨fun i first => ?_, fun i p1 first => ?_, fun i p1 p2 first => ?_, fun i p1 p2 p3 first => ?_,
      fun i p1 p2 p3 p4 first => ?_, fun p1 p2 p3 p4 p5 beyond => ?_, fun p1 p2 p3 p4 p5 within => ?_⟩
    · exact goOnline_inconsistent h setup (by rw [least, firstFailing_first unplaced first]; rfl)
    all_goals rw [firstFailing_passes unplaced (by decide) p1, Option.none_or] at least
    · exact goOnline_inconsistent h setup (by rw [least, firstFailing_first shared first]; rfl)
    all_goals rw [firstFailing_passes shared (by decide) p2, Option.none_or] at least
    · exact goOnline_inconsistent h setup (by rw [least, firstFailing_first twice first]; rfl)
    all_goals rw [firstFailing_passes twice (by decide) p3, Option.none_or] at least
    · exact goOnline_inconsistent h setup (by rw [least, firstFailing_first misrouted first]; rfl)
    all_goals rw [firstFailing_passes misrouted (by decide) p4, Option.none_or] at least
    · exact goOnline_inconsistent h setup (by rw [least, firstFailing_first second first]; rfl)
    all_goals rw [firstFailing_passes second (by decide) p5, Option.none_or] at least
    · exact goOnline_inconsistent h setup (least.trans (if_pos ((creditLimit_lt_iff s).mpr beyond)))
    · exact goOnline_accepted h setup (least.trans (if_neg fun less => within ((creditLimit_lt_iff s).mp less)))
  · have acts := noParams_nil goOfflineCommand s.taken
    split
    · exact deliver_refused src kCommand _ h (acts.trans (if_pos ‹_›))
    next moves =>
    split
    · exact deliver_refused src kCommand _ h (acts.trans ((if_neg moves).trans (if_pos ‹_›)))
    next idle =>
    rw [not_or] at moves
    let u : State := { s.taken with mgt := { s.mgt with returnMode := .setup } }
    obtain ⟨answered, beside⟩ : AnsweredAfter src kCommand (okAnswer []) s (changeMode .setup u) _ :=
      deliver_acted src kCommand _ h (acts.trans ((if_neg (not_or.mpr moves)).trans (if_neg idle))) (by simp [u])
    refine ⟨answered, ?_, fun online opened => ?_, fun online owned waits => ?_, fun i => ?_, ?_⟩
    · rw [beside]
      show (changeMode .setup u).mgt = _
      rw [changeMode_mgt (s := u) moves.1]
      rfl
    · rw [beside]
      exact changeMode_leaves_session (s := u) online (by decide) opened
    · rw [beside]
      exact changeMode_leaves_segment (s := u) online (by decide) owned waits
    · rw [beside]
      exact changeMode_effMask (s := u) moves.1 (by decide) i
    · have stored : ChangesOnly (.mgt :: .crd :: Block.grants) s.taken u := by constructor <;> simp [u]
      exact AnsweredAfter.only ⟨answered, beside⟩ (stored.trans (changeMode_only moves.1))

end Sys2Proof.Machine
end

section
/-! SUPPORT. The stops of the compressor, its defrost and its drip (R122 to R124, R126). -/

namespace Sys2Proof.Machine

/-- R123, R124: DEFROST entered from another state. -/
theorem enterDefrost_entered {s : State} (other : s.clg.comp ≠ .defrost) :
    (enterDefrost s).clg.comp = .defrost ∧ (enterDefrost s).clg.runTicks = 0 ∧ (enterDefrost s).clg.stateSince = s.now ∧
      (enterDefrost s).clg.termInForce = s.clg.settings.defrostTermination ∧
      (enterDefrost s).clg.maxInForce = s.clg.settings.defrostMaximum ∧ (enterDefrost s).clg.contactor = s.clg.contactor ∧
      (enterDefrost s).clg.lastStop = s.clg.lastStop ∧ (enterDefrost s).clg.condFan = s.clg.contactor ∧
      Reported .cooling (enterDefrost s) := by
  unfold enterDefrost
  refine ⟨setComp_comp _ _, by simp, by simp, by simp, by simp, by simp, by simp, ?_, ?_⟩
  · exact (setComp_moved (by exact other)).2.2.1
  · exact (setComp_moved (by exact other)).1

/-- R124, R130: DRIP entered for its time, with the evaporator fan off. -/
theorem enterDrip_entered {s : State} (other : s.clg.comp ≠ .drip) (lasts : 0 < s.clg.settings.dripTime) :
    (enterDrip s).clg.comp = .drip ∧ (enterDrip s).clg.evapFan = false ∧ (enterDrip s).clg.stateSince = s.now ∧
      (enterDrip s).clg.dripInForce = s.clg.settings.dripTime ∧ (enterDrip s).clg.contactor = s.clg.contactor ∧
      (enterDrip s).lds = s.lds ∧ Reported .cooling (enterDrip s) ∧ ChangesOnly [.clg, .rpq] s (enterDrip s) := by
  unfold enterDrip
  rw [if_neg (Nat.pos_iff_ne_zero.mp lasts)]
  refine ⟨setComp_comp _ _, ?_, by simp, by simp, by simp, by simp, ?_, by constructor <;> simp⟩
  · exact (setComp_moved (by exact other)).2.1.trans (by simp)
  · exact (setComp_moved (by exact other)).1

/-- What a stop leaves (R122): the contactor and its fan off, the units released, and the change reported. -/
structure Stopped (s t : State) : Prop where
  contactor : t.clg.contactor = false
  condFan : t.clg.condFan = false
  lastStop : t.clg.lastStop = s.now
  lds : t.lds = { s.lds with compUnits := 0 }
  reported : Reported .cooling t
  only : ChangesOnly [.clg, .lds, .rpq] s t

theorem compStop_only (s : State) : ChangesOnly [.clg, .lds] s (compStop s) := by constructor <;> simp

/-- A stop for a state without a claim of the compressor. -/
theorem setComp_compStop_stopped {c : CompState} {s : State} (other : s.clg.comp ≠ c) : Stopped s (setComp c (compStop s)) := by
  obtain ⟨reported, -, fan, -⟩ := setComp_moved (c := c) (s := compStop s) (by simpa [compStop] using other)
  exact ⟨by simp, fan.trans rfl, by simp, by simp [compStop], reported,
    ((compStop_only s).mono (by decide)).trans ((setComp_changes c _).mono (by decide))⟩

theorem enterGuard_compStop {s : State} : enterGuard (compStop s) = setComp .guard (compStop s) :=
  enterGuard_stopped (by simp)

theorem enterDefrost_compStop_stopped {s : State} (other : s.clg.comp ≠ .defrost) :
    (enterDefrost (compStop s)).clg.comp = .defrost ∧ (enterDefrost (compStop s)).clg.runTicks = 0 ∧
      (enterDefrost (compStop s)).clg.stateSince = s.now ∧
      (enterDefrost (compStop s)).clg.termInForce = s.clg.settings.defrostTermination ∧
      (enterDefrost (compStop s)).clg.maxInForce = s.clg.settings.defrostMaximum ∧ Stopped s (enterDefrost (compStop s)) := by
  obtain ⟨comp, ticks, since, term, maximum, contactor, last, fan, reported⟩ :=
    enterDefrost_entered (s := compStop s) (by simpa [compStop] using other)
  exact ⟨comp, ticks, since.trans (by simp), term, maximum, contactor, fan, last, by simp [compStop], reported,
    ((compStop_only s).mono (by decide)).trans (by constructor <;> simp)⟩

/-- R122, R123: a run that stops leaves for DEFROST where it is due, and for GUARD otherwise. -/
theorem stopByDemand_stopped {s : State} (run : s.clg.comp = .run) (on : s.clg.contactor = true) :
    Stopped s (stopByDemand s) ∧ (stopByDemand s).clg.comp =
      if seconds (3600 * s.clg.settings.defrostInterval) ≤
        min (seconds 86400) (s.clg.runTicks + (s.now - s.clg.startedAt)) then .defrost else .guard := by
  have due : defrostDue s = true ↔ seconds (3600 * s.clg.settings.defrostInterval) ≤
      min (seconds 86400) (s.clg.runTicks + (s.now - s.clg.startedAt)) := by
    rw [defrostDue, decide_eq_true_iff, runTicksNow, if_pos on]
    rfl
  unfold stopByDemand
  dsimp only
  by_cases defrosts : defrostDue s = true
  · rw [if_pos defrosts, if_pos (due.mp defrosts)]
    obtain ⟨comp, -, -, -, -, stopped⟩ := enterDefrost_compStop_stopped (s := s) (by rw [run]; decide)
    exact ⟨stopped, comp⟩
  · rw [if_neg defrosts, if_neg fun h => defrosts (due.mpr h), enterGuard_compStop]
    exact ⟨setComp_compStop_stopped (by rw [run]; decide), setComp_comp _ _⟩

/-- R126: BLIND_ON rests, or leaves for DEFROST where it is due. -/
theorem endBlindOn_stopped {s : State} (blind : s.clg.comp = .blindOn) :
    Stopped s (endBlindOn s) ∧ ((endBlindOn s).clg.comp = .blindOff ∨ (endBlindOn s).clg.comp = .defrost) ∧
      (endBlindOn s).clg.stateSince = s.now := by
  unfold endBlindOn
  split
  · obtain ⟨comp, -, since, -, -, stopped⟩ := enterDefrost_compStop_stopped (s := s) (by rw [blind]; decide)
    exact ⟨stopped, .inr comp, since⟩
  · obtain ⟨contactor, condFan, lastStop, lds, reported, only⟩ := setComp_compStop_stopped (c := .blindOff)
      (s := { s with clg := { s.clg with stateSince := s.now } }) (by show s.clg.comp ≠ .blindOff; rw [blind]; decide)
    refine ⟨⟨contactor, condFan, lastStop, lds, reported, .trans ?_ only⟩, .inl (setComp_comp _ _), by simp [compStop, contactorOff]⟩
    constructor <;> simp

/-- R121: with demand the guard time leads to a claim of 4 units, which stands alone. -/
theorem leaveGuard_claims {s : State} (awake : s.mgt.mode ≠ .safe) (cool : s.clg.hot = false) (sees : s.clg.blind = false)
    (demand : s.clg.demand = true) (none : s.lds.claims = []) :
    (leaveGuard s).clg.comp = .waitSupply ∧ (leaveGuard s).lds.claims = [⟨.compressor, 4, s.now, false⟩] ∧
      unitsGranted (leaveGuard s) = unitsGranted s := by
  rw [leaveGuard_demand awake cool sees demand]
  refine ⟨by simp [setComp_comp], ?_, by rw [fileStart_units]; simp [unitsGranted]⟩
  rw [fileStart_claims (by simp [none])]
  simp [none]

/-! ## The timed events (R120 to R126) -/

/-- The clock has moved to a time or later; nothing else has. -/
structure ClockMoved (due : Time) (s u : State) : Prop where
  now : u.now = max s.now due
  clg : u.clg = s.clg
  lds : u.lds = s.lds
  mgt : u.mgt = s.mgt
  cmn : u.cmn = s.cmn
  only : ChangesOnly [.now] s u

theorem upTo_moved (s : State) (due : Time) : ClockMoved due s (s.upTo due) :=
  ⟨rfl, rfl, rfl, rfl, rfl, by constructor <;> simp⟩

theorem ClockMoved.units {due : Time} {s u : State} (h : ClockMoved due s u) : unitsGranted u = unitsGranted s := by
  rw [unitsGranted, h.lds]
  rfl

/-- What a change that leaves the clock adds to it. -/
theorem ClockMoved.then {due : Time} {bs : List Block} {s u t : State} (h : ClockMoved due s u) (only : ChangesOnly bs u t)
    {cs : List Block} (clock : .now ∈ cs) (more : bs ⊆ cs) : ChangesOnly cs s t :=
  (h.only.mono (by simpa using clock)).trans (only.mono more)

theorem Stopped.later {due : Time} {s u t : State} (moved : ClockMoved due s u) (h : Stopped u t) :
    t.clg.contactor = false ∧ t.clg.condFan = false ∧ t.clg.lastStop = t.now ∧ t.lds = { s.lds with compUnits := 0 } ∧
      t.now = max s.now due ∧ ChangesOnly [.now, .clg, .lds, .rpq] s t := by
  have clock : t.now = u.now := h.only.now.resolve_right (by decide)
  exact ⟨h.contactor, h.condFan, h.lastStop.trans clock.symm, by rw [h.lds, moved.lds], clock.trans moved.now,
    moved.then h.only (by decide) (by decide)⟩

/-- A stop leaves the claims, so none is evaluated where none waits. -/
theorem Stopped.unclaimed {s t : State} (h : Stopped s t) (none : s.lds.claims = []) : evaluateClaims t = t :=
  evaluateClaims_nil (by rw [h.lds]; exact none)

/-- R120: the guard time ends in IDLE. -/
theorem guardExpiry_idle {s : State} (none : s.lds.claims = []) (guard : s.clg.comp = .guard)
    (rests : s.mgt.mode = .safe ∨ s.clg.hot = true ∨ s.clg.blind = false ∧ s.clg.demand = false) :
    ∃ t, exec .guardExpiry s = .next t ∧ t.now = max s.now (s.clg.lastStop + seconds 180) ∧ t.clg.comp = .idle ∧
      t.lds = s.lds ∧ Reported .cooling t ∧ ChangesOnly [.now, .clg, .rpq] s t := by
  obtain ⟨u, named⟩ : ∃ u, u = s.upTo (s.clg.lastStop + guardTicks) := ⟨_, rfl⟩
  have moved : ClockMoved (s.clg.lastStop + seconds 180) s u := named ▸ upTo_moved s _
  refine ⟨setComp .idle u, ?_, by simp [moved.now], setComp_comp _ _, by simp [moved.lds], ?_,
    moved.then (setComp_changes _ u) (by decide) (by decide)⟩
  · show execGuardExpiry s = _
    rw [execGuardExpiry, if_pos guard, ← named, leaveGuard_rests (by simpa [moved.clg, moved.mgt] using rests),
      evaluateClaims_nil (by simp [moved.lds, none])]
  · exact (setComp_moved (by rw [moved.clg, guard]; decide)).1

/-- R120, R121, R140: the guard time ends in WAIT_SUPPLY, or in START where all units are free. -/
theorem guardExpiry_demand {s : State} (none : s.lds.claims = []) (guard : s.clg.comp = .guard) (sees : s.clg.blind = false)
    (demand : s.clg.demand = true) (cool : s.clg.hot = false) (awake : s.mgt.mode ≠ .safe) :
    (0 < unitsGranted s → ∃ t, exec .guardExpiry s = .next t ∧ t.clg.comp = .waitSupply ∧
      t.lds.claims = [⟨.compressor, 4, t.now, false⟩]) ∧
    (unitsGranted s = 0 → ∃ t, exec .guardExpiry s = .next t ∧ t.clg.comp = .start ∧ t.clg.contactor = true ∧
      t.clg.startedAt = t.now ∧ t.lds.compUnits = 4 ∧ t.lds.claims = [] ∧ t.clg.condFan = true) := by
  obtain ⟨u, named⟩ : ∃ u, u = s.upTo (s.clg.lastStop + guardTicks) := ⟨_, rfl⟩
  have moved : ClockMoved (s.clg.lastStop + guardTicks) s u := named ▸ upTo_moved s _
  have runs : exec .guardExpiry s = .next (evaluateClaims (leaveGuard u)) := by
    show execGuardExpiry s = _
    rw [execGuardExpiry, if_pos guard, ← named]
  have awake' : u.mgt.mode ≠ .safe := by rw [moved.mgt]; exact awake
  obtain ⟨comp, claims, units⟩ := leaveGuard_claims awake' (by rw [moved.clg, cool])
    (by rw [moved.clg, sees]) (by rw [moved.clg, demand]) (by rw [moved.lds, none])
  rw [moved.units] at units
  refine ⟨fun busy => ⟨leaveGuard u, ?_, comp, by simp [claims]⟩, fun free => ⟨_, runs, ?_⟩⟩
  · rw [runs, evaluateClaims_startWaits claims (by rw [units]; exact busy)]
  · obtain ⟨starts, contactor, started, fan, lds⟩ :=
      evaluateClaims_starts claims (by simpa using awake') (by rw [units, free]) (by rw [comp]; decide)
    exact ⟨starts, contactor, by simp [started], by rw [lds], by rw [lds], fan⟩

/-- R121: 3 s after the grant three units go back and the compressor runs. -/
theorem startEnd_runs {s : State} (none : s.lds.claims = []) (start : s.clg.comp = .start) (on : s.clg.contactor = true)
    (units : s.lds.compUnits = 4) : ∃ t, exec .startEnd s = .next t ∧ t.now = max s.now (s.clg.startedAt + seconds 3) ∧
      t.clg.comp = .run ∧ t.clg.contactor = true ∧ t.clg.runEntered = t.now ∧ t.lds = { s.lds with compUnits := 1 } ∧
      Reported .cooling t ∧ ChangesOnly [.now, .clg, .lds, .rpq] s t := by
  obtain ⟨u, named⟩ : ∃ u : State, u = { s.upTo (s.clg.startedAt + seconds 3) with lds := { s.lds with compUnits := 1 } } :=
    ⟨_, rfl⟩
  have now : u.now = max s.now (s.clg.startedAt + seconds 3) := named ▸ rfl
  have clg : u.clg = s.clg := named ▸ rfl
  have lds : u.lds = { s.lds with compUnits := 1 } := named ▸ rfl
  have only : ChangesOnly [.now, .clg, .lds, .rpq] s u := by rw [named]; constructor <;> simp
  obtain ⟨reported, -, -, entered⟩ := setComp_moved (c := .run) (s := u) (by rw [clg, start]; decide)
  refine ⟨setComp .run u, ?_, by simp [now], setComp_comp _ _, by simp [clg, on], ?_, by simp [lds], reported,
    only.trans ((setComp_changes _ _).mono (by decide))⟩
  · show execStartEnd s = _
    rw [execStartEnd, if_pos ⟨units, on, .inl start⟩]
    show Host.Outcome.next (evaluateClaims (if s.clg.comp = .start then setComp .run _ else _)) = _
    rw [if_pos start, named, evaluateClaims_nil (by simp [none])]
    rfl
  · rw [entered, if_pos rfl]
    simp

/-- R122: a run without demand stops after its minimum. -/
theorem minimumRunEnd_stops {s : State} (none : s.lds.claims = []) (run : s.clg.comp = .run) (off : s.clg.demand = false)
    (on : s.clg.contactor = true) :
    let due := seconds (3600 * s.clg.settings.defrostInterval) ≤ min (seconds 86400)
      (s.clg.runTicks + (max s.now (s.clg.startedAt + seconds 60) - s.clg.startedAt))
    ∃ t, exec .minimumRunEnd s = .next t ∧ t.now = max s.now (s.clg.startedAt + seconds 60) ∧
      t.clg.comp = (if due then .defrost else .guard) ∧ t.clg.contactor = false ∧ t.clg.condFan = false ∧
      t.clg.lastStop = t.now ∧ t.lds = { s.lds with compUnits := 0 } ∧ Reported .cooling t ∧
      ChangesOnly [.now, .clg, .lds, .rpq] s t := by
  intro due
  obtain ⟨u, named⟩ : ∃ u, u = s.upTo (s.clg.startedAt + minimumRun) := ⟨_, rfl⟩
  have moved : ClockMoved (s.clg.startedAt + seconds 60) s u := named ▸ upTo_moved s _
  obtain ⟨stopped, comp⟩ := stopByDemand_stopped (s := u) (by rw [moved.clg, run]) (by rw [moved.clg, on])
  obtain ⟨contactor, fan, last, lds, now, only⟩ := stopped.later moved
  refine ⟨stopByDemand u, ?_, now, ?_, contactor, fan, last, lds, stopped.reported, only⟩
  · show execMinimumRunEnd s = _
    rw [execMinimumRunEnd, if_pos run, ← named]
    show Host.Outcome.next (if s.clg.demand = true then u else evaluateClaims (stopByDemand u)) = _
    rw [if_neg (by rw [off]; decide), stopped.unclaimed (by rw [moved.lds, none])]
  · rw [comp, moved.clg, moved.now]

/-- R123: a forced defrost stops the run. -/
theorem forcedDefrost_defrosts {s : State} (none : s.lds.claims = []) (run : s.clg.comp = .run) :
    ∃ t, exec .forcedDefrost s = .next t ∧ t.clg.comp = .defrost ∧ t.clg.contactor = false ∧
      t.clg.runTicks = 0 ∧ t.clg.lastStop = t.now ∧ t.clg.stateSince = t.now ∧
      t.clg.termInForce = s.clg.settings.defrostTermination ∧ t.clg.maxInForce = s.clg.settings.defrostMaximum ∧
      t.lds = { s.lds with compUnits := 0 } ∧ Reported .cooling t ∧ ChangesOnly [.now, .clg, .lds, .rpq] s t := by
  obtain ⟨u, named⟩ : ∃ u, u = s.upTo (forcedDefrostTime s) := ⟨_, rfl⟩
  have moved : ClockMoved (forcedDefrostTime s) s u := named ▸ upTo_moved s _
  obtain ⟨comp, ticks, since, term, maximum, stopped⟩ :=
    enterDefrost_compStop_stopped (s := u) (by rw [moved.clg, run]; decide)
  obtain ⟨contactor, fan, last, lds, now, only⟩ := stopped.later moved
  refine ⟨enterDefrost (compStop u), ?_, comp, contactor, ticks, last, since.trans (moved.now.trans now.symm), ?_, ?_, lds,
    stopped.reported, only⟩
  · show execForcedDefrost s = _
    rw [execForcedDefrost, if_pos run, ← named, stopped.unclaimed (by rw [moved.lds, none])]
  · rw [term, moved.clg]
  · rw [maximum, moved.clg]

/-- R124: DEFROST ends at its maximum for DRIP. -/
theorem defrostMaximum_drips {s : State} (none : s.lds.claims = []) (defrost : s.clg.comp = .defrost)
    (lasts : 0 < s.clg.settings.dripTime) : ∃ t, exec .defrostMaximum s = .next t ∧
      t.now = max s.now (s.clg.stateSince + minutes s.clg.maxInForce) ∧ t.clg.comp = .drip ∧ t.clg.evapFan = false ∧
      t.clg.stateSince = t.now ∧ t.clg.dripInForce = s.clg.settings.dripTime ∧ t.lds = s.lds ∧ Reported .cooling t ∧
      ChangesOnly [.now, .clg, .rpq] s t := by
  obtain ⟨u, named⟩ : ∃ u, u = s.upTo (s.clg.stateSince + minutes s.clg.maxInForce) := ⟨_, rfl⟩
  have moved : ClockMoved (s.clg.stateSince + minutes s.clg.maxInForce) s u := named ▸ upTo_moved s _
  obtain ⟨comp, fan, since, force, -, lds, reported, only⟩ :=
    enterDrip_entered (s := u) (by rw [moved.clg, defrost]; decide) (by rw [moved.clg]; exact lasts)
  have now : (enterDrip u).now = u.now := only.now.resolve_right (by decide)
  refine ⟨enterDrip u, ?_, now.trans moved.now, comp, fan, since.trans now.symm, by rw [force, moved.clg], by rw [lds, moved.lds], reported,
    moved.then only (by decide) (by decide)⟩
  show execDefrostMaximum s = _
  rw [execDefrostMaximum, if_pos defrost, ← named, evaluateClaims_nil (by rw [lds, moved.lds, none])]

/-- R120, R124: DRIP ends in GUARD while the guard time runs. -/
theorem dripEnd_guard {s : State} (none : s.lds.claims = []) (drip : s.clg.comp = .drip)
    (runs : max s.now (s.clg.stateSince + seconds s.clg.dripInForce) < s.clg.lastStop + seconds 180) :
    ∃ t, exec .dripEnd s = .next t ∧ t.now = max s.now (s.clg.stateSince + seconds s.clg.dripInForce) ∧
      t.clg.comp = .guard ∧ t.clg.evapFan = !s.cmn.doorOpen ∧ t.lds = s.lds ∧ Reported .cooling t ∧
      ChangesOnly [.now, .clg, .rpq] s t := by
  obtain ⟨u, named⟩ : ∃ u, u = s.upTo (s.clg.stateSince + seconds s.clg.dripInForce) := ⟨_, rfl⟩
  have moved : ClockMoved (s.clg.stateSince + seconds s.clg.dripInForce) s u := named ▸ upTo_moved s _
  have waits : enterGuard u = setComp .guard u := enterGuard_waits (by rw [moved.now, moved.clg]; exact runs)
  obtain ⟨reported, fan, -⟩ := setComp_moved (c := .guard) (s := u) (by rw [moved.clg, drip]; decide)
  refine ⟨setComp .guard u, ?_, by simp [moved.now], setComp_comp _ _, by simp [fan, moved.cmn], by simp [moved.lds], reported,
    moved.then (setComp_changes _ u) (by decide) (by decide)⟩
  show execDripEnd s = _
  rw [execDripEnd, if_pos drip, ← named, waits, evaluateClaims_nil (by simp [moved.lds, none])]

/-- R120, R121: past the guard time DRIP ends in IDLE. -/
theorem dripEnd_idle {s : State} (none : s.lds.claims = []) (drip : s.clg.comp = .drip) (off : s.clg.demand = false)
    (sees : s.clg.blind = false)
    (past : s.clg.lastStop + seconds 180 ≤ max s.now (s.clg.stateSince + seconds s.clg.dripInForce)) :
    ∃ t, exec .dripEnd s = .next t ∧ t.clg.comp = .idle ∧ t.lds = s.lds ∧ Reported .cooling t := by
  obtain ⟨u, named⟩ : ∃ u, u = s.upTo (s.clg.stateSince + seconds s.clg.dripInForce) := ⟨_, rfl⟩
  have moved : ClockMoved (s.clg.stateSince + seconds s.clg.dripInForce) s u := named ▸ upTo_moved s _
  have leaves : enterGuard u = setComp .idle (setComp .guard u) := by
    rw [enterGuard_past (by rw [moved.now, moved.clg]; exact past), leaveGuard_rests (.inr (.inr (by simp [moved.clg, off, sees])))]
  refine ⟨setComp .idle (setComp .guard u), ?_, setComp_comp _ _, by simp [moved.lds],
    (setComp_moved (by rw [setComp_comp]; decide)).1⟩
  show execDripEnd s = _
  rw [execDripEnd, if_pos drip, ← named, leaves, evaluateClaims_nil (by simp [moved.lds, none])]

/-- R126: a BLIND_ON period ends. -/
theorem blindOnEnd_rests {s : State} (none : s.lds.claims = []) (blind : s.clg.comp = .blindOn) (on : s.clg.contactor = true) :
    ∃ t, exec .blindOnEnd s = .next t ∧ t.now = max s.now (max s.clg.startedAt s.clg.blindSince + minutes 10) ∧
      (t.clg.comp = .blindOff ∨ t.clg.comp = .defrost) ∧ t.clg.contactor = false ∧ t.clg.lastStop = t.now ∧
      t.clg.stateSince = t.now ∧ t.lds = { s.lds with compUnits := 0 } ∧ Reported .cooling t ∧
      ChangesOnly [.now, .clg, .lds, .rpq] s t := by
  obtain ⟨u, named⟩ : ∃ u, u = s.upTo (max s.clg.startedAt s.clg.blindSince + minutes 10) := ⟨_, rfl⟩
  have moved : ClockMoved (max s.clg.startedAt s.clg.blindSince + minutes 10) s u := named ▸ upTo_moved s _
  obtain ⟨stopped, comp, since⟩ := endBlindOn_stopped (s := u) (by rw [moved.clg, blind])
  obtain ⟨contactor, -, last, lds, now, only⟩ := stopped.later moved
  refine ⟨endBlindOn u, ?_, now, comp, contactor, last, since.trans (moved.now.trans now.symm), lds, stopped.reported, only⟩
  show execBlindOnEnd s = _
  rw [execBlindOnEnd, if_pos ⟨blind, on⟩, ← named, stopped.unclaimed (by rw [moved.lds, none])]

/-- R126, R140: a BLIND_OFF period ends with the claim of the next. -/
theorem blindOffEnd_claims {s : State} (none : s.lds.claims = []) (blind : s.clg.comp = .blindOff) (awake : s.mgt.mode ≠ .safe) :
    ∃ t, exec .blindOffEnd s = .next t ∧ t.now = max s.now (s.clg.stateSince + minutes 10) ∧ t.clg.comp = .blindOn ∧
      Reported .cooling t ∧ ChangesOnly [.now, .clg, .lds, .rpq] s t ∧
      (0 < unitsGranted s → t.lds = { s.lds with claims := [⟨.compressor, 4, t.now, false⟩] } ∧
        t.clg.contactor = s.clg.contactor) ∧
      (unitsGranted s = 0 → t.lds = { s.lds with compUnits := 4 } ∧ t.clg.contactor = true ∧ t.clg.startedAt = t.now) := by
  obtain ⟨u, named⟩ : ∃ u, u = s.upTo (s.clg.stateSince + minutes 10) := ⟨_, rfl⟩
  have moved : ClockMoved (s.clg.stateSince + minutes 10) s u := named ▸ upTo_moved s _
  obtain ⟨v, filed⟩ : ∃ v, v = fileStart (setComp .blindOn u) := ⟨_, rfl⟩
  have runs : exec .blindOffEnd s = .next (evaluateClaims v) := by
    show execBlindOffEnd s = _
    rw [execBlindOffEnd, if_pos blind, ← named, ← filed]
  have comp : v.clg.comp = .blindOn := by rw [filed]; simp [setComp_comp]
  have clock : v.now = u.now := by rw [filed]; simp
  have lds : v.lds = { s.lds with claims := [⟨.compressor, 4, v.now, false⟩] } := by
    rw [clock, filed]
    simp [fileStart, fileClaim, moved.lds, none]
  have contactor : v.clg.contactor = s.clg.contactor := by rw [filed]; simp [moved.clg]
  have units : unitsGranted v = unitsGranted s := by rw [unitsGranted, lds]; rfl
  have reported : Reported .cooling v := by
    rw [filed]
    exact (setComp_moved (c := .blindOn) (s := u) (by rw [moved.clg, blind]; decide)).1.of_rpq (by simp)
  have only : ChangesOnly [.now, .clg, .lds, .rpq] s v := by
    refine moved.then (bs := [.clg, .lds, .rpq]) ?_ (by decide) (by decide)
    rw [filed]
    constructor <;> simp
  by_cases free : unitsGranted s = 0
  · have granted := evaluateClaims_startGranted (s := v) (by rw [lds]) (by rw [filed]; simpa [moved.mgt] using awake)
      (units.trans free)
    rw [startCompressor_blind (by exact comp)] at granted
    rw [runs, granted]
    refine ⟨_, rfl, clock.trans moved.now, comp, reported, only.trans (by constructor <;> simp), fun busy => ?_,
      fun _ => ⟨?_, rfl, rfl⟩⟩
    · exact absurd free (Nat.ne_of_gt busy)
    · show ({ v.lds with claims := [], compUnits := 4 } : Lds) = _
      rw [lds, ← none]
  · have waits := evaluateClaims_startWaits (s := v) (by rw [lds]) (by rw [units]; exact Nat.pos_of_ne_zero free)
    rw [runs, waits]
    exact ⟨v, rfl, clock.trans moved.now, comp, reported, only, fun _ => ⟨lds, contactor⟩, fun none => absurd none free⟩

end Sys2Proof.Machine
end

section
/-! PROOF. The compressor's own times (R120 to R126). -/

namespace Sys2Proof.Machine

/-- Settles O47: each timed event by what it leaves of the compressor. -/
theorem compressorTimesMoveTheCompressor : Obligations.CompressorTimesMoveTheCompressor := by
  refine ⟨fun s none => ⟨fun guard sees rests => ?_, guardExpiry_demand none, startEnd_runs none, fun run demand => ?_,
    minimumRunEnd_stops none, forcedDefrost_defrosts none⟩, fun s none => ⟨defrostMaximum_drips none, dripEnd_guard none,
    dripEnd_idle none, blindOnEnd_rests none, blindOffEnd_claims none⟩⟩
  · obtain off | hot | safe := rests
    · exact guardExpiry_idle none guard (.inr (.inr ⟨sees, off⟩))
    · exact guardExpiry_idle none guard (.inr (.inl hot))
    · exact guardExpiry_idle none guard (.inl safe)
  · show execMinimumRunEnd s = _
    rw [execMinimumRunEnd, if_pos run]
    exact congrArg Host.Outcome.next (if_pos demand)

end Sys2Proof.Machine
end

section
/-! SUPPORT. Coins at the gate and bills in escrow (R59 to R67). -/

namespace Sys2Proof.Machine

/-! ## Coins (R60 to R62) -/

theorem routedTube_eq (s : State) (i : Nat) : routedTube s i = (coinOf s i).route.filter fun k =>
    decide ((tubeOf s k).denom ≠ 0 ∧ (tubeOf s k).count < (tubeOf s k).capacity) && !(tubeOf s k).fullCovered := by
  unfold routedTube
  cases route : (coinOf s i).route with
  | none => rfl
  | some k =>
    dsimp only [Option.filter]
    congr 1
    simp only [Tube.full, Bool.not_eq_true', Bool.or_eq_false_iff, decide_eq_false_iff_not, Nat.not_le, Bool.and_eq_true,
      decide_eq_true_eq, and_assoc]

/-- R75: the tube of an accepted coin is one of the six, in use and not full. -/
theorem routedTube_spec {s : State} {i k : Nat} (routed : routedTube s i = some k) :
    k < 6 ∧ (tubeOf s k).count < (tubeOf s k).capacity := by
  rw [routedTube_eq, Option.filter_eq_some_iff] at routed
  obtain ⟨-, room⟩ := routed
  simp only [Bool.and_eq_true, decide_eq_true_eq] at room
  obtain ⟨⟨used, less⟩, -⟩ := room
  refine ⟨Nat.lt_of_not_le fun beyond => used ?_, less⟩
  rw [tubeOf, tget_of_le _ _ beyond]
  rfl

/-- R77: in a tube that is not full the coin counts. -/
theorem addCoin_eq {t : Tube} (room : t.count < t.capacity) : t.addCoin =
    { t with count := t.count + 1, state := if t.state = .empty then .ok else t.state } := by
  rw [Tube.addCoin, Nat.min_eq_right room]

/-- R54: within the credit's range an amount, and 0 always, is added to the credit and to nothing else of CSH. -/
theorem addCredit_within {n : Nat} {s : State} (range : n = 0 ∨ s.csh.credit + n ≤ 65535) :
    (addCredit n s).csh = { s.csh with credit := s.csh.credit + n } ∧ (addCredit n s).freeIx = s.freeIx ∧
      (0 < n → Reported .credit (addCredit n s)) := by
  by_cases zero : n = 0
  · rw [zero, addCredit, if_pos rfl]
    exact ⟨rfl, rfl, fun some => absurd some (Nat.lt_irrefl 0)⟩
  · rw [addCredit, if_neg zero, if_pos (range.resolve_left zero)]
    exact ⟨by simp, by simp, fun _ => report_reported _ _⟩

/-- R61, R77: the tubes once a coin is in. -/
theorem coinEnters_kept (tube : Option Nat) (s : State) :
    (coinEnters tube s).csh = s.csh ∧ ChangesOnly [.chg, .rpq] s (coinEnters tube s) := by
  cases tube with
  | none => exact ⟨rfl, .refl _ _⟩
  | some k => exact ⟨by simp [coinEnters], by constructor <;> simp [coinEnters]⟩

theorem coinEnters_tubes {tube : Option Nat} {s : State}
    (room : ∀ k, tube = some k → k < 6 ∧ (tubeOf s k).count < (tubeOf s k).capacity) :
    (∀ k, tube = some k → tubeOf (coinEnters tube s) k = { tubeOf s k with
      count := (tubeOf s k).count + 1, state := if (tubeOf s k).state = .empty then .ok else (tubeOf s k).state }) ∧
    ∀ j, tube ≠ some j → tubeOf (coinEnters tube s) j = tubeOf s j := by
  cases tube with
  | none => exact ⟨nofun, fun _ _ => rfl⟩
  | some k =>
    obtain ⟨within, less⟩ := room k rfl
    refine ⟨fun j same => ?_, fun j other => ?_⟩
    · obtain rfl := Option.some.inj same
      rw [coinEnters, tubeOf, storeTube_chg_eq, tget_tset_same _ _ _ within, addCoin_eq less]
    · rw [coinEnters, tubeOf, storeTube_chg_eq, tget_tset_ne _ _ _ fun same => other (congrArg some same.symm)]
      rfl

theorem openGate_only (toTube : Bool) (s : State) : ChangesOnly [.csh] s (openGate toTube s) := by constructor <;> simp

/-- R60: what a coin needs to be accepted for credit. -/
theorem coinAccepted_iff (s : State) (i : Nat) : coinAccepted s i = true ↔ (coinOf s i).enabled = true ∧ s.chg.payout = none ∧
    committed s + (coinOf s i).value ≤ s.csh.creditLimit ∧ tget s.csh.coinSafe false i = true := by
  rw [coinAccepted, Bool.and_eq_true, Bool.and_eq_true, Bool.and_eq_true, Option.isNone_iff_eq_none, decide_eq_true_iff,
    and_assoc, and_assoc]

theorem fillTube_eq_some_iff (s : State) (i k : Nat) : fillTube s i = some k ↔
    routedTube s i = some k ∧ (coinOf s i).value = (tubeOf s k).denom ∧ s.chg.payout = none := by
  unfold fillTube
  cases routed : routedTube s i with
  | none => simp
  | some j =>
    simp only [Option.ite_none_right_eq_some, Option.some.injEq]
    constructor
    · rintro ⟨⟨value, idle⟩, rfl⟩
      exact ⟨rfl, value, idle⟩
    · rintro ⟨rfl, value, idle⟩
      exact ⟨⟨value, idle⟩, rfl⟩

/-- R61, R62: what a coin leaves that is let in and counted. -/
theorem coinLetIn_stored {before s : State} {tube : Option Nat} {toTube : Bool} {n : Nat} {a : Audit → Audit}
    (range : n = 0 ∨ s.csh.credit + n ≤ 65535) (room : ∀ k, tube = some k → k < 6 ∧ (tubeOf s k).count < (tubeOf s k).capacity) :
    let s1 := addCredit n (coinEnters tube (openGate toTube s))
    let t := settleCash before { s1 with csh := { s1.csh with audit := a s1.csh.audit } }
    t.csh.credit = s.csh.credit + n ∧ t.csh.audit = a s.csh.audit ∧ t.csh.gateOpen = true ∧ t.csh.gateSince = s.now ∧
      t.csh.diverterTube = toTube ∧
      (∀ k, tube = some k → tubeOf t k = { tubeOf s k with
        count := (tubeOf s k).count + 1, state := if (tubeOf s k).state = .empty then .ok else (tubeOf s k).state }) ∧
      (∀ j, tube ≠ some j → tubeOf t j = tubeOf s j) ∧ (0 < n → Reported .credit t) ∧
      ChangesOnly [.csh, .chg, .dlk, .rpq] s t := by
  intro s1 t
  obtain ⟨kept, entered⟩ := coinEnters_kept tube (openGate toTube s)
  obtain ⟨filled, others⟩ := coinEnters_tubes (s := openGate toTube s) room
  obtain ⟨csh, free, reported⟩ := addCredit_within (n := n) (s := coinEnters tube (openGate toTube s))
    (range.imp id fun fits => by rw [kept]; exact fits)
  rw [kept] at csh
  have account : SameAccount { s1 with csh := { s1.csh with audit := a s1.csh.audit } } t := settleCash_sameAccount _ _
  have chg : t.chg = (coinEnters tube (openGate toTube s)).chg := by simp [t, s1]
  have tubes (k : Nat) : tubeOf t k = tubeOf (coinEnters tube (openGate toTube s)) k := by rw [tubeOf, chg]; rfl
  refine ⟨?_, ?_, ?_, ?_, ?_, fun k h => (tubes k).trans (filled k h), fun j h => (tubes j).trans (others j h), fun some => ?_, ?_⟩
  · rw [account]; exact congrArg Csh.credit csh
  · rw [account]; exact congrArg (fun c => a c.audit) csh
  · rw [account]; exact congrArg Csh.gateOpen csh
  · rw [account]; exact congrArg Csh.gateSince csh
  · rw [account]; exact congrArg Csh.diverterTube csh
  · exact Reported.settleCash (s := { s1 with csh := { s1.csh with audit := a s1.csh.audit } }) (.of_rpq (reported some) rfl) _
  · have credited : ChangesOnly [.csh, .chg, .dlk, .rpq] (coinEnters tube (openGate toTube s)) s1 := by
      constructor
      case freeIx => exact .inl free
      all_goals simp [s1]
    refine .trans (.trans ((openGate_only _ s).mono (by decide)) (entered.mono (by decide))) (credited.trans ?_)
    constructor <;> simp [t]

theorem execClassReport_refused {i : Fin 16} {s : State} (refused : coinDecided i s = closeGate s) :
    exec (.classReport (some i)) s = .next { s with csh := { s.csh with gateOpen := false } } :=
  congrArg Host.Outcome.next refused

end Sys2Proof.Machine
end

section
/-! PROOF. Coins at the gate (R59 to R62). -/

namespace Sys2Proof.Machine

/-- Settles O32: the coin by the mode; one let in by what its tube, the credit and the audit take. -/
theorem coinsAreAcceptedOrReturned : Obligations.CoinsAreAcceptedOrReturned := by
  intro i s c routed filled
  have routes : routedTube s i = routed := routedTube_eq s i
  have room : ∀ k, routed = some k → k < 6 ∧ (tubeOf s k).count < (tubeOf s k).capacity := fun k h =>
    routedTube_spec (routes.trans h)
  refine ⟨fun online enabled idle limit safe range => ?_, fun service k route value idle => ?_, fun refused => ?_, rfl, rfl,
    fun gate => if_pos gate⟩
  · have accepted : coinDecided i s = creditCoin i s := by
      rw [coinDecided, online]
      exact if_pos ((coinAccepted_iff s i).mpr ⟨enabled, idle, limit, safe⟩)
    have within : s.csh.credit + c.value ≤ 65535 := by
      have : s.csh.credit ≤ committed s := by unfold committed; omega
      have : committed s + c.value ≤ s.csh.creditLimit := limit
      omega
    obtain ⟨credit, audit, gate, since, diverter, filled, others, reported, only⟩ :=
      coinLetIn_stored (before := s) (toTube := routed.isSome)
        (a := fun a => { a with coinsIn := satAdd auditLimit a.coinsIn c.value })
        (.inr within) room
    refine ⟨creditCoin i s, congrArg Host.Outcome.next accepted, ?_⟩
    rw [creditCoin, routes]
    exact ⟨credit, audit, gate, since, by rw [diverter, Option.isSome_iff_exists], filled, others, reported, only⟩
  · have idle : s.chg.payout = none := idle
    have fills : fillTube s i = some k := (fillTube_eq_some_iff s i k).mpr ⟨routes.trans route, value, idle⟩
    have accepted : coinDecided i s = fillCoin k i s := by
      rw [coinDecided, service]
      simp only [fills]
    have stored := coinLetIn_stored (before := s) (toTube := true) (n := 0)
      (a := fun a => { a with serviceFill := satAdd auditLimit a.serviceFill c.value }) (.inl rfl) (tube := some k)
      (fun j h => room j (route.trans h))
    obtain ⟨credit, audit, gate, -, diverter, filled, -, -, only⟩ := stored
    exact ⟨fillCoin k i s, congrArg Host.Outcome.next accepted, credit, audit, gate, diverter, filled k rfl, only⟩
  · refine execClassReport_refused ?_
    obtain setup | safe | busy | ⟨online, fails⟩ | ⟨service, unfit⟩ := refused
    · rw [coinDecided, setup]
    · rw [coinDecided, safe]
    · have returned : coinAccepted s i = false := by
        rw [Bool.eq_false_iff, ne_eq, coinAccepted_iff]
        rintro ⟨-, idle, -⟩
        simp [idle] at busy
      have unfilled : fillTube s i = none := by
        rw [Option.eq_none_iff_forall_ne_some]
        intro k fills
        obtain ⟨-, -, idle⟩ := (fillTube_eq_some_iff s i k).mp fills
        simp [idle] at busy
      unfold coinDecided
      simp only [returned, unfilled]
      split <;> rfl
    · rw [coinDecided, online]
      refine if_neg fun accepted => ?_
      obtain ⟨enabled, -, limit, safe⟩ := (coinAccepted_iff s i).mp accepted
      obtain off | beyond | risky := fails
      · exact absurd (enabled.symm.trans off) (by decide)
      · exact absurd limit (Nat.not_le.mpr beyond)
      · exact absurd (safe.symm.trans risky) (by decide)
    · have unfilled : fillTube s i = none := by
        rw [Option.eq_none_iff_forall_ne_some]
        intro k fills
        obtain ⟨route, value, -⟩ := (fillTube_eq_some_iff s i k).mp fills
        exact unfit k (routes.symm.trans route) value
      rw [coinDecided, service]
      simp only [unfilled]

end Sys2Proof.Machine
end

section
/-! SUPPORT. Own frames handed over and bills in escrow (R64 to R67, R169). -/

namespace Sys2Proof.Machine

/-! ## Frames handed to DLK (R169) -/

/-- A frame other than an ENABLE stands last in the queue of a node that is PRESENT. -/
theorem handFrame_handed {role : Role} {k : OwnKind} {n : Nat} {r : Route} {s : State} (entry : entryOf role s = some (n, r))
    (present : r.presence = .present) (other : k.kind ≠ kEnable) (room : s.dlk.own.length < 4) :
    handFrame role k s = ({ s with dlk := { s.dlk with own := s.dlk.own ++ [⟨r.base, k⟩] } }, false) := by
  unfold handFrame
  rw [entry]
  show ite _ _ _ = _
  rw [if_neg (not_not.mpr present), if_neg (fun h => other h.1), if_neg (Nat.not_le.mpr room)]

/-- A frame that is no ENABLE keeps its place when another is handed over. -/
theorem mem_own_handFrame {role : Role} {k : OwnKind} {f : OwnFrame} {s : State} (other : ∀ node, f.isEnableFor node = false)
    (queued : f ∈ s.dlk.own) : f ∈ (handFrame role k s).1.dlk.own := by
  unfold handFrame
  split
  · exact queued
  · split
    · exact queued
    · split
      · exact List.mem_map.mpr ⟨f, queued, if_neg (by rw [other]; decide)⟩
      · split
        · exact queued
        · exact List.mem_append_left _ queued

theorem mem_own_sendEnable {f : OwnFrame} {s : State} (other : ∀ node, f.isEnableFor node = false) (queued : f ∈ s.dlk.own) :
    f ∈ (sendEnable s).dlk.own := by
  unfold sendEnable
  split
  · split
    · exact mem_own_handFrame other queued
    · exact queued
  · exact queued

theorem mem_own_cshRefresh {f : OwnFrame} {s : State} (other : ∀ node, f.isEnableFor node = false) (queued : f ∈ s.dlk.own) :
    f ∈ (cshRefresh s).dlk.own :=
  mem_own_sendEnable other (by simpa using queued)

theorem mem_own_settleCash {f : OwnFrame} {before s : State} (other : ∀ node, f.isEnableFor node = false) (queued : f ∈ s.dlk.own) :
    f ∈ (settleCash before s).dlk.own := by
  obtain ⟨-, same⟩ | ⟨-, refreshed⟩ := settleCash_cases before s
  · rwa [same]
  · rw [refreshed]
    exact mem_own_cshRefresh other queued

/-! ## Bills (R64, R66) -/

theorem stackBill_eq (s : State) (c : Nat) : stackBill s c = decide (s.mgt.mode = .online ∧ (billOf s c).enabled = true ∧
    tget s.csh.hostMask false c = true ∧ s.chg.payout = none ∧ committed s + (billOf s c).value ≤ s.csh.creditLimit ∧
    tget s.csh.billSafe false c = true) := by
  rw [Bool.eq_iff_iff, decide_eq_true_iff]
  simp only [stackBill, Bool.and_eq_true, beq_iff_eq, Option.isNone_iff_eq_none, decide_eq_true_eq, and_assoc]

theorem escrowMatches_eq (s : State) (c : Nat) : escrowMatches s c = s.csh.escrow.any fun e => e.stack && e.cls == c := by
  unfold escrowMatches
  cases s.csh.escrow <;> rfl

/-- R64, R65: a bill in escrow is recorded, and its ESCROW ACTION stands in the queue. -/
theorem billEscrow_recorded {c n : Nat} {r : Route} {s : State} (entry : entryOf .bill s = some (n, r)) (present : r.presence = .present)
    (room : s.dlk.own.length < 4) :
    (billEscrow c s).csh.escrow =
      some { cls := c, stack := stackBill s c, decidedAt := s.now, number := s.csh.escrowNumber + 1 } ∧
    ⟨r.base, .escrowAction c (stackBill s c) (s.csh.escrowNumber + 1)⟩ ∈ (billEscrow c s).dlk.own ∧
    SameAccount (s.escrowMade c) (billEscrow c s) ∧ ChangesOnly Block.cash s (billEscrow c s) := by
  have handed : escrowHanded c s = _ := handFrame_handed (s := s.escrowMade c) entry present (show kEscrowAction ≠ kEnable by decide) room
  have acts : billEscrow c s = cshRefresh (escrowHanded c s).1 := by
    rw [billEscrow_eq, handed]
    rfl
  have account : SameAccount (s.escrowMade c) (billEscrow c s) := by
    rw [acts, handed]
    exact cshRefresh_sameAccount { s.escrowMade c with dlk := _ }
  refine ⟨?_, ?_, account, ?_⟩
  · rw [account]
    rfl
  · rw [acts, handed]
    exact mem_own_cshRefresh (fun _ => rfl) (by simp)
  · rw [acts, handed]
    constructor <;> simp [State.escrowMade, Block.cash]

/-- R66: the credit and the audit of a stacked bill, and the record removed. -/
def State.billPaid (c : Nat) (s : State) : State :=
  report .credit { s with csh := { s.csh with
    credit := s.csh.credit + billCredit s c
    audit := { s.csh.audit with billsIn := satAdd auditLimit s.csh.audit.billsIn (billCredit s c) }
    escrow := none } }

theorem billStacked_eq {node c : Nat} {s : State} (known : c < 8) : billStacked node c s = settleCash s
    (if escrowMatches s c then s.billPaid c else billAnomaly node c (billValue s c - billCredit s c) (s.billPaid c)) := by
  unfold billStacked reportIf
  dsimp only
  rw [if_pos (decide_eq_true known)]
  rfl

theorem billAnomaly_counted {node c n : Nat} {s : State} (known : c < 8) (below : node < 0x60) (above : 0x20 ≤ node) :
    anomalyOf (billAnomaly node c n s) node = { count := min 255 ((anomalyOf s node).count + 1), cls := c, uncredited := n } := by
  rw [anomalyOf, billAnomaly]
  simp only [report_frame, if_pos known]
  exact tget_tset_same _ _ _ (by omega)

/-- R66: a bill of a class 0 to 7 is credited within the end of the credit's range. -/
theorem billStacked_credited {node c : Nat} {s : State} (known : c < 8) :
    let t := billStacked node c s
    let paid := min (billOf s c).value (65535 - s.csh.credit)
    t.csh.credit = s.csh.credit + paid ∧ t.csh.audit.billsIn = min 4294967295 (s.csh.audit.billsIn + paid) ∧
    Reported .credit t ∧ t.csh.escrow = none ∧
    (s.csh.escrow.any (fun e => e.stack && e.cls == c) = true → t.csh.anomalies = s.csh.anomalies) ∧
    (s.csh.escrow.any (fun e => e.stack && e.cls == c) = false → node < 0x60 → 0x20 ≤ node →
      anomalyOf t node =
        { count := min 255 ((anomalyOf s node).count + 1), cls := c, uncredited := (billOf s c).value - paid } ∧
      Reported (.billAnomaly node) t) ∧
    ChangesOnly Block.cash s t := by
  intro t paid
  have value : billValue s c = (billOf s c).value := if_pos known
  have credits : billCredit s c = paid := by rw [billCredit, value]
  have reported : Reported .credit (s.billPaid c) := report_reported _ _
  have account v : SameAccount v (settleCash s v) := settleCash_sameAccount s v
  have payment : ChangesOnly Block.cash s (s.billPaid c) := by constructor <;> simp [State.billPaid, Block.cash]
  have settled v : ChangesOnly Block.cash v (settleCash s v) := by constructor <;> simp [Block.cash]
  have settledAnomaly v : anomalyOf (settleCash s v) node = anomalyOf v node := by
    rw [anomalyOf, account]
    rfl
  rw [← escrowMatches_eq]
  by_cases expected : escrowMatches s c = true
  · have acts : t = settleCash s (s.billPaid c) := (billStacked_eq known).trans (congrArg _ (if_pos expected))
    rw [acts, account]
    refine ⟨?_, ?_, reported.settleCash s, ?_, fun _ => ?_, fun other => absurd (expected.symm.trans other) (by decide),
      payment.trans (settled _)⟩
    · simp [State.billPaid, credits]
    · simp [State.billPaid, credits, satAdd, auditLimit]
    · simp [State.billPaid]
    · simp [State.billPaid]
  · have acts : t = settleCash s (billAnomaly node c (billValue s c - billCredit s c) (s.billPaid c)) :=
      (billStacked_eq known).trans (congrArg _ (if_neg expected))
    have counted : ChangesOnly Block.cash (s.billPaid c) (billAnomaly node c (billValue s c - billCredit s c) (s.billPaid c)) := by
      constructor <;> simp [billAnomaly, known, Block.cash]
    rw [value, credits] at acts counted
    rw [acts, account]
    refine ⟨?_, ?_, ?_, ?_, fun other => absurd other expected, fun _ below above => ⟨?_, ?_⟩, (payment.trans counted).trans (settled _)⟩
    · simp [billAnomaly, State.billPaid, credits]
    · simp [billAnomaly, State.billPaid, credits, satAdd, auditLimit]
    · refine Reported.settleCash ?_ s
      unfold billAnomaly
      refine Reported.report ?_ _
      exact reported.of_rpq rfl
    · simp [billAnomaly, State.billPaid]
    · have kept : anomalyOf (s.billPaid c) node = anomalyOf s node := by simp [anomalyOf, State.billPaid]
      rw [← kept, settledAnomaly]
      exact billAnomaly_counted known below above
    · exact (report_reported _ _).settleCash s

end Sys2Proof.Machine
end

section
/-! PROOF. Bills in escrow, stacked and returned (R64 to R67). -/

namespace Sys2Proof.Machine

/-- Settles O33: the record and its action, the bill credited, and the record removed. -/
theorem billsAreDecidedAndCredited : Obligations.BillsAreDecidedAndCredited := by
  intro node c s
  refine ⟨fun n r entry present room => ?_, fun known _ => billStacked_credited known, ?_⟩
  · obtain ⟨record, queued, account, only⟩ := billEscrow_recorded (c := c) entry present room
    intro stack t
    have decided : stackBill s c = stack := stackBill_eq s c
    rw [decided] at record queued
    refine ⟨record, queued, ?_, only⟩
    have made : s.escrowMade c = { s with csh := { s.csh with escrow := t.csh.escrow, escrowNumber := s.csh.escrowNumber + 1 } } := by
      rw [show t.csh.escrow = _ from record, State.escrowMade, decided]
    exact made ▸ account
  · obtain ⟨cleared, account, only, -⟩ := dropEscrow_cleared s
    exact ⟨cleared, by rw [show (takeEvent node .billReturned s) = dropEscrow s from rfl, account], only⟩

end Sys2Proof.Machine
end

section
/-! SUPPORT. The order of the grants (R138, R139), and what one grant leaves (R140). -/

namespace Sys2Proof.Machine

/-! ## One grant after another -/

/-- Fuel beyond the length of the list grants nothing more: each grant shortens the list. -/
theorem evaluateUpTo_enough (n : Nat) {s : State} (enough : s.lds.claims.length ≤ n) : evaluateUpTo n s = evaluateUpTo (n + 1) s := by
  induction n generalizing s with
  | zero =>
    have none : nextGrant s = none := by
      rw [Option.eq_none_iff_forall_ne_some]
      intro c granted
      exact List.ne_nil_of_mem (nextGrant_fits granted).2.1 (List.length_eq_zero_iff.mp (Nat.le_zero.mp enough))
    simp only [evaluateUpTo, none]
  | succ n ih =>
    rw [evaluateUpTo, evaluateUpTo]
    cases next : nextGrant s with
    | none => rfl
    | some c =>
      have shorter : (grantClaim c s).lds.claims.length < s.lds.claims.length := by
        rw [grantClaim_claims]
        exact List.length_filter_lt_length_iff_exists.mpr ⟨c, (nextGrant_fits next).2.1, by simp⟩
      exact ih (by omega)

theorem evaluateUpTo_eq {n : Nat} {s : State} (enough : s.lds.claims.length ≤ n) : evaluateUpTo n s = evaluateClaims s := by
  induction n, enough using Nat.le_induction with
  | base => rfl
  | succ n enough ih => rw [← evaluateUpTo_enough n enough, ih]

/-- R138: an evaluation grants the next claim and goes on from there. -/
theorem evaluateClaims_grant {s : State} {c : Claim} (next : nextGrant s = some c) :
    evaluateClaims s = evaluateClaims (grantClaim c s) := by
  have waits := (nextGrant_fits next).2.1
  have shorter : (grantClaim c s).lds.claims.length < s.lds.claims.length := by
    rw [grantClaim_claims]
    exact List.length_filter_lt_length_iff_exists.mpr ⟨c, waits, by simp⟩
  obtain ⟨n, length⟩ := Nat.exists_eq_succ_of_ne_zero (Nat.ne_of_gt (Nat.zero_lt_of_lt shorter))
  unfold evaluateClaims
  rw [length]
  show (match nextGrant s with | some c => evaluateUpTo n (grantClaim c s) | none => s) = _
  rw [next]
  exact evaluateUpTo_eq (by omega)

/-! ## The next grant (R138, R139) -/

theorem evaluateClaims_unfit {s : State} (unfit : ∀ k ∈ s.lds.claims, ¬k.units ≤ freeUnits s) : evaluateClaims s = s := by
  refine evaluateClaims_of_none (Option.eq_none_iff_forall_ne_some.mpr fun c granted => ?_)
  obtain ⟨-, waits, fits⟩ := nextGrant_fits granted
  exact unfit c waits fits

theorem grantableClaim_none {s : State} {k : ClaimKind} (unfit : ∀ d ∈ s.lds.claims, d.kind = k → ¬d.units ≤ freeUnits s) :
    grantableClaim s k = none := by
  rw [grantableClaim, List.find?_eq_none]
  intro d waits hit
  simp only [Bool.and_eq_true, beq_iff_eq, decide_eq_true_eq] at hit
  exact unfit d waits hit.1 hit.2

theorem grantableClaim_some {s : State} {c : Claim} (waits : c ∈ s.lds.claims) (alone : ∀ d ∈ s.lds.claims, d.kind = c.kind → d = c)
    (fits : c.units ≤ freeUnits s) : grantableClaim s c.kind = some c := by
  cases found : grantableClaim s c.kind with
  | none =>
    have hit := (List.find?_eq_none.mp found) c waits
    simp [fits] at hit
  | some d =>
    have hit := List.find?_some found
    simp only [Bool.and_eq_true, beq_iff_eq] at hit
    rw [alone d (List.mem_of_find?_eq_some found) hit.1]

/-- The place of a kind in the grant order (R138). -/
def ClaimKind.place (k : ClaimKind) : Nat := [ClaimKind.vend, .payout, .coilCheck, .compressor].idxOf k

/-- Without a guarding claim the claim that fits and stands first in the order is granted. -/
theorem nextGrant_first {s : State} {c : Claim} (awake : s.mgt.mode ≠ .safe) (free : ∀ k ∈ s.lds.claims, k.guarding = false)
    (first : ∀ k ∈ s.lds.claims, k.kind.place < c.kind.place → ¬k.units ≤ freeUnits s)
    (granted : grantableClaim s c.kind = some c) : nextGrant s = some c := by
  have unguarded : s.lds.claims.find? (·.guarding) = none := List.find?_eq_none.mpr fun k waits => by rw [free k waits]; decide
  have passed (k : ClaimKind) (before : k.place < c.kind.place) : grantableClaim s k = none :=
    grantableClaim_none fun d waits kind => first d waits (kind ▸ before)
  unfold nextGrant
  rw [if_neg awake, unguarded]
  show [ClaimKind.vend, .payout, .coilCheck, .compressor].findSome? (grantableClaim s) = some c
  cases kind : c.kind
  all_goals rw [kind] at granted passed
  case vend => simp [granted]
  case payout => simp [granted, passed .vend (by decide)]
  case coilCheck => simp [granted, passed .vend (by decide), passed .payout (by decide)]
  case compressor => simp [granted, passed .vend (by decide), passed .payout (by decide), passed .coilCheck (by decide)]

/-- A guarding claim that stands alone is granted or holds every other back. -/
theorem nextGrant_guarding {s : State} {c : Claim} (awake : s.mgt.mode ≠ .safe) (waits : c ∈ s.lds.claims) (guards : c.guarding = true)
    (alone : ∀ k ∈ s.lds.claims, k.guarding = true → k = c) :
    nextGrant s = if c.units ≤ freeUnits s then some c else none := by
  have found : s.lds.claims.find? (·.guarding) = some c := by
    cases hit : s.lds.claims.find? (·.guarding) with
    | none => exact absurd guards ((List.find?_eq_none.mp hit) c waits)
    | some d => rw [alone d (List.mem_of_find?_eq_some hit) (List.find?_some (p := Claim.guarding) hit)]
  unfold nextGrant
  rw [if_neg awake, found]

/-! ## What one grant leaves (R140) -/

theorem grantClaim_coilCheck {c : Claim} {s : State} {w : Sweep} (kind : c.kind = .coilCheck) (sweep : s.spd.sweep = some w) :
    grantClaim c s = { s with
      lds := { s.lds with claims := s.lds.claims.filter fun k => k.kind != c.kind, coilUnits := 1 }
      spd := { s.spd with
        sweep := some { w with check := .energized s.now }, rowOn := some w.cursorTray, colsOn := [w.cursorCol] } } := by
  have before : (withdrawClaim c.kind s).spd.sweep = some w := sweep
  simp only [grantClaim, kind, energizeCheck]
  rw [kind] at before
  rw [before]
  rfl

theorem startCompressor_spec (s : State) : (startCompressor s).lds = { s.lds with compUnits := 4 } ∧
    (startCompressor s).clg.contactor = true ∧ (startCompressor s).clg.startedAt = s.now ∧
    (startCompressor s).clg.comp = (if s.clg.comp = .blindOn then .blindOn else .start) ∧
    ChangesOnly [.lds, .clg, .rpq] s (startCompressor s) := by
  by_cases blind : s.clg.comp = .blindOn
  · rw [startCompressor_blind blind, if_pos blind]
    exact ⟨rfl, rfl, rfl, blind, by constructor <;> simp⟩
  · obtain ⟨comp, contactor, started, -, lds⟩ := startCompressor_starts blind
    rw [if_neg blind]
    exact ⟨lds, contactor, started, comp, by constructor <;> simp⟩

theorem grantClaim_compressor {c : Claim} (kind : c.kind = .compressor) (s : State) :
    grantClaim c s = startCompressor (withdrawClaim .compressor s) := by
  simp only [grantClaim, kind]

theorem grantClaim_vend {c : Claim} {s : State} {v : VendCtx} (kind : c.kind = .vend) (ctx : s.vnd.ctx = some v) :
    grantClaim c s = { s with
      lds := { s.lds with claims := s.lds.claims.filter fun k => k.kind != c.kind, vendUnits := c.units }
      vnd := ⟨some { v with stage := .turn1 }⟩
      spd := { s.spd with rowOn := some v.tray, colsOn := v.col :: v.partner.toList, turn := some (turnRecord v s) } } := by
  have before : (withdrawClaim c.kind s).vnd.ctx = some v := ctx
  simp only [grantClaim, kind, grantVend]
  rw [kind] at before
  rw [before]
  rfl

/-- Grants of payouts and starts leave the Spiral Drive. -/
theorem evaluateClaims_spd {s : State} (other : ∀ c ∈ s.lds.claims, c.kind ≠ .vend ∧ c.kind ≠ .coilCheck) :
    (evaluateClaims s).spd = s.spd :=
  evaluateClaims_keep (fun u => u.spd) fun u _ c mem => by
    obtain ⟨vend, check⟩ := other c mem
    unfold grantClaim
    dsimp only
    split
    · exact absurd ‹_› vend
    · simp
    · exact absurd ‹_› check
    · exact ((startCompressor_spec _).2.2.2.2.spd.resolve_right (by decide)).trans rfl

/-- R32, R138: a vend that fits is granted first and starts its motors. -/
theorem evaluateClaims_vendFirst {v : VendCtx} {units : Nat} {s : State} (awake : s.mgt.mode ≠ .safe) (ctx : s.vnd.ctx = some v)
    (claims : ∀ c ∈ s.lds.claims, c.guarding = false ∧ c.kind ≠ .coilCheck ∧ (c.kind = .vend → c.units = units))
    (waits : ∃ c ∈ s.lds.claims, c.kind = .vend) (fits : units + unitsGranted s ≤ 4) :
    (evaluateClaims s).vnd.ctx = some { v with stage := .turn1 } ∧ (evaluateClaims s).lds.vendUnits = units ∧
    (∀ c ∈ (evaluateClaims s).lds.claims, c.kind ≠ .vend) ∧
    (evaluateClaims s).spd = { s.spd with
      rowOn := some v.tray, colsOn := v.col :: v.partner.toList, turn := some (turnRecord v s) } := by
  obtain ⟨c, found⟩ : ∃ c, grantableClaim s .vend = some c := by
    obtain ⟨c, mem, kind⟩ := waits
    rw [← Option.isSome_iff_exists, grantableClaim, List.find?_isSome]
    have free : c.units ≤ freeUnits s := by
      have := (claims c mem).2.2 kind
      unfold freeUnits
      omega
    exact ⟨c, mem, by simp [kind, free]⟩
  have mem := List.mem_of_find?_eq_some found
  have hit := List.find?_some found
  simp only [Bool.and_eq_true, beq_iff_eq] at hit
  obtain ⟨kind, -⟩ := hit
  have next : nextGrant s = some c := nextGrant_first awake (fun k h => (claims k h).1)
    (fun k _ before => absurd before (by rw [kind]; exact Nat.not_lt_zero _)) (by rw [kind]; exact found)
  obtain ⟨g, granted⟩ : ∃ g, g = grantClaim c s := ⟨_, rfl⟩
  have left := granted.trans (grantClaim_vend kind ctx)
  have others : ∀ k ∈ g.lds.claims, k ∈ s.lds.claims ∧ k.kind ≠ .vend := by
    intro k waits
    rw [left] at waits
    obtain ⟨stays, other⟩ := List.mem_filter.mp waits
    exact ⟨stays, by simpa [kind] using other⟩
  obtain ⟨vnd, -, vendUnits⟩ := evaluateClaims_vnd fun k h => (others k h).2
  have spd := evaluateClaims_spd fun k h => ⟨(others k h).2, (claims k (others k h).1).2.1⟩
  rw [evaluateClaims_grant next, ← granted, vnd, vendUnits, spd]
  refine ⟨by rw [left], ?_, fun k h => (others k (evaluateClaims_claims h)).2, by rw [left]⟩
  rw [left]
  exact (claims c mem).2.2 kind

/-- R139: a guarding start that does not fit holds every claim back. -/
theorem starvationGuard_holds {c : Claim} {s : State} (waits : c ∈ s.lds.claims) (kind : c.kind = .compressor)
    (unguarded : c.guarding = false) (units : c.units = 4)
    (others : ∀ k ∈ s.lds.claims, (k.kind = .compressor → k = c) ∧ (k.kind ≠ .compressor → k.guarding = false))
    (busy : 0 < unitsGranted s) :
    ∃ t, exec .starvationGuard s = .next t ∧ t.now = max s.now (c.filed + seconds 60) ∧ ChangesOnly [.now, .lds] s t ∧
      t.lds = { s.lds with claims := t.lds.claims } ∧
      t.lds.claims = s.lds.claims.map (fun k => if k.kind = .compressor then { k with guarding := true } else k) ∧
      evaluateClaims t = t := by
  have found : s.lds.claims.find? (fun k => k.kind == .compressor && !k.guarding) = some c := by
    cases hit : s.lds.claims.find? fun k => k.kind == .compressor && !k.guarding with
    | none => exact absurd (List.find?_eq_none.mp hit c waits) (by simp [kind, unguarded])
    | some d =>
      have is := List.find?_some hit
      simp only [Bool.and_eq_true, beq_iff_eq] at is
      rw [(others d (List.mem_of_find?_eq_some hit)).1 is.1]
  obtain ⟨t, named⟩ : ∃ t, t = guardClaim (s.upTo (c.filed + seconds 60)) := ⟨_, rfl⟩
  have claims : t.lds.claims = s.lds.claims.map fun k => if k.kind = .compressor then { k with guarding := true } else k := by
    rw [named]
    rfl
  have lds : t.lds = { s.lds with claims := t.lds.claims } := by
    rw [named]
    rfl
  have held : evaluateClaims t = t := by
    have granted : unitsGranted t = unitsGranted s := by
      unfold unitsGranted
      rw [lds]
    by_cases awake : t.mgt.mode = .safe
    · exact evaluateClaims_safe awake
    refine evaluateClaims_of_none ((nextGrant_guarding (c := { c with guarding := true }) awake ?_ rfl fun k stands guards => ?_).trans
      (if_neg ?_))
    · rw [claims]
      exact List.mem_map.mpr ⟨c, waits, if_pos kind⟩
    · rw [claims] at stands
      obtain ⟨d, before, is⟩ := List.mem_map.mp stands
      by_cases start : d.kind = .compressor
      · rw [if_pos start, (others d before).1 start] at is
        exact is.symm
      · rw [if_neg start] at is
        exact absurd (is ▸ guards) (by rw [(others d before).2 start]; decide)
    · show ¬c.units ≤ freeUnits t
      rw [units]
      unfold freeUnits
      omega
  refine ⟨t, ?_, by rw [named]; rfl, by rw [named]; constructor <;> simp [guardClaim], lds, claims, held⟩
  show execStarvationGuard s = _
  simp only [execStarvationGuard, found]
  rw [← named, held]

end Sys2Proof.Machine
end

section
/-! PROOF. The grants in their order (R138 to R140). -/

namespace Sys2Proof.Machine

/-- Settles O23: the vend first, the guarding start, and the next grant as the claim that fits and stands first. -/
theorem claimsAreGrantedInOrder : Obligations.ClaimsAreGrantedInOrder := by
  refine ⟨fun v units s awake ctx claims waits fits => evaluateClaims_vendFirst awake ctx claims waits fits,
    fun c s waits kind unguarded units others busy => starvationGuard_holds waits kind unguarded units others busy,
    fun s => ⟨evaluateClaims_safe, evaluateClaims_unfit, fun c waits awake alone => ⟨fun free fits first => ?_, fun guards only =>
      ⟨fun fits => ?_, fun unfit => ?_⟩⟩⟩, fun c s => ⟨grantClaim_claims c s, fun w kind sweep => ?_, fun kind => ?_⟩⟩
  · exact evaluateClaims_grant (nextGrant_first awake free first (grantableClaim_some waits alone fits))
  · exact evaluateClaims_grant ((nextGrant_guarding awake waits guards only).trans (if_pos fits))
  · exact evaluateClaims_of_none ((nextGrant_guarding awake waits guards only).trans (if_neg unfit))
  · rw [grantClaim_coilCheck kind sweep]
    exact ⟨rfl, by constructor <;> simp, rfl⟩
  · obtain ⟨lds, contactor, started, comp, only⟩ := startCompressor_spec (withdrawClaim .compressor s)
    rw [grantClaim_compressor kind]
    exact ⟨by rw [lds], contactor, started, comp, .trans (by constructor <;> simp) only⟩

end Sys2Proof.Machine
end

section
/-! SUPPORT. The sweep: its begin, its stop and its checks (R43 to R47). -/

namespace Sys2Proof.Machine

/-! ## SWEEP's characters (R43, R190) -/

theorem isBit_eq_false_iff (b : Byte) : isBit b = false ↔ 1 < b.toNat := by
  rw [isBit, Bool.or_eq_false_iff, decide_eq_false_iff_not, decide_eq_false_iff_not]
  bv_omega

theorem ch_of_byte (b : Byte) : ch b.toNat = b := by
  apply BitVec.eq_of_toNat_eq
  simp [ch]

/-- The cursor begins at the corner that the order names. -/
theorem ch_corner (r a b : Byte) : ch (if r == 1 then a.toNat else b.toNat) = if r = 1 then a else b := by
  by_cases reversed : r = 1
  · rw [if_pos reversed, if_pos (beq_iff_eq.mpr reversed), ch_of_byte]
  · rw [if_neg reversed, if_neg fun same => reversed (beq_iff_eq.mp same), ch_of_byte]

theorem corner_toNat (r a b : Byte) : (if r = 1 then a else b).toNat = if r == 1 then a.toNat else b.toNat := by
  by_cases reversed : r = 1
  · rw [if_pos reversed, if_pos (beq_iff_eq.mpr reversed)]
  · rw [if_neg reversed, if_neg fun same => reversed (beq_iff_eq.mp same)]

theorem sweepRefusal_eq (s : State) (w : Sweep) : sweepRefusal s w =
    if s.mgt.mode ≠ .setup ∧ s.mgt.mode ≠ .service then some .wrongMode
    else if s.spd.sweep.isSome then some .busy
    else if 7 < w.trayLast ∨ 9 < w.colLast ∨ w.trayLast < w.trayFirst ∨ w.colLast < w.colFirst then some .badValue
    else if 32 ≤ s.rpq.queue.length + s.rpq.reserved then some .queueFull else none := by
  unfold sweepRefusal
  rw [canReserve_one_ite]
  refine ite_congr rfl (fun _ => rfl) fun _ => ite_congr rfl (fun _ => rfl) fun _ => ite_congr (propext ?_) (fun _ => rfl) fun _ => rfl
  omega

/-! ## The end of a check in progress (R46, R47) -/

theorem endCheck_none_eq {s : State} (sweep : s.spd.sweep = none) : endCheck s = s := by
  unfold endCheck
  rw [sweep]

theorem endCheck_claimed {s : State} {w : Sweep} (sweep : s.spd.sweep = some w) (check : w.check = .claimed) :
    endCheck s = withdrawClaim .coilCheck { s with spd := { s.spd with sweep := some { w with check := .none } } } := by
  unfold endCheck
  simp only [sweep, check]

theorem endCheck_energized {s : State} {w : Sweep} {since : Time} (sweep : s.spd.sweep = some w) (check : w.check = .energized since) :
    endCheck s = driversOff { s with
      spd := { s.spd with sweep := some { w with check := .none } }, lds := { s.lds with coilUnits := 0 } } := by
  unfold endCheck
  simp only [sweep, check]

theorem stopSweep_none_eq {s : State} (sweep : s.spd.sweep = none) : stopSweep s = s := by
  unfold stopSweep
  rw [endCheck_none_eq sweep]
  simp only [sweep]

theorem stopSweep_some_eq {s : State} {w : Sweep} (sweep : s.spd.sweep = some w) :
    stopSweep s = sweepFinish true { w with check := .none } (endCheck s) := by
  have ended : (endCheck s).spd.sweep = some { w with check := .none } := by rw [endCheck_sweep, sweep]; rfl
  unfold stopSweep
  simp only [ended]

theorem endCheck_only (s : State) : ChangesOnly [.spd, .lds] s (endCheck s) := by constructor <;> simp

theorem sweepFinish_only (stopped : Bool) (w : Sweep) (s : State) : ChangesOnly [.spd, .rpq] s (sweepFinish stopped w s) := by
  constructor <;> simp

theorem sweepFinish_of_slot {stopped : Bool} {w : Sweep} {s : State} (slot : 1 ≤ s.rpq.reserved) :
    (sweepFinish stopped w s).rpq = { s.rpq with
      queue := s.rpq.queue ++ [.event (.sweepDone stopped w.lastChecked w.okCount w.openCount w.shortCount)]
      reserved := s.rpq.reserved - 1 } := by
  rw [sweepFinish, consumeSlot_of_slot (by exact slot)]

/-- R47: what a stop leaves of a sweep. -/
theorem stopSweep_stopped {s : State} {w : Sweep} (sweep : s.spd.sweep = some w) :
    (stopSweep s).spd.sweep = none ∧ (∀ c ∈ (stopSweep s).lds.claims, w.check = .claimed → c.kind ≠ .coilCheck) ∧
    (∀ since, w.check = .energized since →
      (stopSweep s).spd.rowOn = none ∧ (stopSweep s).spd.colsOn = [] ∧ (stopSweep s).lds.coilUnits = 0) ∧
    (1 ≤ s.rpq.reserved → (stopSweep s).rpq = { s.rpq with
      queue := s.rpq.queue ++ [.event (.sweepDone true w.lastChecked w.okCount w.openCount w.shortCount)]
      reserved := s.rpq.reserved - 1 }) ∧
    ChangesOnly [.spd, .lds, .rpq] s (stopSweep s) := by
  have rpq : (endCheck s).rpq = s.rpq := (endCheck_only s).rpq.resolve_right (by decide)
  refine ⟨stopSweep_sweep s, fun c mem check => ?_, fun since check => ?_, fun slot => ?_, ?_⟩
  · rw [stopSweep_some_eq sweep, endCheck_claimed sweep check] at mem
    simp only [sweepFinish_frame, withdrawClaim_claims, List.mem_filter, bne_iff_ne] at mem
    exact mem.2
  · rw [stopSweep_some_eq sweep, endCheck_energized sweep check]
    simp [sweepFinish, driversOff]
  · rw [stopSweep_some_eq sweep, sweepFinish_of_slot (by rw [rpq]; exact slot), rpq]
  · rw [stopSweep_some_eq sweep]
    exact ((endCheck_only s).mono (by decide)).trans ((sweepFinish_only _ _ _).mono (by decide))

/-- The state in which a SWEEP's walk begins (R43). -/
def State.sweepBegun (w : Sweep) (s : State) : State := reserve 1 { s with spd := { s.spd with sweep := some w } }

end Sys2Proof.Machine
end

section
/-! PROOF. SWEEP and SWEEP STOP (R43, R47). -/

namespace Sys2Proof.Machine

/-- Settles O30: the checks of SWEEP as one chain, its context before the walk; a stop by what it ends. -/
theorem sweepsBeginAndStop : Obligations.SweepsBeginAndStop := by
  refine ⟨fun src t0 t1 c0 c1 order rt rc s h => ?_, fun src s h => ?_⟩
  · let w := sweepOf s t0.toNat t1.toNat c0.toNat c1.toNat (order == 1) (rt == 1) (rc == 1)
    obtain ⟨t, named⟩ : ∃ t, t = deliver src kCommand (sweepCommand [t0, t1, c0, c1, order, rt, rc]) s := ⟨_, rfl⟩
    refine ⟨s.taken.sweepBegun w, t, congrArg Host.Outcome.next named.symm, ?_⟩
    by_cases bits : 1 < order.toNat ∨ 1 < rt.toNat ∨ 1 < rc.toNat
    · rw [if_pos bits, named]
      refine deliver_refused src kCommand _ h (if_neg ?_)
      simp only [Bool.and_eq_true, not_and_or, Bool.not_eq_true, isBit_eq_false_iff]
      tauto
    rw [if_neg bits]
    have reads : (isBit order && isBit rt && isBit rc) = true := by
      rw [Bool.and_eq_true, Bool.and_eq_true, ← Bool.not_eq_false, ← Bool.not_eq_false, ← Bool.not_eq_false, isBit_eq_false_iff,
        isBit_eq_false_iff, isBit_eq_false_iff]
      tauto
    have acts : sweepCommand [t0, t1, c0, c1, order, rt, rc] s.taken =
        (sweepRefusal s w).elim (okAnswer [ch w.cursorTray, ch w.cursorCol], startSweep w s.taken) fun st => (refuse st, s.taken) := by
      refine (if_pos reads).trans ?_
      show (match sweepRefusal s w with | some st => _ | none => _) = _
      cases sweepRefusal s w <;> rfl
    have outcome : CommandOutcome src (sweepRefusal s w) _ s t := named ▸ deliver_checked src h acts (by simp [startSweep])
    simp only [sweepRefusal_eq, commandOutcome_ite] at outcome
    refine else_imp (fun _ => else_imp fun _ => else_imp fun _ => else_imp fun _ => ?_) outcome
    intro answered
    have corner : okAnswer [ch w.cursorTray, ch w.cursorCol] = okAnswer [if rt = 1 then t1 else t0, if rc = 1 then c1 else c0] := by
      rw [← ch_corner, ← ch_corner]
      rfl
    refine ⟨corner ▸ answered, rfl, ?_, rfl, by constructor <;> simp [State.sweepBegun, reserve, State.taken]⟩
    rw [corner_toNat, corner_toNat]
    rfl
  · have acts := noParams_nil sweepStopCommand s.taken
    have answered := deliver_acted src kCommand _ h acts (by simp)
    refine ⟨stopSweep s.taken, _, rfl, answered, ?_⟩
    split
    · next sweep =>
      have kept : stopSweep s.taken = s.taken := stopSweep_none_eq sweep
      rw [kept] at answered ⊢
      have taken : ChangesOnly [.ulk] s s.taken := by constructor <;> simp
      refine ⟨taken, fun none => ?_⟩
      rw [show evaluateClaims s.taken = s.taken from evaluateClaims_nil none] at answered
      exact answered.only (bs := []) (.refl _ _)
    · next w sweep =>
      obtain ⟨gone, claims, off, queued, only⟩ := stopSweep_stopped (s := s.taken) sweep
      exact ⟨gone, claims, off, queued, only.of_taken⟩

end Sys2Proof.Machine
end

section
/-! SUPPORT. The walk of a sweep and the end of a coil check (R44, R45). -/

namespace Sys2Proof.Machine

/-! ## The walk (R44, R45) -/

/-- R44: the walk is over at the corner opposite to its begin. -/
theorem advance_eq_none_iff (w : Sweep) : w.advance = none ↔
    w.cursorTray = (if w.revTrays then w.trayFirst else w.trayLast) ∧ w.cursorCol = (if w.revCols then w.colFirst else w.colLast) := by
  unfold Sweep.advance
  dsimp only
  generalize (if w.revTrays then w.trayFirst else w.trayLast) = lastTray
  generalize (if w.revCols then w.colFirst else w.colLast) = lastCol
  by_cases tray : w.cursorTray = lastTray
  · by_cases col : w.cursorCol = lastCol <;> cases w.columnsFirst <;> simp [tray, col]
  · by_cases col : w.cursorCol = lastCol <;> cases w.columnsFirst <;> simp [tray, col]

/-- What a walk leaves of a sweep whose record was `x`: at its next check, at its end, or out of positions. -/
structure SweepWalked (x : Sweep) (b v : State) : Prop where
  only : ChangesOnly [.spd, .lds, .rpq] b v
  spd : v.spd = { b.spd with sweep := v.spd.sweep }
  lds : v.lds = { b.lds with claims := v.lds.claims }
  next : (v.spd.sweep = none ∧ v.lds.claims = []) ∨ ∃ y, v.spd.sweep = some y ∧
    y = { x with cursorTray := y.cursorTray, cursorCol := y.cursorCol, check := y.check } ∧
    (y.check = .none ∧ v.lds.claims = [] ∨ y.check = .claimed ∧ v.lds.claims = [⟨.coilCheck, 1, v.now, false⟩])

theorem sweepLook_walked (n : Nat) {x : Sweep} {b : State} (sweep : b.spd.sweep = some x) (check : x.check = .none)
    (idle : b.lds.claims = []) : SweepWalked x b (sweepLook n b) := by
  have stays : SweepWalked x b b := ⟨.refl _ _, rfl, rfl, .inr ⟨x, sweep, rfl, .inl ⟨check, idle⟩⟩⟩
  induction n generalizing x b with
  | zero => exact stays
  | succ n ih =>
    unfold sweepLook
    simp only [sweep]
    split
    · exact stays
    split
    · split
      · refine ⟨(sweepFinish_only _ _ _).mono (by decide), by simp [sweepFinish], by simp, .inl ⟨by simp [sweepFinish], by simp [idle]⟩⟩
      · next t c _ =>
        let moved : State := { b with spd := { b.spd with sweep := some { x with cursorTray := t, cursorCol := c } } }
        have cursor : ChangesOnly [.spd, .lds, .rpq] b moved := by constructor <;> simp [moved]
        obtain ⟨only, spd, lds, next⟩ := ih (b := moved) (x := { x with cursorTray := t, cursorCol := c }) rfl check idle
          ⟨.refl _ _, rfl, rfl, .inr ⟨_, rfl, rfl, .inl ⟨check, idle⟩⟩⟩
        exact ⟨cursor.trans only, spd, lds, next.imp_right fun ⟨y, stands, same, claims⟩ => ⟨y, stands, same, claims⟩⟩
    · exact ⟨by constructor <;> simp [fileClaim], rfl, rfl,
        .inr ⟨{ x with check := .claimed }, rfl, rfl, .inr ⟨rfl, by simp [fileClaim, idle]⟩⟩⟩

/-- A coil check's claim that waits alone is granted, or waits on. -/
theorem evaluateClaims_coilCheck {v : State} {y : Sweep} {since : Time} (alone : v.lds.claims = [⟨.coilCheck, 1, since, false⟩])
    (sweep : v.spd.sweep = some y) : evaluateClaims v = v ∨ evaluateClaims v = { v with
      lds := { v.lds with claims := [], coilUnits := 1 }
      spd := { v.spd with
        sweep := some { y with check := .energized v.now }, rowOn := some y.cursorTray, colsOn := [y.cursorCol] } } := by
  cases next : nextGrant v with
  | none => exact .inl (evaluateClaims_of_none next)
  | some c =>
    have waits := (nextGrant_fits next).2.1
    rw [alone, List.mem_singleton] at waits
    rw [evaluateClaims_grant next, grantClaim_coilCheck (by rw [waits]) sweep, evaluateClaims_nil (by simp [alone, waits])]
    exact .inr (by simp [alone, waits])

/-- R45: the drivers and the unit are on for an energized check alone. -/
def CheckDriven (t : State) : Prop :=
  (∀ w at1, t.spd.sweep = some w → w.check = .energized at1 → at1 = t.now ∧ t.spd.rowOn = some w.cursorTray ∧
    t.spd.colsOn = [w.cursorCol] ∧ t.lds.coilUnits = 1) ∧
  ((∀ w at1, t.spd.sweep = some w → w.check ≠ .energized at1) →
    t.spd.rowOn = none ∧ t.spd.colsOn = [] ∧ t.lds.coilUnits = 0)

/-- What a walk and the evaluation after it leave, where nothing was driven before. -/
theorem SweepWalked.evaluated {x : Sweep} {b v : State} (h : SweepWalked x b v) (row : b.spd.rowOn = none) (cols : b.spd.colsOn = [])
    (units : b.lds.coilUnits = 0) :
    CheckDriven (evaluateClaims v) ∧ (evaluateClaims v).spd.health = b.spd.health ∧
    ChangesOnly [.spd, .lds, .rpq] b (evaluateClaims v) ∧
    ∀ y, (evaluateClaims v).spd.sweep = some y →
      y = { x with cursorTray := y.cursorTray, cursorCol := y.cursorCol, check := y.check } := by
  have off : v.spd.rowOn = none ∧ v.spd.colsOn = [] ∧ v.lds.coilUnits = 0 ∧ v.spd.health = b.spd.health := by
    rw [h.spd, h.lds]
    exact ⟨row, cols, units, rfl⟩
  obtain ⟨rowOff, colsOff, unitsOff, health⟩ := off
  have quiet (none : ∀ w at1, v.spd.sweep = some w → w.check ≠ .energized at1) : CheckDriven v :=
    ⟨fun w at1 sweep check => absurd check (none w at1 sweep), fun _ => ⟨rowOff, colsOff, unitsOff⟩⟩
  obtain ⟨gone, claims⟩ | ⟨y, sweep, same, ⟨check, claims⟩ | ⟨check, claims⟩⟩ := h.next
  · rw [evaluateClaims_nil claims]
    exact ⟨quiet fun w _ sweep => absurd (gone.symm.trans sweep) (by nofun), health, h.only,
      fun y sweep => absurd (gone.symm.trans sweep) (by nofun)⟩
  · rw [evaluateClaims_nil claims]
    refine ⟨quiet fun w _ stands on => ?_, health, h.only, fun z stands => ?_⟩
    · obtain rfl := Option.some.inj (sweep.symm.trans stands)
      rw [check] at on
      cases on
    · obtain rfl := Option.some.inj (sweep.symm.trans stands)
      exact same
  · obtain waits | granted := evaluateClaims_coilCheck claims sweep
    · rw [waits]
      refine ⟨quiet fun w _ stands on => ?_, health, h.only, fun z stands => ?_⟩
      · obtain rfl := Option.some.inj (sweep.symm.trans stands)
        rw [check] at on
        cases on
      · obtain rfl := Option.some.inj (sweep.symm.trans stands)
        exact same
    · rw [granted]
      refine ⟨⟨fun w at1 stands on => ?_, fun none => absurd rfl (none _ v.now rfl)⟩, health, h.only.trans (by constructor <;> simp),
        fun z stands => ?_⟩
      · obtain rfl := Option.some.inj stands
        cases on
        exact ⟨rfl, rfl, rfl, rfl⟩
      · obtain rfl := Option.some.inj stands
        rw [same]

/-! ## A check's result (R28, R45) -/

theorem reports_reserved {α : Type} (key : α → StateKey) (l : List α) (s : State) :
    (l.foldl (fun a i => report (key i) a) s).rpq.reserved = s.rpq.reserved := by
  induction l generalizing s with
  | nil => rfl
  | cons i l ih => exact (ih _).trans (report_rpq _ _).1

theorem selRefresh_reserved (s : State) : (selRefresh s).rpq.reserved = s.rpq.reserved := by
  unfold selRefresh ecoRefresh
  dsimp only
  split
  · exact reports_reserved _ _ _
  · exact (report_rpq _ _).1.trans (reports_reserved _ _ _)

theorem storeHealth_reserved (tray col : Nat) (h : Health) (s : State) : (storeHealth tray col h s).rpq.reserved = s.rpq.reserved := by
  unfold storeHealth
  split
  · rfl
  · exact (report_rpq _ _).1

/-- A stored health leaves every other position's. -/
theorem storeHealth_other {tray col j : Nat} (other : j ≠ posIndex tray col) (h : Health) (s : State) :
    tget (storeHealth tray col h s).spd.health .unknown j = tget s.spd.health .unknown j := by
  unfold storeHealth
  split
  · rfl
  · simp only [report_frame]
    exact tget_tset_ne _ _ _ other

/-- R28, R45: a check's result stored and counted, with its sweep's record. -/
theorem checkStored_stored {h : Health} {w : Sweep} {s : State} (inTray : w.cursorTray < 8) (inCol : w.cursorCol < 10) :
    let v := checkStored h w s
    healthAt v w.cursorTray w.cursorCol = h ∧
    (∀ j, j ≠ posIndex w.cursorTray w.cursorCol → tget v.spd.health .unknown j = tget s.spd.health .unknown j) ∧
    v.spd.sweep = some (w.counted h) ∧ v.spd.rowOn = s.spd.rowOn ∧ v.spd.colsOn = s.spd.colsOn ∧ v.lds = s.lds ∧
    v.rpq.reserved = s.rpq.reserved ∧ v.now = s.now ∧ v.sel.table = s.sel.table ∧ v.csh.credit = s.csh.credit ∧ v.chg = s.chg ∧
    v.mgt = s.mgt := by
  let u : State := { s with spd := { s.spd with sweep := some (w.counted h) } }
  have spd : (checkStored h w s).spd = (storeHealth w.cursorTray w.cursorCol h u).spd := by simp [checkStored, u]
  have credit : (checkStored h w s).csh.credit = s.csh.credit := by
    rw [checkStored, settleCash_sameAccount]
    simp
  refine ⟨?_, fun j other => ?_, by rw [spd]; simp [u], by rw [spd]; simp [u], by rw [spd]; simp [u], by simp [checkStored], ?_,
    by simp [checkStored], by simp [checkStored], credit, by simp [checkStored], by simp [checkStored]⟩
  · have found := healthAt_storeHealth (c := w.cursorCol) inTray inCol h u
    rw [if_pos rfl] at found
    rw [healthAt, spd]
    exact found
  · rw [spd]
    exact storeHealth_other other h u
  · exact ((settleCash_reserved s _).trans (selRefresh_reserved _)).trans (storeHealth_reserved _ _ _ _)

/-- What the end of an energized check leaves (R28, R45). -/
structure CheckFound (h : Health) (w : Sweep) (s t : State) : Prop where
  now : t.now = s.now
  health : healthAt t w.cursorTray w.cursorCol = h
  counts : ∀ y, t.spd.sweep = some y → y.lastChecked = some (posIndex w.cursorTray w.cursorCol) ∧
    y.okCount = (w.counted h).okCount ∧ y.openCount = (w.counted h).openCount ∧ y.shortCount = (w.counted h).shortCount
  driven : CheckDriven t
  done : w.advance = none → t.spd.sweep = none ∧ (1 ≤ s.rpq.reserved →
    .event (.sweepDone false (some (posIndex w.cursorTray w.cursorCol)) (w.counted h).okCount (w.counted h).openCount
      (w.counted h).shortCount) ∈ t.rpq.queue)
  others : ∀ j, j ≠ posIndex w.cursorTray w.cursorCol → tget t.spd.health .unknown j = tget s.spd.health .unknown j
  table : t.sel.table = s.sel.table
  credit : t.csh.credit = s.csh.credit
  chg : t.chg = s.chg
  mgt : t.mgt = s.mgt

/-- R45: the check's drivers and its unit are back before its result is stored. -/
theorem endCoilCheck_found {h : Health} {w : Sweep} {s : State} (idle : s.lds.claims = []) (inTray : w.cursorTray < 8)
    (inCol : w.cursorCol < 10) : CheckFound h w s (endCoilCheck h w s) := by
  obtain ⟨r, released⟩ : ∃ r, r = releaseCheck w s := ⟨_, rfl⟩
  have claims : r.lds.claims = [] := by rw [released]; exact idle
  have ends : endCoilCheck h w s = evaluateClaims (finishCheck h w r) := by
    rw [endCoilCheck, ← released, evaluateClaims_nil claims]
  obtain ⟨health, others, sweep, row, cols, lds, reserved, now, table, credit, chg, mgt⟩ :=
    checkStored_stored (h := h) (s := r) inTray inCol
  set v := checkStored h w r with stored
  have base : r.spd.rowOn = none ∧ r.spd.colsOn = [] ∧ r.lds.coilUnits = 0 ∧ r.rpq = s.rpq ∧ r.now = s.now ∧
      r.spd.health = s.spd.health ∧ r.sel = s.sel ∧ r.csh = s.csh ∧ r.chg = s.chg ∧ r.mgt = s.mgt := by
    rw [released]
    exact ⟨rfl, rfl, rfl, rfl, rfl, rfl, rfl, rfl, rfl, rfl⟩
  obtain ⟨rowOff, colsOff, unitsOff, rpq, clock, health0, sel0, csh0, chg0, mgt0⟩ := base
  rw [ends, finishCheck_eq]
  have other j (ne : j ≠ posIndex w.cursorTray w.cursorCol) : tget v.spd.health .unknown j = tget s.spd.health .unknown j := by
    rw [others j ne, health0]
  split
  · next ended =>
    have finished : evaluateClaims (sweepFinish false (w.counted h) v) = sweepFinish false (w.counted h) v :=
      evaluateClaims_nil (by simp [lds, claims])
    rw [← stored, finished]
    have spd : (sweepFinish false (w.counted h) v).spd = { v.spd with sweep := none } := by simp [sweepFinish]
    have gone : (sweepFinish false (w.counted h) v).spd.sweep = none := by rw [spd]
    refine ⟨by simp [now, clock], by rw [healthAt, spd]; exact health, fun y stands => absurd (gone.symm.trans stands) (by nofun),
      ⟨fun y _ stands => absurd (gone.symm.trans stands) (by nofun), fun _ => ?_⟩, fun _ => ⟨gone, fun slot => ?_⟩,
      fun j ne => by rw [spd]; exact other j ne, by simp [table, sel0], by simp [credit, csh0], by simp [chg, chg0], by simp [mgt, mgt0]⟩
    · rw [spd]
      exact ⟨row.trans rowOff, cols.trans colsOff, by simp [lds, unitsOff]⟩
    · have slots : 1 ≤ v.rpq.reserved := by rw [reserved, rpq]; exact slot
      rw [sweepFinish_of_slot slots]
      exact List.mem_append_right _ (List.mem_singleton.mpr rfl)
  · next tray col moves =>
    rw [← stored]
    let b : State := { v with spd := { v.spd with sweep := some { w.counted h with cursorTray := tray, cursorCol := col } } }
    have walked := sweepLook_walked 80 (b := b) (x := { w.counted h with cursorTray := tray, cursorCol := col }) rfl rfl
      (show v.lds.claims = [] by rw [lds, claims])
    obtain ⟨driven, health1, only, counts⟩ := walked.evaluated (show v.spd.rowOn = _ by rw [row, rowOff])
      (show v.spd.colsOn = _ by rw [cols, colsOff]) (show v.lds.coilUnits = _ by rw [lds, unitsOff])
    have health1 : (evaluateClaims (sweepLook 80 b)).spd.health = v.spd.health := health1
    show CheckFound h w s (evaluateClaims (sweepLook 80 b))
    have goes : w.advance ≠ none := fun past => by
      have : w.advance = some (tray, col) := moves
      exact absurd (past.symm.trans this) nofun
    refine ⟨?_, ?_, fun y stands => ?_, driven, fun past => absurd past goes, fun j ne => ?_, ?_, ?_, ?_, ?_⟩
    · exact (only.now.resolve_right (by decide)).trans (now.trans clock)
    · rw [healthAt, health1]
      exact health
    · rw [counts y stands]
      exact ⟨rfl, rfl, rfl, rfl⟩
    · rw [health1]
      exact other j ne
    · rw [only.sel.resolve_right (by decide)]
      exact table.trans (by rw [sel0])
    · rw [only.csh.resolve_right (by decide)]
      exact credit.trans (by rw [csh0])
    · rw [only.chg.resolve_right (by decide)]
      exact chg.trans chg0
    · rw [only.mgt.resolve_right (by decide)]
      exact mgt.trans mgt0

end Sys2Proof.Machine
end

section
/-! PROOF. The coil checks (R45). -/

namespace Sys2Proof.Machine

/-- Settles O31: the check's result stored and counted, then the sweep's next check or its end. -/
theorem coilChecksFindTheHealth : Obligations.CoilChecksFindTheHealth := by
  intro w since sample s sweep check idle paused inTray inCol atEnd driven done
  have energized : energizedCheck s = some (w, since) := by
    unfold energizedCheck
    simp only [sweep, check]
  refine ⟨fun low => ?_, fun high => ?_⟩
  · have found := endCoilCheck_found (h := if sample < 40 then .opened else .ok) (w := w) (s := s.upTo (since + ms 50))
      idle (Nat.lt_succ_of_le inTray) (Nat.lt_succ_of_le inCol)
    refine ⟨endCoilCheck (if sample < 40 then .opened else .ok) w (s.upTo (since + ms 50)), ?_, found.now, found.health, fun y stands => ?_,
      found.driven, fun past => ?_, found.others, found.table, found.credit, found.chg, found.mgt⟩
    · show execCoilCheckEnd sample s = _
      simp only [execCoilCheckEnd, energized]
      exact if_neg (Nat.not_lt.mpr low)
    · obtain ⟨last, ok, opened, short⟩ := found.counts y stands
      refine ⟨last, ok.trans ?_, opened.trans ?_, short.trans ?_⟩
      all_goals by_cases below : sample < 40 <;> simp [Sweep.counted, below]
    · obtain ⟨gone, queued⟩ := found.done ((advance_eq_none_iff w).mpr past)
      refine ⟨gone, fun slot => ?_⟩
      have event := queued slot
      by_cases below : sample < 40 <;> simpa [Sweep.counted, below, posIndex] using event
  · have found := endCoilCheck_found (h := .shorted) (w := w) (s := s) idle (Nat.lt_succ_of_le inTray) (Nat.lt_succ_of_le inCol)
    refine ⟨endCoilCheck .shorted w s, ?_, found.now, found.health, fun y stands => ?_, found.driven, fun past => ?_, found.others,
      found.table, found.credit, found.chg, found.mgt⟩
    · show execCoilCheckShort sample s = _
      simp only [execCoilCheckShort, energized]
      exact if_pos high
    · obtain ⟨last, ok, opened, short⟩ := found.counts y stands
      exact ⟨short, ok, opened⟩
    · exact found.done ((advance_eq_none_iff w).mpr past)

end Sys2Proof.Machine
end

section
/-! SUPPORT. The settlement of a vend: what the release of its grant, its outcome and its end leave (R17 to R21, R54, R137). -/

namespace Sys2Proof.Machine

/-! ## The own frames that an ENABLE takes (R69, R169) -/

/-- An ENABLE waits for the BILL node. -/
def enableWaits (s : State) : Bool := (entryOf .bill s).any fun p => s.dlk.own.any (OwnFrame.isEnableFor p.2.base)

/-- The own-frame queue is as long as before, or longer by the one ENABLE that waits for the BILL node. -/
structure EnableAtMost (s t : State) : Prop where
  routes : t.dlk.routes = s.dlk.routes
  own : (t.dlk.own.length = s.dlk.own.length ∧ (enableWaits s = true → enableWaits t = true)) ∨
    (t.dlk.own.length = s.dlk.own.length + 1 ∧ enableWaits s = false ∧ enableWaits t = true)

theorem EnableAtMost.refl (s : State) : EnableAtMost s s := ⟨rfl, .inl ⟨rfl, id⟩⟩

theorem EnableAtMost.trans {s t u : State} (h : EnableAtMost s t) (k : EnableAtMost t u) : EnableAtMost s u where
  routes := k.routes.trans h.routes
  own := by
    obtain ⟨length, waits⟩ | ⟨length, none, some⟩ := h.own
    · obtain ⟨length', waits'⟩ | ⟨length', none', some'⟩ := k.own
      · exact .inl ⟨length'.trans length, fun before => waits' (waits before)⟩
      · refine .inr ⟨by rw [length', length], ?_, some'⟩
        rw [Bool.eq_false_iff]
        exact fun before => Bool.eq_false_iff.mp none' (waits before)
    · obtain ⟨length', waits'⟩ | ⟨-, none', -⟩ := k.own
      · exact .inr ⟨by rw [length', length], none, waits' some⟩
      · exact absurd (some.symm.trans none') (by decide)

theorem EnableAtMost.length_le {s t : State} (h : EnableAtMost s t) : t.dlk.own.length ≤ s.dlk.own.length + 1 := by
  obtain ⟨length, -⟩ | ⟨length, -⟩ := h.own <;> omega

theorem EnableAtMost.entryOf {s t : State} (h : EnableAtMost s t) (role : Role) : entryOf role t = entryOf role s := by
  unfold Machine.entryOf
  rw [h.routes]

theorem enableAtMost_of_dlk {s t : State} (h : t.dlk = s.dlk) : EnableAtMost s t := by
  refine ⟨by rw [h], .inl ⟨by rw [h], fun waits => ?_⟩⟩
  unfold enableWaits entryOf at waits ⊢
  rw [h]
  exact waits

/-- What an operation adds to a state that differs from `s` outside DLK only. -/
theorem EnableAtMost.from {s s' t : State} (h : EnableAtMost s' t) (dlk : s'.dlk = s.dlk) : EnableAtMost s t :=
  (enableAtMost_of_dlk dlk).trans h

theorem sendEnable_own (s : State) : EnableAtMost s (sendEnable s) := by
  unfold sendEnable
  split
  · next n r entry =>
    split
    · next open_ =>
      have waits (t : State) (routes : t.dlk.routes = s.dlk.routes) :
          enableWaits t = t.dlk.own.any (OwnFrame.isEnableFor r.base) := by
        have same : entryOf .bill t = some (n, r) := by
          rw [← entry]
          unfold entryOf
          rw [routes]
        rw [enableWaits, same]
        rfl
      have longer (own : List OwnFrame) : enableWaits { s with dlk := { s.dlk with own := own } } =
          own.any (OwnFrame.isEnableFor r.base) := waits _ rfl
      unfold handFrame
      simp only [entry]
      rw [if_neg (not_not.mpr open_.1)]
      split
      · next queued =>
        refine ⟨rfl, .inl ⟨List.length_map _, fun before => ?_⟩⟩
        rw [waits s rfl, List.any_eq_true] at before
        obtain ⟨f, mem, is⟩ := before
        refine (longer _).trans (List.any_eq_true.mpr ?_)
        refine ⟨_, List.mem_map.mpr ⟨f, mem, rfl⟩, ?_⟩
        rw [OwnFrame.replaceEnable, if_pos is]
        unfold OwnFrame.isEnableFor at is ⊢
        split at is
        · exact is
        · cases is
      · next unqueued =>
        have none : enableWaits s = false := by
          rw [waits s rfl, Bool.eq_false_iff]
          exact fun before => unqueued ⟨rfl, before⟩
        split
        · exact .refl s
        · refine ⟨rfl, .inr ⟨by simp, none, ?_⟩⟩
          refine (longer _).trans (List.any_eq_true.mpr ?_)
          exact ⟨_, List.mem_append_right _ (List.mem_singleton.mpr rfl), by simp [OwnFrame.isEnableFor]⟩
    · exact .refl s
  · exact .refl s

theorem cshRefresh_own (s : State) : EnableAtMost s (cshRefresh s) := (sendEnable_own _).from (by simp)

theorem settleCash_own (before s : State) : EnableAtMost s (settleCash before s) := by
  obtain ⟨-, same⟩ | ⟨-, refreshed⟩ := settleCash_cases before s
  · rw [same]
    exact .refl s
  · rw [refreshed]
    exact cshRefresh_own s

theorem endPayout_own (s : State) : EnableAtMost s (endPayout s) := by
  unfold endPayout endPayoutWith
  split
  · have settled (ev : EventReport) (u : State) (dlk : u.dlk = s.dlk) : EnableAtMost s (consumeSlot ev (settleCash s u)) :=
      ((settleCash_own s u).from dlk).trans (enableAtMost_of_dlk (by simp))
    exact settled _ _ (by split <;> simp [withdrawClaim])
  · exact .refl s

theorem beginPaying_own (s : State) : EnableAtMost s (beginPaying s) := by
  unfold beginPaying payFirst
  split
  · dsimp only
    split
    · exact enableAtMost_of_dlk rfl
    · exact (endPayout_own _).from rfl
  · exact .refl s

theorem grantClaim_own (c : Claim) (s : State) : EnableAtMost s (grantClaim c s) := by
  unfold grantClaim
  dsimp only
  split
  · exact enableAtMost_of_dlk (by unfold grantVend; split <;> rfl)
  · exact (beginPaying_own _).from rfl
  · exact enableAtMost_of_dlk (by unfold energizeCheck; split <;> rfl)
  · exact enableAtMost_of_dlk (by simp)

theorem evaluateClaims_own (s : State) : EnableAtMost s (evaluateClaims s) :=
  evaluateClaims_induct (P := EnableAtMost s) (.refl s) fun u c _ before => before.trans (grantClaim_own c u)

/-! ## The slot of a payout (R94, R193) -/

/-- The reserved slots, but for the one that a payout that has ended has used. -/
def SlotsKept (s t : State) : Prop :=
  (t.chg.payout.isSome = s.chg.payout.isSome ∧ t.rpq.reserved = s.rpq.reserved) ∨
    (s.chg.payout.isSome = true ∧ t.chg.payout = none ∧ t.rpq.reserved = s.rpq.reserved - 1)

theorem SlotsKept.refl (s : State) : SlotsKept s s := .inl ⟨rfl, rfl⟩

theorem SlotsKept.trans {s t u : State} (h : SlotsKept s t) (k : SlotsKept t u) : SlotsKept s u := by
  obtain ⟨payout, slots⟩ | ⟨had, none, slots⟩ := h
  · obtain ⟨payout', slots'⟩ | ⟨had', none', slots'⟩ := k
    · exact .inl ⟨payout'.trans payout, slots'.trans slots⟩
    · exact .inr ⟨payout.symm.trans had', none', by rw [slots', slots]⟩
  · obtain ⟨payout', slots'⟩ | ⟨had', -, -⟩ := k
    · rw [none, Option.isSome_none, ← Bool.not_eq_true, Option.not_isSome_iff_eq_none] at payout'
      exact .inr ⟨had, payout', slots'.trans slots⟩
    · rw [none] at had'
      cases had'

theorem SlotsKept.after {s s' t : State} (h : SlotsKept s' t) (payout : s'.chg.payout.isSome = s.chg.payout.isSome)
    (slots : s'.rpq.reserved = s.rpq.reserved) : SlotsKept s t :=
  SlotsKept.trans (.inl ⟨payout, slots⟩) h

/-- With a slot beside the one of a payout, a slot stays. -/
theorem SlotsKept.slot {s t : State} (h : SlotsKept s t) (room : (if s.chg.payout.isSome then 2 else 1) ≤ s.rpq.reserved) :
    1 ≤ t.rpq.reserved := by
  obtain ⟨-, slots⟩ | ⟨had, -, slots⟩ := h
  · rw [slots]
    split at room <;> omega
  · rw [if_pos had] at room
    omega

theorem consumeSlot_reserved (ev : EventReport) (s : State) : (consumeSlot ev s).rpq.reserved = s.rpq.reserved - 1 := by
  obtain ⟨-, e⟩ | ⟨none, -, e⟩ | ⟨none, -, e⟩ := consumeSlot_cases ev s <;> rw [e]
  · exact none.trans (by rw [none])
  · rw [none]

theorem endPayout_slots {s : State} : SlotsKept s (endPayout s) := by
  cases payout : s.chg.payout with
  | none =>
    rw [show endPayout s = s by simp only [endPayout, endPayoutWith, payout]]
    exact .refl s
  | some p =>
    refine .inr ⟨by rw [payout]; rfl, by rw [endPayout_chg], ?_⟩
    simp only [endPayout, endPayoutWith, payout]
    rw [consumeSlot_reserved, settleCash_reserved]
    split
    · rfl
    · rw [addCredit_reserved]
      rfl

theorem beginPaying_slots (s : State) : SlotsKept s (beginPaying s) := by
  unfold beginPaying
  split
  · next p payout =>
    unfold payFirst
    dsimp only
    split
    · exact .inl ⟨by simp [payout, driveCoin], rfl⟩
    · exact endPayout_slots.after (by simp [payout]) rfl
  · exact .refl s

theorem startCompressor_slots (s : State) : SlotsKept s (startCompressor s) := by
  refine .inl ⟨by simp, ?_⟩
  unfold startCompressor setComp
  dsimp only
  split
  · rfl
  · split
    · rfl
    · exact (report_rpq _ _).1

theorem grantClaim_slots (c : Claim) (s : State) : SlotsKept s (grantClaim c s) := by
  unfold grantClaim
  dsimp only
  split
  · exact .inl (by unfold grantVend; split <;> exact ⟨rfl, rfl⟩)
  · exact SlotsKept.trans (t := withdrawClaim c.kind s) (.inl ⟨rfl, rfl⟩) (beginPaying_slots _)
  · exact .inl (by unfold energizeCheck; split <;> exact ⟨rfl, rfl⟩)
  · exact SlotsKept.trans (t := withdrawClaim c.kind s) (.inl ⟨rfl, rfl⟩) (startCompressor_slots _)

theorem evaluateClaims_slots (s : State) : SlotsKept s (evaluateClaims s) :=
  evaluateClaims_induct (P := SlotsKept s) (.refl s) fun u c _ before => before.trans (grantClaim_slots c u)

/-! ## The release of the grant (R18, R137) -/

/-- What the release of a vend's grant leaves, with the evaluation that follows. -/
structure VendReleased (s t : State) : Prop where
  grants : GrantsOnly s t
  vnd : t.vnd = s.vnd
  turn : t.spd.turn = s.spd.turn
  units : t.lds.vendUnits = 0
  claims : ∀ c ∈ t.lds.claims, c.kind ≠ .vend
  slots : SlotsKept s t
  own : EnableAtMost s t

theorem releaseVend_released (s : State) : VendReleased s (releaseVend s) := by
  obtain ⟨u, freed⟩ : ∃ u, u = withdrawClaim .vend { s with lds := { s.lds with vendUnits := 0 } } := ⟨_, rfl⟩
  have none : ∀ c ∈ u.lds.claims, c.kind ≠ .vend := by
    intro c mem
    rw [freed, withdrawClaim_claims] at mem
    simpa using (List.mem_filter.mp mem).2
  have free : GrantsOnly s u := by
    rw [freed]
    exact ⟨by constructor <;> simp [withdrawClaim, Block.grants], rfl, rfl, .inl rfl, rfl, rfl, rfl, fun _ => rfl, fun _ => ⟨rfl, rfl⟩⟩
  have same : u.vnd = s.vnd ∧ u.spd = s.spd ∧ u.lds.vendUnits = 0 ∧ u.chg = s.chg ∧ u.rpq = s.rpq ∧ u.dlk = s.dlk := by
    rw [freed]
    exact ⟨rfl, rfl, rfl, rfl, rfl, rfl⟩
  obtain ⟨vnd, spd, units, chg, rpq, dlk⟩ := same
  obtain ⟨vnd', turn', units'⟩ := evaluateClaims_vnd none
  have released : releaseVend s = evaluateClaims u := by rw [freed, releaseVend]
  rw [released]
  exact ⟨free.trans (evaluateClaims_grants u), vnd'.trans vnd, turn'.trans (by rw [spd]), units'.trans units,
    fun c mem => none c (evaluateClaims_claims mem), (evaluateClaims_slots u).after (by rw [chg]) (by rw [rpq]),
    (evaluateClaims_own u).from dlk⟩

/-! ## The outcome (R18, R19) -/

/-- The outcome applied to the selection and the money, and the Cash Unit's look at its inputs. -/
def State.outcomeStored (o : VendOutcome) (jam : Bool) (v : VendCtx) (s : State) : State := settleCash s (recordOutcome o jam v s)

/-- What an outcome leaves. -/
structure OutcomeStored (o : VendOutcome) (jam : Bool) (v : VendCtx) (s t : State) : Prop where
  vnd : t.vnd = ⟨some { v with outcome := some o, stage := .settling }⟩
  table : t.sel.table = tset s.sel.table v.selection (outcomeEntry o jam v (selOf s v.selection))
  audit : t.csh.audit = if v.delivered o then auditDelivery v s.csh.audit else s.csh.audit
  credit : v.delivered o = true ∨ v.payment ≠ .cash → t.csh.credit = s.csh.credit
  returned : v.delivered o = false → v.payment = .cash → s.csh.credit + v.price ≤ 65535 → t.csh.credit = s.csh.credit + v.price
  reserved : t.rpq.reserved = s.rpq.reserved
  own : EnableAtMost s t
  only : ChangesOnly [.freeIx, .sel, .vnd, .csh, .clg, .dlk, .rpq] s t

theorem settleMoney_stored (o : VendOutcome) (v : VendCtx) (s : State) :
    (settleMoney o v s).csh.audit = (if v.delivered o then auditDelivery v s.csh.audit else s.csh.audit) ∧
    (v.delivered o = true ∨ v.payment ≠ .cash → (settleMoney o v s).csh.credit = s.csh.credit) ∧
    (v.delivered o = false → v.payment = .cash → s.csh.credit + v.price ≤ 65535 →
      (settleMoney o v s).csh.credit = s.csh.credit + v.price) ∧
    (settleMoney o v s).rpq.reserved = s.rpq.reserved := by
  unfold settleMoney
  by_cases delivered : v.delivered o = true
  · rw [if_pos delivered, if_pos delivered]
    exact ⟨rfl, fun _ => rfl, fun none => absurd (delivered.symm.trans none) (by decide), rfl⟩
  rw [if_neg delivered, if_neg delivered]
  by_cases cash : v.payment = .cash
  · rw [if_pos cash]
    have books := addCredit_books v.price s
    refine ⟨by rw [books], fun other => ?_, fun _ _ range => addCredit_credit range, addCredit_reserved _ _⟩
    exact other.elim (absurd · delivered) (absurd cash ·)
  · rw [if_neg cash]
    exact ⟨rfl, fun _ => rfl, fun _ is => absurd is cash, rfl⟩

theorem storeSelection_reserved (i : Nat) (e : Selection) (s : State) : (storeSelection i e s).rpq.reserved = s.rpq.reserved :=
  reportIf_reserved _ _ _

theorem outcomeStored_stored (o : VendOutcome) (jam : Bool) (v : VendCtx) (s : State) :
    OutcomeStored o jam v s (s.outcomeStored o jam v) := by
  let ended : State := { s with vnd := ⟨some { v with outcome := some o, stage := .settling }⟩ }
  let u := selRefresh (storeSelection v.selection (outcomeEntry o jam v (selOf s v.selection)) ended)
  have csh : u.csh = s.csh := by simp [u, ended]
  have recorded : recordOutcome o jam v s = settleMoney o v u := rfl
  obtain ⟨audit, credit, returned, reserved⟩ := settleMoney_stored o v u
  rw [csh] at audit credit returned
  have table : (recordOutcome o jam v s).sel.table = tset s.sel.table v.selection (outcomeEntry o jam v (selOf s v.selection)) := by
    rw [recorded]
    simp [u, ended, storeSelection]
  unfold State.outcomeStored
  refine ⟨by simp [recordOutcome], by simpa using table, by simpa [recorded] using audit, fun h => by simpa [recorded] using credit h,
    fun h1 h2 h3 => by simpa [recorded] using returned h1 h2 h3, ?_, (settleCash_own s _).from (by simp), by constructor <;> simp⟩
  rw [settleCash_reserved, recorded, reserved]
  exact (selRefresh_reserved _).trans (storeSelection_reserved _ _ _)

theorem heldPrice_some {s : State} {v : VendCtx} (ctx : s.vnd.ctx = some v) :
    heldPrice s = if v.payment = .cash ∧ v.outcome = none then v.price else 0 := by
  unfold heldPrice
  rw [ctx]

/-- R19: what is left to hold after an outcome is the credit and what a payout owes. -/
theorem OutcomeStored.held {o : VendOutcome} {jam : Bool} {v : VendCtx} {s t : State} (h : OutcomeStored o jam v s t) :
    moneyHeld t = t.csh.credit + moneyOwed s := by
  have after : heldPrice t = 0 := by
    rw [heldPrice_some (v := { v with outcome := some o, stage := .settling }) (by rw [h.vnd])]
    exact if_neg fun held => by cases held.2
  have owed : moneyOwed t = moneyOwed s := moneyOwed_congr (by rw [h.only.chg.resolve_right (by decide)])
  rw [moneyHeld, after, owed, Nat.add_zero]

/-- R19, R54: without a delivery the held price is back in the credit, and no money is lost. -/
theorem OutcomeStored.money {o : VendOutcome} {jam : Bool} {v : VendCtx} {s t : State} (h : OutcomeStored o jam v s t)
    (ctx : s.vnd.ctx = some v) (open_ : v.outcome = none) (lost : v.delivered o = false) (range : moneyHeld s ≤ 65535) :
    moneyHeld t = moneyHeld s := by
  have before := heldPrice_some ctx
  rw [h.held]
  unfold moneyHeld at range ⊢
  by_cases cash : v.payment = .cash
  · rw [if_pos ⟨cash, open_⟩] at before
    rw [h.returned lost cash (by omega)]
    omega
  · rw [if_neg fun held => cash held.1] at before
    rw [h.credit (.inr cash), before, Nat.add_zero]

/-- R19: with a delivery the held price is spent. -/
theorem OutcomeStored.spent {o : VendOutcome} {jam : Bool} {v : VendCtx} {s t : State} (h : OutcomeStored o jam v s t)
    (ctx : s.vnd.ctx = some v) (open_ : v.outcome = none) (delivered : v.delivered o = true) :
    moneyHeld t + (if v.payment = .cash then v.price else 0) = moneyHeld s := by
  have before := heldPrice_some ctx
  simp only [open_, and_true] at before
  rw [h.held, h.credit (.inl delivered), moneyHeld, before]
  omega

/-! ## The end of a vend (R20, R21) -/

theorem enableAtMost_of_own {s t : State} (routes : t.dlk.routes = s.dlk.routes) (own : t.dlk.own = s.dlk.own) :
    EnableAtMost s t := by
  refine ⟨routes, .inl ⟨by rw [own], fun waits => ?_⟩⟩
  unfold enableWaits entryOf at waits ⊢
  rw [routes, own]
  exact waits


theorem sweepLook_claims (n : Nat) {c : Claim} {s : State} (mem : c ∈ (sweepLook n s).lds.claims) :
    c ∈ s.lds.claims ∨ c.kind = .coilCheck := by
  induction n generalizing s with
  | zero => exact .inl mem
  | succ n ih =>
    unfold sweepLook at mem
    split at mem
    · exact .inl mem
    · split at mem
      · exact .inl mem
      · split at mem
        · split at mem
          · exact .inl (by simpa [sweepFinish] using mem)
          · have below := ih mem
            exact below
        · obtain kept | new := List.mem_append.mp mem
          · exact .inl (List.mem_filter.mp kept).1
          · exact .inr (by rw [List.mem_singleton.mp new])

theorem resumeSweep_claims {c : Claim} {s : State} (mem : c ∈ (resumeSweep s).lds.claims) :
    c ∈ s.lds.claims ∨ c.kind = .coilCheck := by
  unfold resumeSweep at mem
  split at mem
  · split at mem
    · have below := sweepLook_claims 80 mem
      exact below
    · exact .inl mem
  · exact .inl mem

theorem GrantsOnly.heldPrice {s t : State} (h : GrantsOnly s t) : heldPrice t = heldPrice s := by
  obtain same | ⟨v, ctx, turns⟩ := h.vnd
  · exact heldPrice_congr same
  · rw [heldPrice_some ctx, heldPrice_some (v := { v with stage := .turn1 }) (by rw [turns])]

/-- R21: the whole credit moved into a CHANGE payout, its claim not yet evaluated. -/
theorem startCreditPayout_money {s : State} (idle : s.chg.payout = none) :
    moneyHeld (startCreditPayout .change s) = moneyHeld s ∧ SameBooks s (startCreditPayout .change s) := by
  have chg : (startCreditPayout .change s).chg.payout = some (.opened .change .amount s.csh.credit) := by
    simp [startCreditPayout, openPayout_chg]
  have account : SameAccount { s with csh := { s.csh with credit := 0 } } (startCreditPayout .change s) :=
    (settleCash_sameAccount _ _).of_csh (by simp [takeCredit_csh_eq])
  have vnd : (startCreditPayout .change s).vnd = s.vnd := by simp [startCreditPayout]
  have owed : moneyOwed (startCreditPayout .change s) = s.csh.credit := by
    unfold moneyOwed
    rw [chg]
    rfl
  refine ⟨?_, SameBooks.trans rfl account.books⟩
  rw [moneyHeld, heldPrice_congr vnd, owed, moneyHeld, show moneyOwed s = 0 by unfold moneyOwed; rw [idle]]
  have spent : (startCreditPayout .change s).csh.credit = 0 := by rw [account]
  omega

theorem startCreditPayout_claims {c : Claim} {src : PayoutSource} {s : State} (mem : c ∈ (startCreditPayout src s).lds.claims) :
    c ∈ s.lds.claims ∨ c.kind = .payout := by
  unfold startCreditPayout openPayout at mem
  dsimp only at mem
  split at mem
  · exact .inl (by simpa using mem)
  · simp only [settleCash_frame] at mem
    obtain kept | new := List.mem_append.mp mem
    · exact .inl (by simpa using (List.mem_filter.mp kept).1)
    · exact .inr (by rw [List.mem_singleton.mp new])

theorem changeStarts_idle {s : State} (starts : changeStarts s = true) : s.chg.payout = none := by
  simp only [changeStarts, Bool.and_eq_true, Option.isNone_iff_eq_none] at starts
  exact starts.2

theorem releaseSlot_own (s : State) : EnableAtMost s (releaseSlot s) := by
  refine enableAtMost_of_own (releaseSlot_held s).routes ?_
  obtain ⟨-, e⟩ | ⟨-, e⟩ := releaseSlot_cases s
  · rw [e]
    obtain ⟨-, f⟩ | ⟨-, k, ks, -, f⟩ | ⟨-, -, f⟩ | ⟨-, -, f⟩ :=
      slotFreed_cases { s with rpq := { s.rpq with reserved := s.rpq.reserved - 1 } } <;> rw [f]
    rfl
  · rw [e]

/-- What the second slot of a CASH vend leaves, whatever it is used for. -/
structure SecondSlotSettled (v : VendCtx) (s t : State) : Prop where
  single : v.slots = 1 → t = s
  own : EnableAtMost s t
  books : SameBooks s t
  money : moneyHeld s ≤ 65535 → moneyHeld t = moneyHeld s
  held : heldPrice s = 0 → heldPrice t = 0
  vend : (∀ c ∈ s.lds.claims, c.kind ≠ .vend) →
    (∀ c ∈ t.lds.claims, c.kind ≠ .vend) ∧ t.lds.vendUnits = s.lds.vendUnits ∧ t.spd.turn = s.spd.turn
  only : ChangesOnly Block.grants s t

theorem settleSecondSlot_settled (v : VendCtx) (s : State) : SecondSlotSettled v s (settleSecondSlot v s) := by
  unfold settleSecondSlot
  split
  · next two =>
    have double (h : v.slots = 1) {p : Prop} : p := absurd (two.symm.trans h) (by decide)
    split
    · next starts =>
      have idle := changeStarts_idle starts
      obtain ⟨money, books⟩ := startCreditPayout_money idle
      have granted := evaluateClaims_grants (startCreditPayout .change s)
      refine ⟨fun h => double h, .trans ?_ (evaluateClaims_own _), books.trans granted.books, fun range => ?_,
        fun none => ?_, fun none => ?_, .trans ?_ granted.only⟩
      · exact (settleCash_own s _).from (by simp)
      · rw [granted.money (by rw [money]; exact range), money]
      · exact granted.heldPrice.trans ((heldPrice_congr (by simp [startCreditPayout])).trans none)
      · have left : ∀ c ∈ (startCreditPayout .change s).lds.claims, c.kind ≠ .vend := fun c mem =>
          (startCreditPayout_claims mem).elim (none c) fun kind => by rw [kind]; decide
        obtain ⟨-, turn, units⟩ := evaluateClaims_vnd left
        refine ⟨fun c mem => left c (evaluateClaims_claims mem), units.trans ?_, turn.trans (by simp [startCreditPayout])⟩
        unfold startCreditPayout openPayout
        dsimp only
        split <;> simp
      · constructor <;> simp [Block.grants]
    · have csh : (releaseSlot s).csh = s.csh := by simp
      have same : (releaseSlot s).vnd = s.vnd ∧ (releaseSlot s).chg = s.chg := by simp
      refine ⟨fun h => double h, releaseSlot_own s, sameBooks_of_csh csh, fun _ => moneyHeld_congr (by rw [csh]) same.1 (by rw [same.2]),
        fun none => (heldPrice_congr same.1).trans none, fun none => ?_,
        by constructor <;> simp [Block.grants]⟩
      simpa using none
  · next single =>
    exact ⟨fun _ => rfl, .refl s, .refl s, fun _ => rfl, id, fun none => ⟨none, rfl, rfl⟩, .refl _ s⟩

/-- What the end of a vend's context leaves, with the sweep that resumes and the evaluation that follows. -/
structure VendFinished (informed : Bool) (v : VendCtx) (s t : State) : Prop where
  ctx : t.vnd.ctx = none
  report : 1 ≤ s.rpq.reserved → .event (vendReport v (v.outcome.getD .cancelled) informed) ∈ t.rpq.queue
  books : SameBooks s t
  money : heldPrice s = 0 → moneyHeld s ≤ 65535 → moneyHeld t = moneyHeld s
  single : v.slots = 1 → s.chg.payout = none → t.chg = s.chg ∧ SameAccount s t
  vend : (∀ c ∈ s.lds.claims, c.kind ≠ .vend) →
    (∀ c ∈ t.lds.claims, c.kind ≠ .vend) ∧ t.lds.vendUnits = s.lds.vendUnits ∧ t.spd.turn = s.spd.turn
  own : EnableAtMost s t
  only : ChangesOnly Block.grants s t

theorem finishVend_finished {v : VendCtx} {s : State} (ctx : s.vnd.ctx = some v) (informed : Bool) :
    VendFinished informed v s (finishVend informed s) := by
  let queued := consumeSlot (vendReport v (v.outcome.getD .cancelled) informed) s
  let second := settleSecondSlot v queued
  let gone : State := { second with vnd := ⟨none⟩ }
  have finished : finishVend informed s = evaluateClaims (resumeSweep gone) := by
    unfold finishVend
    rw [ctx]
  have settled : SecondSlotSettled v queued second := settleSecondSlot_settled v queued
  have granted := evaluateClaims_grants (resumeSweep gone)
  have csh : queued.csh = s.csh := consumeSlot_csh _ _
  rw [finished]
  refine ⟨?_, fun slot => ?_, ?_, fun settled' range => ?_, fun one idle => ?_, fun none => ?_, ?_, ?_⟩
  · obtain same | ⟨v', some', -⟩ := granted.vnd
    · simp [same, gone]
    · simp [gone] at some'
  · have later : Retains second (evaluateClaims (resumeSweep gone)) :=
      ((resumeSweep_retains gone).trans (evaluateClaims_retains _)).from rfl rfl rfl
    exact ((settleSecondSlot_retains v queued).trans later).queued (consumeSlot_queued _ slot)
  · refine .trans (.trans (sameBooks_of_csh csh) settled.books) (.trans ?_ granted.books)
    exact sameBooks_of_csh (by simp [gone])
  · have held : moneyHeld queued = moneyHeld s := moneyHeld_congr (by rw [csh]) (by simp [queued]) (by simp [queued])
    have after : moneyHeld (resumeSweep gone) = moneyHeld second := by
      have price : heldPrice second = 0 := settled.held ((heldPrice_congr (by simp [queued])).trans settled')
      have free : heldPrice (resumeSweep gone) = 0 := by simp [heldPrice, gone]
      have owed : moneyOwed (resumeSweep gone) = moneyOwed second := moneyOwed_congr (by simp [gone])
      rw [moneyHeld, moneyHeld, free, owed, price, show (resumeSweep gone).csh = second.csh by simp [gone]]
    have kept := settled.money (by rw [held]; exact range)
    rw [granted.money (by omega)]
    omega
  · have same : second = queued := settled.single one
    obtain ⟨chg, account⟩ := granted.noPayout (by simpa [gone, same, queued] using idle)
    refine ⟨chg.trans (by simp [gone, same, queued]), ?_⟩
    exact account.of_csh (by simp [gone, same, queued])
  · obtain ⟨claims, units, turn⟩ := settled.vend (by simpa [queued] using none)
    have left : ∀ c ∈ (resumeSweep gone).lds.claims, c.kind ≠ .vend := fun c mem =>
      (resumeSweep_claims mem).elim (claims c) fun kind => by rw [kind]; decide
    obtain ⟨-, turn', units'⟩ := evaluateClaims_vnd left
    refine ⟨fun c mem => left c (evaluateClaims_claims mem), ?_, ?_⟩
    · rw [units', (resumeSweep_lds gone).1]
      simpa [queued] using units
    · rw [turn', show (resumeSweep gone).spd.turn = second.spd.turn by simp [gone]]
      simpa [queued] using turn
  · exact (settled.own.from (by simp [queued])).trans (.trans (enableAtMost_of_dlk (by simp [gone])) (evaluateClaims_own _))
  · refine .trans (.trans ?_ settled.only) (.trans ?_ granted.only)
    · constructor <;> simp [queued, Block.grants]
    · constructor <;> simp [gone, Block.grants]

/-! ## A settlement (R18 to R21, R105, R106) -/

/-- The vend with its grant given back and its outcome stored. -/
def State.vendSettles (o : VendOutcome) (jam : Bool) (v : VendCtx) (s : State) : State := (releaseVend s).outcomeStored o jam v

theorem settle_eq {v : VendCtx} {s : State} (ctx : s.vnd.ctx = some v) (o : VendOutcome) (jam informed : Bool) :
    settle o jam informed s =
      if v.payment = .card ∧ o ≠ .denied then requestResult (v.delivered o) v (s.vendSettles o jam v)
      else finishVend informed (s.vendSettles o jam v) := by
  unfold settle
  rw [ctx]
  rfl

/-- The vend that an outcome leaves to be reported. -/
def VendCtx.settled (o : VendOutcome) (v : VendCtx) : VendCtx := { v with outcome := some o, stage := .settling }

/-- What the outcome of a vend leaves, its grant given back. -/
structure VendSettles (o : VendOutcome) (jam : Bool) (v : VendCtx) (s t : State) : Prop where
  vnd : t.vnd = ⟨some (v.settled o)⟩
  table : t.sel.table = tset s.sel.table v.selection (outcomeEntry o jam v (selOf s v.selection))
  audit : t.csh.audit = if v.delivered o then auditDelivery v s.csh.audit else s.csh.audit
  lost : v.outcome = none → v.delivered o = false → moneyHeld s ≤ 65535 → moneyHeld t = moneyHeld s
  spent : v.outcome = none → v.delivered o = true → moneyHeld s ≤ 65535 →
    moneyHeld t + (if v.payment = .cash then v.price else 0) = moneyHeld s
  idle : s.chg.payout = none → t.chg = s.chg ∧ (v.delivered o = true ∨ v.payment ≠ .cash → t.csh.credit = s.csh.credit)
  claims : ∀ c ∈ t.lds.claims, c.kind ≠ .vend
  units : t.lds.vendUnits = 0
  turn : t.spd.turn = s.spd.turn
  slots : SlotsKept s t
  crd : t.crd = s.crd
  own : EnableAtMost s t
  only : ChangesOnly Block.settlement s t

theorem vendSettles_settles {v : VendCtx} {s : State} (ctx : s.vnd.ctx = some v) (o : VendOutcome) (jam : Bool) :
    VendSettles o jam v s (s.vendSettles o jam v) := by
  have released := releaseVend_released s
  have stored := outcomeStored_stored o jam v (releaseVend s)
  obtain ⟨u, hu⟩ : ∃ u, u = releaseVend s := ⟨_, rfl⟩
  obtain ⟨t, ht⟩ : ∃ t, t = u.outcomeStored o jam v := ⟨_, rfl⟩
  unfold State.vendSettles
  rw [← hu] at released stored ⊢
  rw [← ht] at stored ⊢
  have ctx' : u.vnd.ctx = some v := by rw [released.vnd, ctx]
  have sel : u.sel = s.sel := released.grants.only.sel.resolve_right (by decide)
  have entry : selOf u v.selection = selOf s v.selection := by rw [selOf, sel, selOf]
  have audit : u.csh.audit = s.csh.audit := by rw [released.grants.books]
  have chg : t.chg = u.chg := stored.only.chg.resolve_right (by decide)
  have lds : t.lds = u.lds := stored.only.lds.resolve_right (by decide)
  refine ⟨stored.vnd, by rw [stored.table, entry, sel], by rw [stored.audit, audit], fun open_ lost range => ?_,
    fun open_ done range => ?_, fun idle => ?_, by rw [lds]; exact released.claims, by rw [lds, released.units], ?_, ?_, ?_,
    released.own.trans stored.own, .trans (released.grants.only.mono (by decide)) (stored.only.mono (by decide))⟩
  · have kept := released.grants.money range
    rw [stored.money ctx' open_ lost (by omega), kept]
  · rw [stored.spent ctx' open_ done, released.grants.money range]
  · obtain ⟨same, account⟩ := released.grants.noPayout idle
    refine ⟨chg.trans same, fun kept => ?_⟩
    rw [stored.credit kept, account]
  · rw [stored.only.spd.resolve_right (by decide), released.turn]
  · exact released.slots.trans (.inl ⟨by rw [chg], stored.reserved⟩)
  · rw [stored.only.crd.resolve_right (by decide), released.grants.only.crd.resolve_right (by decide)]

/-- What a vend that has ended leaves. -/
structure VendEnded (o : VendOutcome) (jam informed : Bool) (v : VendCtx) (s t : State) : Prop where
  ctx : t.vnd.ctx = none
  report : (if s.chg.payout.isSome then 2 else 1) ≤ s.rpq.reserved → .event (vendReport v o informed) ∈ t.rpq.queue
  table : t.sel.table = tset s.sel.table v.selection (outcomeEntry o jam v (selOf s v.selection))
  audit : t.csh.audit = if v.delivered o then auditDelivery v s.csh.audit else s.csh.audit
  lost : v.outcome = none → v.delivered o = false → moneyHeld s ≤ 65535 → moneyHeld t = moneyHeld s
  spent : v.outcome = none → v.delivered o = true → moneyHeld s ≤ 65535 →
    moneyHeld t + (if v.payment = .cash then v.price else 0) = moneyHeld s
  single : v.slots = 1 → s.chg.payout = none → t.chg = s.chg ∧
    (v.delivered o = true ∨ v.payment ≠ .cash → t.csh.credit = s.csh.credit)
  claims : ∀ c ∈ t.lds.claims, c.kind ≠ .vend
  units : t.lds.vendUnits = 0
  turn : t.spd.turn = s.spd.turn
  crd : t.crd = s.crd
  routes : t.dlk.routes = s.dlk.routes
  own : t.dlk.own.length ≤ s.dlk.own.length + 1
  only : ChangesOnly Block.settlement s t

theorem VendSettles.ended {o : VendOutcome} {jam : Bool} {v : VendCtx} {s u : State} (h : VendSettles o jam v s u) (informed : Bool) :
    VendEnded o jam informed v s (finishVend informed u) := by
  have finished := finishVend_finished (v := v.settled o) (by rw [h.vnd]) informed
  obtain ⟨t, ht⟩ : ∃ t, t = finishVend informed u := ⟨_, rfl⟩
  rw [← ht] at finished ⊢
  have free : heldPrice u = 0 := by
    rw [heldPrice_some (v := v.settled o) (by rw [h.vnd])]
    exact if_neg fun held => by cases held.2
  obtain ⟨claims, units, turn⟩ := finished.vend h.claims
  have own := h.own.trans finished.own
  refine ⟨finished.ctx, fun room => finished.report (h.slots.slot room), ?_, by rw [finished.books]; exact h.audit,
    fun open_ lost range => ?_, fun open_ done range => ?_, fun one idle => ?_, claims, by rw [units, h.units],
    turn.trans h.turn, ?_, own.routes, own.length_le, h.only.trans (finished.only.mono (by decide))⟩
  · rw [finished.only.sel.resolve_right (by decide), h.table]
  · have kept := h.lost open_ lost range
    rw [finished.money free (by omega), kept]
  · have kept := h.spent open_ done range
    rw [finished.money free (by omega), kept]
  · obtain ⟨chg, credit⟩ := h.idle idle
    obtain ⟨chg', account⟩ := finished.single one (by rw [chg, idle])
    refine ⟨chg'.trans chg, fun kept => ?_⟩
    rw [account]
    exact credit kept
  · rw [finished.only.crd.resolve_right (by decide), h.crd]

/-- R18 to R21: a vend that no reader is told of ends with its outcome. -/
theorem settle_ended {o : VendOutcome} {v : VendCtx} {s : State} (ctx : s.vnd.ctx = some v) (plain : v.payment ≠ .card ∨ o = .denied)
    (jam informed : Bool) : VendEnded o jam informed v s (settle o jam informed s) := by
  rw [settle_eq ctx, if_neg fun card => plain.elim (absurd card.1) card.2]
  exact (vendSettles_settles ctx o jam).ended informed

/-- R105: a CARD vend that finds no session ends with the reader not informed. -/
theorem settle_unheard {o : VendOutcome} {v : VendCtx} {s : State} (ctx : s.vnd.ctx = some v) (gone : s.crd.state = .none)
    (card : v.payment = .card) (reported : o ≠ .denied) (jam informed : Bool) :
    VendEnded o jam false v s (settle o jam informed s) := by
  have settles := vendSettles_settles ctx o jam
  rw [settle_eq ctx, if_pos ⟨card, reported⟩, requestResult, settles.crd, gone]
  exact settles.ended false

/-- What a VEND RESULT that is owed and handed over leaves (R103 to R106). -/
structure ResultHanded (r : ResultOwed) (node : Nat) (s t : State) : Prop where
  crd : t.crd = { s.crd with state := .vending, deadline := none, owed := some r }
  dlk : t.dlk = { s.dlk with own := s.dlk.own ++ [⟨node, .vendResult r.success r.price r.selection⟩] }
  reported : s.crd.state ≠ .vending → Reported .cardSession t
  only : ChangesOnly [.crd, .dlk, .rpq] s t

theorem oweResult_handed (r : ResultOwed) {n : Nat} {rt : Route} {s : State} (entry : entryOf .card s = some (n, rt))
    (present : rt.presence = .present) (room : s.dlk.own.length < 4) : ResultHanded r rt.base s (oweResult r s) := by
  let asked := setSession { s.crd with state := .vending, deadline := none, owed := some r } s
  have dlk : asked.dlk = s.dlk := by simp [asked]
  have crd : asked.crd = { s.crd with state := .vending, deadline := none, owed := some r } := by simp [asked, setSession]
  have handed : oweResult r s = { asked with dlk := { asked.dlk with
      own := asked.dlk.own ++ [⟨rt.base, .vendResult r.success r.price r.selection⟩] } } := by
    unfold oweResult
    dsimp only
    have same : entryOf .card asked = some (n, rt) := by
      unfold entryOf at entry ⊢
      rwa [dlk]
    rw [handFrame_handed same present (by simp [OwnKind.kind, kVendResult, kEnable]) (by rwa [dlk])]
  rw [handed]
  refine ⟨crd, by rw [dlk], fun other => ?_, by constructor <;> simp [asked]⟩
  have changed : asked.rpq = (report .cardSession { s with
      crd := { s.crd with state := .vending, deadline := none, owed := some r } }).rpq := by
    simp [asked, setSession, reportIf, other]
  exact (report_reported _ _).of_rpq changed

/-- R105, R106: a CARD vend with a session stands in SETTLING, its VEND RESULT owed and handed to a reader that is PRESENT. -/
theorem settle_owed {o : VendOutcome} {v : VendCtx} {s : State} (ctx : s.vnd.ctx = some v) (card : v.payment = .card)
    (reported : o ≠ .denied) (session : s.crd.state = .approvalWait ∨ s.crd.state = .vending) {n : Nat} {rt : Route}
    (entry : entryOf .card s = some (n, rt)) (present : rt.presence = .present) (room : s.dlk.own.length < 3) (jam informed : Bool) :
    ∃ u, VendSettles o jam v s u ∧
      ResultHanded { success := v.delivered o, price := v.price, selection := v.selection, vendLink := true } rt.base u
        (settle o jam informed s) := by
  have settles := vendSettles_settles ctx o jam
  refine ⟨_, settles, ?_⟩
  have asked : requestResult (v.delivered o) v (s.vendSettles o jam v) =
      oweResult { success := v.delivered o, price := v.price, selection := v.selection, vendLink := true } (s.vendSettles o jam v) := by
    unfold requestResult
    rw [settles.crd]
    obtain waits | vending := session
    · rw [waits]
    · rw [vending]
  rw [settle_eq ctx, if_pos ⟨card, reported⟩, asked]
  have length := settles.own.length_le
  exact oweResult_handed _ ((settles.own.entryOf .card).trans entry) present (by omega)

/-! ## What the report of a settled vend leaves (R20, R21, R104 to R110) -/

/-- The selections, the books and the load of a vend that is settled stay, whatever becomes of its context and its session. -/
structure Aftermath (s t : State) : Prop where
  sel : t.sel = s.sel
  books : SameBooks s t
  ctx : t.vnd = s.vnd ∨ t.vnd.ctx = none
  vend : (∀ c ∈ s.lds.claims, c.kind ≠ .vend) →
    (∀ c ∈ t.lds.claims, c.kind ≠ .vend) ∧ t.lds.vendUnits = s.lds.vendUnits ∧ t.spd.turn = s.spd.turn
  single : (∀ v, s.vnd.ctx = some v → v.slots = 1) → s.chg.payout = none → t.chg = s.chg ∧ t.csh.credit = s.csh.credit
  money : heldPrice s = 0 → moneyHeld s ≤ 65535 → moneyHeld t = moneyHeld s

theorem aftermath_same {s t : State} (sel : t.sel = s.sel) (vnd : t.vnd = s.vnd) (spd : t.spd = s.spd) (csh : t.csh = s.csh)
    (chg : t.chg = s.chg) (lds : t.lds = s.lds) : Aftermath s t :=
  ⟨sel, sameBooks_of_csh csh, .inl vnd, fun none => ⟨by rwa [lds], by rw [lds], by rw [spd]⟩, fun _ _ => ⟨chg, by rw [csh]⟩,
    fun _ _ => moneyHeld_congr (by rw [csh]) vnd (by rw [chg])⟩

theorem Aftermath.trans {s t u : State} (h : Aftermath s t) (k : Aftermath t u) : Aftermath s u := by
  refine ⟨k.sel.trans h.sel, h.books.trans k.books, ?_, fun none => ?_, fun one idle => ?_, fun settled range => ?_⟩
  · obtain same | gone := k.ctx
    · rw [same]
      exact h.ctx
    · exact .inr gone
  · obtain ⟨claims, units, turn⟩ := h.vend none
    obtain ⟨claims', units', turn'⟩ := k.vend claims
    exact ⟨claims', units'.trans units, turn'.trans turn⟩
  · obtain ⟨chg, credit⟩ := h.single one idle
    have one' : ∀ v, t.vnd.ctx = some v → v.slots = 1 := by
      obtain same | gone := h.ctx
      · rwa [same]
      · intro v ctx
        rw [gone] at ctx
        cases ctx
    obtain ⟨chg', credit'⟩ := k.single one' (by rw [chg, idle])
    exact ⟨chg'.trans chg, credit'.trans credit⟩
  · have settled' : heldPrice t = 0 := by
      obtain same | gone := h.ctx
      · exact (heldPrice_congr same).trans settled
      · simp [heldPrice, gone]
    have kept := h.money settled range
    exact (k.money settled' (by rw [kept]; exact range)).trans kept

theorem finishVend_aftermath (informed : Bool) (s : State) : Aftermath s (finishVend informed s) := by
  cases ctx : s.vnd.ctx with
  | none =>
    rw [show finishVend informed s = s by unfold finishVend; rw [ctx]]
    exact aftermath_same rfl rfl rfl rfl rfl rfl
  | some v =>
    have finished := finishVend_finished ctx informed
    refine ⟨by simp, finished.books, .inr finished.ctx, finished.vend, fun one idle => ?_, finished.money⟩
    obtain ⟨chg, account⟩ := finished.single (one v ctx) idle
    exact ⟨chg, by rw [account]⟩

theorem sessionNone_aftermath (s : State) : Aftermath s (sessionNone s) := by
  apply aftermath_same <;> simp

theorem sessionOpens_aftermath (s : State) : Aftermath s (sessionOpens s) := by
  apply aftermath_same <;> simp

theorem resultEnds_aftermath (acked : Bool) (s : State) : Aftermath s (resultEnds acked s) := by
  unfold resultEnds
  split
  · next r owed =>
    have told : Aftermath s (if r.vendLink then finishVend acked s else s) := by
      split
      · exact finishVend_aftermath _ _
      · exact aftermath_same rfl rfl rfl rfl rfl rfl
    dsimp only
    generalize (if r.vendLink = true then finishVend acked s else s) = u at told ⊢
    have cleared : Aftermath u { u with crd := { u.crd with owed := none } } := aftermath_same rfl rfl rfl rfl rfl rfl
    refine (told.trans cleared).trans ?_
    split
    · exact sessionNone_aftermath _
    · exact sessionOpens_aftermath _
  · exact aftermath_same rfl rfl rfl rfl rfl rfl

theorem oweResult_aftermath (r : ResultOwed) (s : State) : Aftermath s (oweResult r s) := by
  have handed (k : OwnKind) (u : State) : Aftermath u (handFrame .card k u).1 := by apply aftermath_same <;> simp
  have asked (c : Crd) : Aftermath s (setSession c s) := by apply aftermath_same <;> simp
  unfold oweResult
  dsimp only
  split
  · next u _ =>
    rename_i sent
    rw [show u = _ from (congrArg Prod.fst sent).symm]
    exact ((asked _).trans (handed _ _)).trans (resultEnds_aftermath _ _)
  · next u _ =>
    rename_i sent
    rw [show u = _ from (congrArg Prod.fst sent).symm]
    exact (asked _).trans (handed _ _)

theorem requestResult_aftermath (success : Bool) (v : VendCtx) (s : State) : Aftermath s (requestResult success v s) := by
  unfold requestResult
  split
  · exact oweResult_aftermath _ _
  · exact oweResult_aftermath _ _
  · exact finishVend_aftermath _ _
  · exact finishVend_aftermath _ _

/-- R18, R19: what a settlement leaves, whoever is told of it. -/
theorem settle_aftermath {o : VendOutcome} {v : VendCtx} {s : State} (ctx : s.vnd.ctx = some v) (jam informed : Bool) :
    ∃ u, VendSettles o jam v s u ∧ Aftermath u (settle o jam informed s) := by
  refine ⟨_, vendSettles_settles ctx o jam, ?_⟩
  rw [settle_eq ctx]
  split
  · exact requestResult_aftermath _ _ _
  · exact finishVend_aftermath _ _

theorem vendCancelCommand_waits {v : VendCtx} {s : State} (ctx : s.vnd.ctx = some v) :
    vendCancelCommand s = if v.stage = .approvalWait ∨ v.stage = .loadWait then (okAnswer [], settle .cancelled false false s)
      else (refuse .tooLate, s) := by
  unfold vendCancelCommand
  rw [ctx]

theorem settle_only (o : VendOutcome) (jam informed : Bool) (s : State) : ChangesOnly Block.settlement s (settle o jam informed s) := by
  constructor <;> simp [Block.settlement]

/-- R18: an outcome that neither delivers nor finds a fault leaves the table. -/
theorem table_kept {o : VendOutcome} {v : VendCtx} (lost : v.delivered o = false) (noDrop : o ≠ .noDrop) (jammed : o ≠ .jammed)
    (jam : Bool) (s : State) :
    tset s.sel.table v.selection (outcomeEntry o jam v (selOf s v.selection)) = s.sel.table := by
  rw [outcomeEntry_kept lost noDrop jammed]
  exact tset_tget _ _ _

end Sys2Proof.Machine
end

section
/-! PROOF. VEND CANCEL (R17 to R19, R105, R106). -/

namespace Sys2Proof.Machine

/-- Settles O24: a CASH or FREE vend ends; a CARD vend's result is owed to the reader, or it ends with nobody to tell. -/
theorem vendCancelEndsAWaitingVend : Obligations.VendCancelEndsAWaitingVend := by
  intro src s h
  obtain ⟨t, named⟩ : ∃ t, t = deliver src kCommand (noParams vendCancelCommand []) s := ⟨_, rfl⟩
  refine ⟨t, congrArg Host.Outcome.next named.symm, ?_⟩
  cases ctx : s.vnd.ctx with
  | none =>
    have none' : vendCancelCommand s.taken = (refuse .noVend, s.taken) := by
      unfold vendCancelCommand
      rw [show s.taken.vnd.ctx = none from ctx]
    rw [named]
    exact deliver_refused src kCommand _ h none'
  | some v =>
    have ctx' : s.taken.vnd.ctx = some v := ctx
    have runs := vendCancelCommand_waits ctx'
    dsimp only
    by_cases waits : v.stage = .approvalWait ∨ v.stage = .loadWait
    case neg =>
      rw [if_neg waits] at runs
      rw [if_pos (not_or.mp waits), named]
      exact deliver_refused src kCommand _ h runs
    rw [if_pos waits] at runs
    rw [if_neg fun no => waits.elim no.1 no.2]
    have acted := deliver_acted src kCommand _ h ((noParams_nil _ _).trans runs) (by simp)
    rw [← named] at acted
    have only := acted.only (settle_only _ _ _ _)
    obtain ⟨answered, beside⟩ := acted
    refine ⟨answered, fun open_ plain room => ?_, fun open_ card => ?_, only⟩
    · have ended := settle_ended (o := .cancelled) ctx' (.inl plain) false false
      obtain ⟨u, hu⟩ : ∃ u, u = settle .cancelled false false s.taken := ⟨_, rfl⟩
      rw [← hu] at ended beside
      have report := ended.report room
      rw [vendReport, if_neg plain, if_neg (by decide)] at report
      rw [beside]
      exact ⟨ended.ctx, ended.units, ended.claims, ended.table.trans (table_kept rfl (by decide) (by decide) _ _), report,
        ended.lost open_ rfl⟩
    · obtain ⟨w, settles, after⟩ := settle_aftermath (o := .cancelled) ctx' false false
      have owed (session) (n) (r) (entry) (present) (room) := settle_owed (o := .cancelled) (s := s.taken) ctx' card (by decide)
        session (n := n) (rt := r) entry present room false false
      have unheard (gone) := settle_unheard (o := .cancelled) (s := s.taken) ctx' gone card (by decide) false false
      obtain ⟨u, hu⟩ : ∃ u, u = settle .cancelled false false s.taken := ⟨_, rfl⟩
      rw [← hu] at after owed unheard beside
      obtain ⟨claims, units, -⟩ := after.vend settles.claims
      have table : u.sel.table = s.sel.table :=
        (congrArg Sel.table after.sel).trans (settles.table.trans (table_kept rfl (by decide) (by decide) _ _))
      have audit : u.csh.audit = s.csh.audit := (congrArg Csh.audit after.books).trans settles.audit
      rw [beside]
      refine ⟨fun session n r entry present room' => ?_, fun gone one idle slot => ?_, units.trans settles.units, claims, table, audit,
        fun idle one => ?_⟩
      · obtain ⟨w', settles', handed⟩ := owed session n r entry present room'
        refine ⟨?_, ?_, fun waits => ?_, ?_⟩
        · rw [handed.only.vnd.resolve_right (by decide), settles'.vnd]
          rfl
        · rw [handed.crd, settles'.crd]
          rfl
        · exact (handed.reported (by rw [settles'.crd]; exact fun is => nomatch is.symm.trans waits)).of_rpq rfl
        · rw [handed.dlk]
          exact List.mem_append_right _ (List.mem_singleton.mpr rfl)
      · have ended := unheard gone
        have report := ended.report (by rw [show s.taken.chg = s.chg from rfl, idle]; exact slot)
        rw [vendReport, if_pos card, if_neg (by decide), card] at report
        exact ⟨ended.ctx, ended.crd, report⟩
      · obtain ⟨chg, credit⟩ := settles.idle idle
        obtain ⟨-, credit'⟩ := after.single (by
          intro v' ctx''
          rw [settles.vnd] at ctx''
          rw [← Option.some.inj ctx'']
          exact one) (by rw [chg]; exact idle)
        exact credit'.trans (credit (.inr (by rw [card]; decide)))

end Sys2Proof.Machine
end

section
/-! SUPPORT. The card session after a result (R107 to R110), the turn report (R15, R16), and what a settlement leaves of the Spiral
Drive. -/

namespace Sys2Proof.Machine

/-! ## The session after a vend (R107, R110) -/

/-- The session record of a reader with no session; the last request is kept. -/
def Crd.closed (c : Crd) : Crd := { c with state := .none, funds := none, deadline := none, owed := none, closePending := false }

theorem setSession_crd (c : Crd) (s : State) : (setSession c s).crd = c := by simp [setSession]

theorem sessionNone_crd (s : State) : (sessionNone s).crd = s.crd.closed := setSession_crd _ s

theorem setSession_only (c : Crd) (s : State) : ChangesOnly [.crd, .rpq] s (setSession c s) := by
  constructor <;> simp

theorem setSession_reported {c : Crd} {s : State} (moved : s.crd.state ≠ c.state ∨ s.crd.funds ≠ c.funds) :
    Reported .cardSession (setSession c s) := by
  have changed : (s.crd.state != c.state || s.crd.funds != c.funds) = true := by
    simpa [bne_iff_ne] using moved
  rw [setSession, reportIf, changed]
  exact report_reported _ _

/-- What follows where the session would be OPEN again. -/
structure SessionReopens (s t : State) : Prop where
  online : s.mgt.mode = .online → t.crd = { s.crd with state := .opened, deadline := none, owed := none }
  offline : s.mgt.mode ≠ .online → t.crd = s.crd.closed
  told : s.mgt.mode ≠ .online → ∀ n r, entryOf .card s = some (n, r) → r.presence = .present → s.dlk.own.length < 4 →
    ⟨r.base, .sessionEnd⟩ ∈ t.dlk.own
  retains : Retains s t
  only : ChangesOnly [.crd, .dlk, .rpq] s t

theorem sessionEnds_told {n : Nat} {r : Route} {s : State} (entry : entryOf .card s = some (n, r)) (present : r.presence = .present)
    (room : s.dlk.own.length < 4) : ⟨r.base, .sessionEnd⟩ ∈ (sessionEnds s).dlk.own := by
  unfold sessionEnds
  rw [handFrame_handed entry present (by decide) room]
  simp

theorem sessionOpens_reopens (s : State) : SessionReopens s (sessionOpens s) := by
  have only : ChangesOnly [.crd, .dlk, .rpq] s (sessionOpens s) := by constructor <;> simp
  refine ⟨fun online => ?_, fun offline => ?_, fun offline n r entry present room => ?_, sessionOpens_retains s, only⟩
  · rw [sessionOpens, if_pos online, setSession_crd]
  · rw [sessionOpens, if_neg offline, sessionEnds, sessionNone_crd]
    simp
  · rw [sessionOpens, if_neg offline]
    exact sessionEnds_told entry present room

/-! ## The turn report (R15, R16) -/

/-- R15: a turn report decides an outcome. -/
theorem turnOutcome_some {s : State} {v : VendCtx} {r : TurnResult} {drop : Bool} {o : VendOutcome}
    (h : turnOutcome s v r drop = some o) :
    (drop = true ∧ o = .success) ∨ (drop = false ∧ (o = .jammed ∨ o = .motorOpen ∨ o = .noDrop)) := by
  unfold turnOutcome at h
  split at h
  · next drop' => exact .inl ⟨drop', (Option.some.inj h).symm⟩
  · next none =>
    refine .inr ⟨by simpa using none, ?_⟩
    split at h
    · exact .inl (Option.some.inj h).symm
    · exact .inr (.inl (Option.some.inj h).symm)
    · split at h
      · exact .inr (.inr (Option.some.inj h).symm)
      · split at h
        · exact .inr (.inr (Option.some.inj h).symm)
        · split at h
          · exact .inr (.inr (Option.some.inj h).symm)
          · cases h

theorem turnReport_settles {s : State} {v : VendCtx} {r : TurnResult} {drop : Bool} {o : VendOutcome} (ctx : s.vnd.ctx = some v)
    (h : turnOutcome s v r drop = some o) : turnReport r drop s =
      settle o (decide (r = .jam)) false { s with vnd := ⟨some { v with dropSeen := v.dropSeen || drop }⟩ } := by
  unfold turnReport
  rw [ctx]
  dsimp only
  rw [h]

theorem turnReport_turns {s : State} {v : VendCtx} {r : TurnResult} {drop : Bool} (ctx : s.vnd.ctx = some v)
    (h : turnOutcome s v r drop = none) : turnReport r drop s =
      startTurn v { s with vnd := ⟨some { v with dropSeen := v.dropSeen || drop, stage := .turn2 }⟩ } := by
  unfold turnReport
  rw [ctx]
  dsimp only
  rw [h]

/-- R18: an outcome that is no delivery marks an entry alike for every context and report. -/
theorem outcomeEntry_lost {o : VendOutcome} {v w : VendCtx} (lost : v.delivered o = false) (lost' : w.delivered o = false)
    (jam jam' : Bool) (e : Selection) : outcomeEntry o jam v e = outcomeEntry o jam' w e := by
  unfold outcomeEntry
  rw [if_neg (Bool.eq_false_iff.mp lost), if_neg (Bool.eq_false_iff.mp lost')]

/-- R18: the entry of a vend that is settled. -/
theorem selOf_settled {o : VendOutcome} {jam : Bool} {v : VendCtx} {s t : State}
    (table : t.sel.table = tset s.sel.table v.selection (outcomeEntry o jam v (selOf s v.selection))) (range : v.selection < 80) :
    selOf t v.selection = outcomeEntry o jam v (selOf s v.selection) := by
  rw [selOf, table]
  exact tget_tset_same _ _ _ range

/-! ## The late drop beside a settlement (R38) -/

theorem evaluateClaims_lateDrop (s : State) : (evaluateClaims s).spd.lateDrop = s.spd.lateDrop := by
  rw [(evaluateClaims_grants s).spd]

theorem settleSecondSlot_lateDrop (v : VendCtx) (s : State) : (settleSecondSlot v s).spd.lateDrop = s.spd.lateDrop := by
  unfold settleSecondSlot
  split
  · split
    · rw [evaluateClaims_lateDrop]
      simp [startCreditPayout]
    · simp
  · rfl

theorem finishVend_lateDrop (informed : Bool) (s : State) : (finishVend informed s).spd.lateDrop = s.spd.lateDrop := by
  unfold finishVend
  split
  · simp [evaluateClaims_lateDrop, settleSecondSlot_lateDrop]
  · rfl

theorem resultEnds_lateDrop (acked : Bool) (s : State) : (resultEnds acked s).spd.lateDrop = s.spd.lateDrop := by
  unfold resultEnds
  split
  · next r _ =>
    have told : (if r.vendLink = true then finishVend acked s else s).spd.lateDrop = s.spd.lateDrop := by
      split
      · exact finishVend_lateDrop _ _
      · rfl
    dsimp only
    generalize (if r.vendLink = true then finishVend acked s else s) = u at told ⊢
    split
    · simpa using told
    · simpa using told
  · rfl

theorem oweResult_lateDrop (r : ResultOwed) (s : State) : (oweResult r s).spd.lateDrop = s.spd.lateDrop := by
  unfold oweResult
  dsimp only
  split
  · next u sent =>
    rw [show u = _ from (congrArg Prod.fst sent).symm, resultEnds_lateDrop]
    simp
  · next u sent =>
    rw [show u = _ from (congrArg Prod.fst sent).symm]
    simp

theorem settle_lateDrop (o : VendOutcome) (jam informed : Bool) (s : State) :
    (settle o jam informed s).spd.lateDrop = s.spd.lateDrop := by
  cases ctx : s.vnd.ctx with
  | none => rw [settle, ctx]
  | some v =>
    have settles : (s.vendSettles o jam v).spd.lateDrop = s.spd.lateDrop := by
      unfold State.vendSettles State.outcomeStored releaseVend
      simp [evaluateClaims_lateDrop, withdrawClaim]
    rw [settle_eq ctx]
    split
    · unfold requestResult
      split
      · rw [oweResult_lateDrop, settles]
      · rw [oweResult_lateDrop, settles]
      · rw [finishVend_lateDrop, settles]
      · rw [finishVend_lateDrop, settles]
    · rw [finishVend_lateDrop, settles]

/-- The state in which the report of a turn is taken: the window closed at its due time. -/
def State.windowReported (w : Turn) (at1 : Time) (s : State) : State := (s.upTo (at1 + ms 1500)).windowClosed w

theorem execDropWindowClose_eq {w : Turn} {r : TurnResult} {at1 : Time} {s : State} (turn : s.spd.turn = some w)
    (done : w.completed = some (r, at1)) : exec .dropWindowClose s = .next (turnReport r w.dropSeen (s.windowReported w at1)) := by
  show execDropWindowClose s = _
  unfold execDropWindowClose
  rw [turn]
  dsimp only
  rw [done]
  rfl

/-- R16: only a turn without a drop leads to a second turn. -/
theorem turnOutcome_none {s : State} {v : VendCtx} {r : TurnResult} {drop : Bool} (h : turnOutcome s v r drop = none) :
    drop = false := by
  unfold turnOutcome at h
  split at h
  · cases h
  · next none => simpa using none

/-- R16, R32: what a second turn leaves. -/
theorem turnReport_secondTurn {s : State} {v : VendCtx} {r : TurnResult} {drop : Bool} (ctx : s.vnd.ctx = some v)
    (h : turnOutcome s v r drop = none) :
    turnReport r drop s = { s with
      vnd := ⟨some { v with stage := .turn2 }⟩
      spd := { s.spd with rowOn := some v.tray, colsOn := v.col :: v.partner.toList, turn := some (turnRecord v s) } } := by
  rw [turnReport_turns ctx h, turnOutcome_none h, startTurn_eq, Bool.or_false]
  rfl

/-- R107: the end of a vend's VEND RESULT exchange ends the vend, then its session goes on. -/
theorem resultEnds_vend {acked : Bool} {q : ResultOwed} {s : State} (owed : s.crd.owed = some q) (link : q.vendLink = true) :
    ∃ u, u = { finishVend acked s with crd := { s.crd with owed := none } } ∧
      resultEnds acked s = if s.crd.closePending then sessionNone u else sessionOpens u := by
  refine ⟨_, rfl, ?_⟩
  have crd : (finishVend acked s).crd = s.crd := by simp
  unfold resultEnds
  rw [owed]
  dsimp only
  rw [if_pos link, crd]

end Sys2Proof.Machine
end

section
/-! PROOF. The close of the drop window and the end of a VEND RESULT (R15, R16, R18, R19, R106, R107). -/

namespace Sys2Proof.Machine

/-- Settles O28: the outcome of the report settles the vend or turns again; the end of the VEND RESULT's exchange ends it. -/
theorem closedWindowsDecideTheVend : Obligations.ClosedWindowsDecideTheVend := by
  refine ⟨fun w r at1 v s turn done ctx range stage open_ => ?_, fun acked node q o v s owed link ctx outcome card one slot => ?_⟩
  · have ctx' : (s.windowReported w at1).vnd.ctx = some v := ctx
    obtain ⟨t, named⟩ : ∃ t, t = turnReport r w.dropSeen (s.windowReported w at1) := ⟨_, rfl⟩
    refine ⟨t, (execDropWindowClose_eq turn done).trans (congrArg Host.Outcome.next named.symm), ?_⟩
    have same : turnOutcome (s.windowReported w at1) v r w.dropSeen = turnOutcome s v r w.dropSeen := rfl
    cases decided : turnOutcome s v r w.dropSeen with
    | none =>
      have drop : w.dropSeen = false := turnOutcome_none decided
      rw [named.trans (turnReport_secondTurn ctx' (same.trans decided))]
      refine ⟨rfl, rfl, fun _ _ seen => ?_, fun _ _ o some_ => ?_, fun n rt o _ _ _ _ _ some_ => ?_,
        fun _ => ⟨rfl, ⟨_, rfl, rfl, rfl, rfl, rfl⟩, rfl, rfl, rfl, rfl, rfl⟩⟩
      · rw [drop] at seen
        cases seen
      · cases some_
      · cases some_
    | some o =>
      let seen : VendCtx := { v with dropSeen := v.dropSeen || w.dropSeen }
      obtain ⟨u, hu⟩ : ∃ u : State, u = { s.windowReported w at1 with vnd := ⟨some seen⟩ } := ⟨_, rfl⟩
      have settles : t = settle o (decide (r = .jam)) false u := by
        rw [hu]
        exact named.trans (turnReport_settles ctx' (same.trans decided))
      have ctxU : u.vnd.ctx = some seen := by rw [hu]
      have stands : u.spd.turn = none ∧ u.chg = s.chg ∧ u.rpq = s.rpq ∧ u.sel = s.sel ∧ u.csh = s.csh ∧ u.crd = s.crd ∧
          u.dlk = s.dlk ∧ moneyHeld u = moneyHeld s ∧ u.now = max s.now (at1 + ms 1500) ∧ u.spd.lateDrop = some (w.selection, u.now) := by
        rw [hu]
        refine ⟨rfl, rfl, rfl, rfl, rfl, rfl, rfl, ?_, rfl, rfl⟩
        rw [moneyHeld, moneyHeld, heldPrice_some ctx, heldPrice_some (v := seen) rfl]
        rfl
      obtain ⟨turn', chg, rpq, sel, csh, crd, dlk, held, now, late⟩ := stands
      have selU : selOf u v.selection = selOf s v.selection := by rw [selOf, sel, selOf]
      rw [settles]
      refine ⟨?_, ?_, fun plain room drop => ?_, fun plain room o' same' drop => ?_,
        fun n rt o' card session entry present room' same' => ?_, fun none => nomatch none⟩
      · simpa using now
      · rw [settle_lateDrop, late]
        simp
      · have ended := settle_ended (o := o) ctxU (.inl plain) (decide (r = .jam)) false
        obtain ⟨-, rfl⟩ | ⟨none, -⟩ := turnOutcome_some decided
        case inr => exact absurd (drop.symm.trans none) (by decide)
        have report := ended.report (by rw [chg, rpq]; exact room)
        have audit := ended.audit
        rw [vendReport, if_neg plain, if_neg (by decide)] at report
        rw [csh] at audit
        refine ⟨ended.turn.trans turn', ended.ctx, ended.units, ?_, fun cash => ?_, fun free => ?_, report⟩
        · rw [selOf_settled ended.table range, selU]
          rfl
        · rw [audit]
          simp [VendCtx.delivered, auditDelivery, seen, cash, satAdd, auditLimit]
        · rw [audit]
          simp [VendCtx.delivered, auditDelivery, seen, free, satAdd, auditLimit]
      · have ended := settle_ended (o := o) ctxU (.inl plain) (decide (r = .jam)) false
        rw [← Option.some.inj same']
        obtain ⟨some_, -⟩ | ⟨-, kinds⟩ := turnOutcome_some decided
        · exact absurd (some_.symm.trans drop) (by decide)
        have lost (x : VendCtx) : x.delivered o = false := by
          obtain rfl | rfl | rfl := kinds <;> rfl
        have settled : o ≠ .interrupted := by
          obtain rfl | rfl | rfl := kinds <;> decide
        have report := ended.report (by rw [chg, rpq]; exact room)
        rw [vendReport, if_neg plain, if_neg settled] at report
        refine ⟨ended.turn.trans turn', ended.ctx, ?_, report, fun fits => ?_⟩
        · rw [selOf_settled ended.table range, selU]
          exact outcomeEntry_lost (lost _) (lost _) _ _ _
        · exact (ended.lost open_ (lost _) (held ▸ fits)).trans held
      · rw [← Option.some.inj same']
        have told : o ≠ .denied ∧ (∀ x : VendCtx, x.delivered o = decide (o = .success)) := by
          obtain ⟨-, rfl⟩ | ⟨-, rfl | rfl | rfl⟩ := turnOutcome_some decided <;> exact ⟨by decide, fun _ => rfl⟩
        obtain ⟨reported, success⟩ := told
        have entryU : entryOf .card u = some (n, rt) := by
          unfold entryOf at entry ⊢
          rwa [dlk]
        obtain ⟨x, stored, handed⟩ := settle_owed (o := o) ctxU card reported (.inr (by rw [crd, session])) entryU present
          (by rw [dlk]; exact room') (decide (r = .jam)) false
        rw [success] at handed
        obtain ⟨y, hy⟩ : ∃ y, y = settle o (decide (r = .jam)) false u := ⟨_, rfl⟩
        rw [← hy] at handed ⊢
        have lds : y.lds = x.lds := handed.only.lds.resolve_right (by decide)
        have csh' : y.csh = x.csh := handed.only.csh.resolve_right (by decide)
        have audit := stored.audit
        refine ⟨?_, by rw [lds, stored.units], ?_, ?_, ?_, ?_, ?_, fun idle => ?_⟩
        · rw [handed.only.spd.resolve_right (by decide), stored.turn, turn']
        · rw [handed.only.vnd.resolve_right (by decide), stored.vnd]
          rfl
        · rw [handed.crd, stored.crd, crd, ← session]
        · rw [handed.dlk]
          exact List.getLast?_concat
        · rw [selOf, handed.only.sel.resolve_right (by decide), ← selOf, selOf_settled stored.table range, selU]
          obtain ⟨-, rfl⟩ | ⟨-, rfl | rfl | rfl⟩ := turnOutcome_some decided <;> rfl
        · rw [csh', audit, success, csh]
          by_cases o = .success <;> simp [*, auditDelivery, satAdd, auditLimit, seen]
        · obtain ⟨-, credit⟩ := stored.idle (by rw [chg, idle])
          rw [csh', credit (.inr (by simp [seen, card])), csh]
  · have finished := finishVend_finished ctx acked
    have sameSel : (finishVend acked s).sel = s.sel := by simp
    have mode : (finishVend acked s).mgt = s.mgt := by simp
    obtain ⟨u, hu, ends⟩ := resultEnds_vend (acked := acked) owed link
    obtain ⟨x, hx⟩ : ∃ x, x = finishVend acked s := ⟨_, rfl⟩
    rw [← hx] at hu finished sameSel mode
    have report := finished.report slot
    rw [vendReport, card, if_pos rfl, outcome] at report
    have queue : u.rpq = x.rpq := by rw [hu]
    rw [← queue] at report
    have after : Aftermath u (resultEnds acked s) ∧ Retains u (resultEnds acked s) := by
      rw [ends]
      split
      · exact ⟨sessionNone_aftermath u, sessionNone_retains u⟩
      · exact ⟨sessionOpens_aftermath u, sessionOpens_retains u⟩
    obtain ⟨stays, retains⟩ := after
    have audit : x.csh.audit = s.csh.audit := by rw [finished.books]
    intro t closed
    have named : t = resultEnds acked s := rfl
    clear_value t
    subst named
    refine ⟨?_, ?_, ?_, retains.queued report, fun close => ?_, fun kept online => ?_, fun kept offline => ?_⟩
    · obtain same | gone := stays.ctx
      · rw [same, hu]
        exact finished.ctx
      · exact gone
    · rw [stays.sel, hu]
      exact congrArg Sel.table sameSel
    · rw [stays.books, hu]
      exact audit
    · rw [ends, if_pos close, sessionNone_crd, hu]
      rfl
    · rw [ends, if_neg (by rw [kept]; decide), (sessionOpens_reopens u).online (by rw [hu]; exact mode ▸ online), hu]
    · have off : u.mgt.mode ≠ .online := by
        rw [hu]
        exact mode ▸ offline
      rw [ends, if_neg (by rw [kept]; decide)]
      refine ⟨?_, fun n rt entry present room => (sessionOpens_reopens u).told off n rt ?_ present ?_⟩
      · rw [(sessionOpens_reopens u).offline off, hu]
        rfl
      · rw [hu]
        exact (finished.own.entryOf .card).trans entry
      · rw [hu]
        have length := finished.own.length_le
        exact Nat.lt_of_le_of_lt length (by omega)

end Sys2Proof.Machine
end

section
/-! SUPPORT. The Card Unit's events (chapter 5): what a denial leaves of the vend, the session and the reader. -/

namespace Sys2Proof.Machine

/-! ## A waiting CARD vend denied (R12, R101 to R103, R108, R109) -/

/-- A CARD vend waits for its approval, with one slot and no payout beside it. -/
def DenialWaits (v : VendCtx) (s : State) : Prop :=
  s.crd.state = .approvalWait ∧ s.vnd.ctx = some v ∧ v.payment = .card ∧ v.slots = 1 ∧ s.chg.payout = none ∧ 1 ≤ s.rpq.reserved

/-- The vend has ended DENIED. -/
def VendDenied (v : VendCtx) (informed : Bool) (s t : State) : Prop :=
  t.vnd.ctx = none ∧ t.csh.credit = s.csh.credit ∧ t.csh.audit = s.csh.audit ∧ t.sel.table = s.sel.table ∧
    .event (.vendResult v.selection .card .denied v.price (some informed) none) ∈ t.rpq.queue

/-- The session is OPEN in ONLINE, and outside it has ended with a SESSION END. -/
def ReopensAfterDenial (s t : State) : Prop :=
  (s.mgt.mode = .online → t.crd = { s.crd with state := .opened, deadline := none, owed := none }) ∧
  (s.mgt.mode ≠ .online → t.crd = s.crd.closed ∧ ∀ n r, entryOf .card s = some (n, r) → r.presence = .present →
    s.dlk.own.length < 3 → ⟨r.base, .sessionEnd⟩ ∈ t.dlk.own)

theorem denyVend_ended {v : VendCtx} {s : State} (waits : DenialWaits v s) (informed : Bool) :
    VendEnded .denied false informed v s (denyVend informed s) :=
  settle_ended waits.2.1 (.inr rfl) false informed

theorem VendEnded.denied {v : VendCtx} {informed : Bool} {s t : State} (h : VendEnded .denied false informed v s t)
    (waits : DenialWaits v s) : VendDenied v informed s t := by
  obtain ⟨-, -, card, one, idle, slot⟩ := waits
  have report := h.report (by rw [idle]; exact slot)
  rw [vendReport, card, if_pos rfl, if_neg (by decide)] at report
  exact ⟨h.ctx, (h.single one idle).2 (.inr (by rw [card]; decide)), h.audit,
    h.table.trans (table_kept rfl (by decide) (by decide) _ _), report⟩

/-- What follows the denial leaves its vend as it ended. -/
theorem VendDenied.then {v : VendCtx} {informed : Bool} {s t u : State} (h : VendDenied v informed s t) (retains : Retains t u)
    (vnd : u.vnd = t.vnd) (csh : u.csh = t.csh) (sel : u.sel = t.sel) : VendDenied v informed s u := by
  obtain ⟨gone, credit, audit, table, queued⟩ := h
  exact ⟨by rw [vnd, gone], by rw [csh, credit], by rw [csh, audit], by rw [sel, table], retains.queued queued⟩

theorem VendEnded.entryOf {o : VendOutcome} {jam informed : Bool} {v : VendCtx} {s t : State} (h : VendEnded o jam informed v s t)
    (role : Role) : entryOf role t = entryOf role s := by
  unfold Machine.entryOf
  rw [h.routes]

theorem VendEnded.mgt {o : VendOutcome} {jam informed : Bool} {v : VendCtx} {s t : State} (h : VendEnded o jam informed v s t) :
    t.mgt = s.mgt := h.only.mgt.resolve_right (by decide)

/-- R102, R101, R110: a denial after which the session goes on. -/
theorem denial_reopens {v : VendCtx} {s : State} (waits : DenialWaits v s) (informed : Bool) :
    VendDenied v informed s (sessionOpens (denyVend informed s)) ∧ ReopensAfterDenial s (sessionOpens (denyVend informed s)) := by
  have ended := denyVend_ended waits informed
  obtain ⟨u, hu⟩ : ∃ u, u = denyVend informed s := ⟨_, rfl⟩
  rw [← hu] at ended ⊢
  have reopens := sessionOpens_reopens u
  have own := ended.own
  refine ⟨(ended.denied waits).then reopens.retains (by simp) (by simp) (by simp), fun online => ?_, fun offline => ⟨?_, ?_⟩⟩
  · rw [reopens.online (by rw [ended.mgt, online]), ended.crd]
  · rw [reopens.offline (by rw [ended.mgt]; exact offline), ended.crd]
  · exact fun n r entry present room =>
      reopens.told (by rw [ended.mgt]; exact offline) n r ((ended.entryOf .card).trans entry) present (by omega)

/-- R108, R109: a denial with which the session ends. -/
theorem denial_closes {v : VendCtx} {s : State} (waits : DenialWaits v s) :
    VendDenied v false s (sessionNone (denyVend false s)) ∧ (sessionNone (denyVend false s)).crd = s.crd.closed := by
  have ended := denyVend_ended waits false
  refine ⟨(ended.denied waits).then (sessionNone_retains _) (by simp) (by simp) (by simp), ?_⟩
  rw [sessionNone_crd, ended.crd]

/-! ## Approval (R102, R13) -/

/-- R13: the vend waits for its units or has been granted them. -/
theorem enterLoadWait_waits {v : VendCtx} {s : State} (ctx : s.vnd.ctx = some v) :
    (s.mgt.mode = .safe → (enterLoadWait s).vnd.ctx = some { v with stage := .loadWait } ∧ (enterLoadWait s).lds = s.lds) ∧
    (s.mgt.mode ≠ .safe → ∃ w, (enterLoadWait s).vnd.ctx = some w ∧ w = { v with stage := w.stage } ∧
      (w.stage = .loadWait ∨ w.stage = .turn1)) := by
  unfold enterLoadWait
  rw [ctx]
  refine ⟨fun safe => ?_, fun awake => ?_⟩
  · dsimp only
    rw [if_pos safe]
    exact ⟨rfl, rfl⟩
  · dsimp only
    rw [if_neg awake]
    obtain same | ⟨w, some_, turns⟩ := (evaluateClaims_grants
      (fileClaim .vend (if v.partner.isSome then 2 else 1) { s with vnd := ⟨some { v with stage := .loadWait }⟩ })).vnd
    · exact ⟨_, congrArg Vnd.ctx same, rfl, .inl rfl⟩
    · cases some_
      exact ⟨_, congrArg Vnd.ctx turns, rfl, .inr rfl⟩

/-- R99: SESSION OPEN in every state of the session. -/
theorem sessionOpenEvent_opens (funds : Option Nat) (s : State) :
    let t := sessionOpenEvent funds s
    (s.crd.state = .none → s.mgt.mode = .online →
      t.crd = { s.crd with state := .opened, funds := funds } ∧ Reported .cardSession t ∧ ChangesOnly [.crd, .rpq] s t) ∧
    (s.crd.state = .none → s.mgt.mode ≠ .online → t.crd = s.crd ∧ SameLink s t ∧ ChangesOnly [.dlk] s t ∧
      ∀ n r, entryOf .card s = some (n, r) → r.presence = .present → s.dlk.own.length < 4 →
        t.dlk.own = s.dlk.own ++ [⟨r.base, .sessionEnd⟩]) ∧
    (s.crd.state = .opened ∨ s.crd.state = .approvalWait →
      t.crd = { s.crd with funds := funds } ∧ (funds ≠ s.crd.funds → Reported .cardSession t) ∧ ChangesOnly [.crd, .rpq] s t) ∧
    (s.crd.state = .vending →
      t.crd = { s.crd with funds := funds, closePending := false } ∧ (funds ≠ s.crd.funds → Reported .cardSession t) ∧
      ChangesOnly [.crd, .rpq] s t) := by
  have stored (c : Crd) (moved : c.funds = funds) : let t := setSession c s
      t.crd = c ∧ (funds ≠ s.crd.funds → Reported .cardSession t) ∧ ChangesOnly [.crd, .rpq] s t :=
    ⟨setSession_crd _ _, fun new => setSession_reported (.inr (by rw [moved]; exact new.symm)), setSession_only _ _⟩
  unfold sessionOpenEvent
  refine ⟨fun state online => ?_, fun state offline => ?_, fun state => ?_, fun state => ?_⟩
  · simp only [state]
    rw [if_pos online]
    exact ⟨setSession_crd _ _, setSession_reported (.inl (by rw [state]; nofun)), setSession_only _ _⟩
  · simp only [state]
    rw [if_neg offline]
    refine ⟨by simp, handFrame_sameLink _ _ _, by constructor <;> simp, fun n r entry present room => ?_⟩
    rw [handFrame_handed entry present (by decide) room]
  · obtain state | state := state <;> simp only [state] <;> exact stored _ rfl
  · simp only [state]
    exact stored _ rfl

/-- R103: the approval deadline ends the vend and owes the reader a VEND RESULT FAIL. -/
theorem deadlineExpires_denies {v : VendCtx} {i price n : Nat} {r : Route} {s : State} (waits : DenialWaits v s)
    (last : s.crd.lastRequest = some (i, price)) (own : s.dlk.own = []) (entry : entryOf .card s = some (n, r))
    (present : r.presence = .present) :
    VendDenied v false s (deadlineExpires s) ∧
      (deadlineExpires s).crd = { s.crd with
        state := .vending
        deadline := none
        owed := some { success := false, price := price, selection := i, vendLink := false } } ∧
      (deadlineExpires s).dlk.own.getLast? = some ⟨r.base, .vendResult false price i⟩ ∧
      ChangesOnly Block.settlement s (deadlineExpires s) := by
  have ended := denyVend_ended waits false
  have expires : deadlineExpires s = oweResult { success := false, price := price, selection := i, vendLink := false }
      (denyVend false s) := by
    unfold deadlineExpires
    dsimp only
    rw [ended.crd, last]
  obtain ⟨u, hu⟩ : ∃ u, u = denyVend false s := ⟨_, rfl⟩
  rw [expires]
  rw [← hu] at ended ⊢
  have length := ended.own
  rw [own] at length
  let owed : ResultOwed := { success := false, price := price, selection := i, vendLink := false }
  have handed := oweResult_handed owed ((ended.entryOf .card).trans entry) present (by simp at length; omega)
  refine ⟨(ended.denied waits).then (oweResult_retains _ _) ?_ ?_ ?_, ?_, ?_, ended.only.trans (handed.only.mono (by decide))⟩
  · exact handed.only.vnd.resolve_right (by decide)
  · exact handed.only.csh.resolve_right (by decide)
  · exact handed.only.sel.resolve_right (by decide)
  · rw [handed.crd, ended.crd]
  · rw [handed.dlk]
    exact List.getLast?_concat

end Sys2Proof.Machine
end

section
/-! PROOF. The Card Unit's events, the loss of the reader and the approval deadline (sections 5.2 to 5.5). -/

namespace Sys2Proof.Machine

/-- Settles O34: each event by the state of the session; a denial ends the vend, then the session goes on or ends. -/
theorem cardEventsMoveTheSession : Obligations.CardEventsMoveTheSession := by
  refine ⟨fun node s => ?_, fun due v i price n r s state deadline last ctx card one slot idle own entry present => ?_⟩
  · intro closed ended waits denied reopens
    have closes : (sessionNone s).crd = closed ∧ ChangesOnly [.crd, .rpq] s (sessionNone s) :=
      ⟨sessionNone_crd s, setSession_only _ s⟩
    have closesReported (open_ : s.crd.state ≠ .none) : (sessionNone s).crd = closed ∧ Reported .cardSession (sessionNone s) ∧
        ChangesOnly [.crd, .rpq] s (sessionNone s) :=
      ⟨closes.1, setSession_reported (.inl open_), closes.2⟩
    refine ⟨fun funds => sessionOpenEvent_opens funds s, fun v i price amount state ctx last enough => ?_,
      fun v i price amount w last short => ?_, fun v w => ?_, fun i price amount state last n r entry present room => ?_,
      fun amount state => ?_, fun state => ?_, fun state => ?_, fun state => ?_, fun v w => ?_, fun state => ?_,
      fun acked price i stale => ?_, fun v price i w => ?_, fun state => ?_, fun state => ?_, fun v w => ?_,
      fun v o q state owed link ctx outcome card one slot => ?_⟩
    · have approved : takeEvent node (.approved amount) s =
          enterLoadWait (setSession { s.crd with state := .vending, deadline := none } s) := by
        show approvedEvent amount s = _
        simp only [approvedEvent, state, last]
        exact if_pos enough
      obtain ⟨u, hu⟩ : ∃ u, u = setSession { s.crd with state := .vending, deadline := none } s := ⟨_, rfl⟩
      have same : u.vnd = s.vnd ∧ u.mgt = s.mgt ∧ u.lds = s.lds ∧ u.crd = { s.crd with state := .vending, deadline := none } ∧
          Reported .cardSession u := by
        rw [hu]
        exact ⟨by simp, by simp, by simp, setSession_crd _ _, setSession_reported (.inl (by rw [state]; nofun))⟩
      obtain ⟨vnd, mgt, lds, crd, reported⟩ := same
      obtain ⟨safe, awake⟩ := enterLoadWait_waits (s := u) (by rw [vnd]; exact ctx)
      intro t
      have named : t = enterLoadWait u := by rw [hu]; exact approved
      rw [named]
      refine ⟨?_, (enterLoadWait_retains u).reported reported, fun is => ?_, fun is => awake (by rw [mgt]; exact is)⟩
      · simpa using crd
      · obtain ⟨waits', loads⟩ := safe (by rw [mgt]; exact is)
        exact ⟨waits', loads.trans lds⟩
    · have event : takeEvent node (.approved amount) s = sessionOpens (denyVend true s) := by
        show approvedEvent amount s = _
        simp only [approvedEvent, w.1, last]
        exact if_neg (Nat.not_le.mpr short)
      rw [event]
      exact denial_reopens w true
    · have event : takeEvent node .denied s = sessionOpens (denyVend true s) := if_pos w.1
      rw [event]
      exact denial_reopens w true
    · have event : takeEvent node (.approved amount) s =
          oweResult { success := false, price := price, selection := i, vendLink := false } s := by
        show approvedEvent amount s = _
        simp only [approvedEvent, state, last]
      rw [event]
      have handed := oweResult_handed { success := false, price := price, selection := i, vendLink := false } entry present room
      exact ⟨handed.crd, handed.dlk, handed.reported (by rw [state]; decide), handed.only⟩
    · show approvedEvent amount s = s
      unfold approvedEvent
      split
      · next is _ => rw [is] at state; simp at state
      · next is last => rw [is, last] at state; simp at state
      · rfl
    · exact if_neg state
    · show sessionCloseEvent s = s
      rw [sessionCloseEvent, state]
    · have event : takeEvent node .sessionClose s = sessionNone s := by
        show sessionCloseEvent s = _
        rw [sessionCloseEvent, state]
      rw [event]
      exact closesReported (by rw [state]; decide)
    · have event : takeEvent node .sessionClose s = sessionNone (denyVend false s) := by
        show sessionCloseEvent s = _
        rw [sessionCloseEvent, w.1]
      rw [event]
      exact denial_closes w
    · show sessionCloseEvent s = _
      rw [sessionCloseEvent, state]
    · refine if_neg fun both => ?_
      obtain rfl | other := stale
      · cases both.2
      · exact other both.1
    · have event : ownFrameEnds false ⟨node, .approvalRequest price i⟩ s = sessionOpens (denyVend false s) := if_pos ⟨w.1, rfl⟩
      rw [event]
      exact denial_reopens w false
    · rw [readerLost, state]
    · have event : readerLost s = sessionNone s := by
        unfold readerLost
        obtain is | ⟨is, unlinked⟩ := state
        · rw [is]
        · rw [is]
          dsimp only
          split
          · next q owed => rw [if_neg (by rw [unlinked q owed]; decide)]
          · rfl
      rw [event]
      refine closesReported fun none => ?_
      rw [none] at state
      simp at state
    · have event : readerLost s = sessionNone (denyVend false s) := by rw [readerLost, w.1]
      rw [event]
      exact denial_closes w
    · have event : readerLost s = sessionNone (finishVend false s) := by
        rw [readerLost, state]
        dsimp only
        rw [owed]
        exact congrArg sessionNone (if_pos link)
      have finished := finishVend_finished ctx false
      have crd : (finishVend false s).crd = s.crd := by simp
      have report := finished.report slot
      rw [vendReport, card, if_pos rfl, outcome] at report
      rw [event]
      refine ⟨by rw [sessionNone_crd, crd]; rfl, by simpa using finished.ctx, (sessionNone_retains _).queued report⟩
  · have waits : DenialWaits v (s.upTo due) := ⟨state, ctx, card, one, idle, slot⟩
    obtain ⟨⟨gone, credit, -, table, queued⟩, crd, handed, only⟩ :=
      deadlineExpires_denies (s := s.upTo due) waits last own entry present
    refine ⟨deadlineExpires (s.upTo due), ?_, ?_, gone, crd, handed, queued, table, credit, ?_⟩
    · show execApprovalDeadlineExpiry s = _
      rw [execApprovalDeadlineExpiry, state, deadline]
    · rw [only.now.resolve_right (by decide)]
      rfl
    · exact (upTo_moved s due).then only (by decide) (by decide)

end Sys2Proof.Machine
end

section
/-! SUPPORT. A vend that passes its checks (R10 to R13). -/

namespace Sys2Proof.Machine

/-! ## The sweep beside a vend (R46) -/

theorem endCheck_spd_eq (s : State) : (endCheck s).spd = { s.spd with
    sweep := (endCheck s).spd.sweep, rowOn := (endCheck s).spd.rowOn, colsOn := (endCheck s).spd.colsOn } := by
  unfold endCheck
  split
  · dsimp only
    split <;> rfl
  · rfl

theorem endCheck_claims {c : Claim} {s : State} (mem : c ∈ (endCheck s).lds.claims) : c ∈ s.lds.claims := by
  unfold endCheck at mem
  split at mem
  · dsimp only at mem
    split at mem
    · exact mem
    · exact (List.mem_filter.mp mem).1
    · exact mem
  · exact mem

/-- What the pause of a sweep leaves: its check ended, and no other part of the Spiral Drive. -/
structure SweepPaused (s t : State) : Prop where
  sweep : t.spd.sweep = s.spd.sweep.map fun w => { w with paused := true, check := .none }
  spd : t.spd = { s.spd with sweep := t.spd.sweep, rowOn := t.spd.rowOn, colsOn := t.spd.colsOn }
  claims : ∀ c ∈ t.lds.claims, c ∈ s.lds.claims
  only : ChangesOnly [.spd, .lds] s t

theorem pauseSweep_paused (s : State) : SweepPaused s (pauseSweep s) := by
  have ended := endCheck_sweep s
  have spd := endCheck_spd_eq s
  have only : ChangesOnly [.spd, .lds] s (pauseSweep s) := by constructor <;> simp
  cases sweep : s.spd.sweep with
  | none =>
    have ended : (endCheck s).spd.sweep = none := by rw [ended, sweep]; rfl
    have same : pauseSweep s = endCheck s := by simp only [pauseSweep, ended]
    rw [same] at only ⊢
    exact ⟨by rw [ended, sweep]; rfl, spd, fun _ => endCheck_claims, only⟩
  | some w =>
    have ended : (endCheck s).spd.sweep = some { w with check := .none } := by rw [ended, sweep]; rfl
    have paused : pauseSweep s = { endCheck s with spd := { (endCheck s).spd with
        sweep := some { w with paused := true, check := .none } } } := by simp only [pauseSweep, ended]
    rw [paused] at only ⊢
    refine ⟨by rw [sweep]; rfl, ?_, fun _ => endCheck_claims, only⟩
    dsimp only
    rw [spd]

/-! ## Acceptance (R11, R13) -/

theorem vendRefusal_awake {s : State} {i : Nat} {pay : Payment} (passes : vendRefusal s i pay = none) : s.mgt.mode ≠ .safe := by
  intro safe
  unfold vendRefusal at passes
  simp [safe] at passes

/-- A vend's context recorded and its slots reserved, with the sweep paused (R11, R46). -/
def State.vendBegun (i : Nat) (pay : Payment) (s : State) : State :=
  pauseSweep (reserve (vendSlots s pay) { s with vnd := ⟨some (newVend s i pay)⟩ })

/-- What the beginning of a vend leaves. -/
structure VendBegun (v : VendCtx) (s t : State) : Prop where
  vnd : t.vnd = ⟨some v⟩
  reserved : t.rpq.reserved = s.rpq.reserved + v.slots
  paused : SweepPaused { s with vnd := ⟨some v⟩, rpq := t.rpq } t
  only : ChangesOnly [.vnd, .spd, .lds, .rpq] s t

theorem vendBegun_begun (i : Nat) (pay : Payment) (s : State) : VendBegun (newVend s i pay) s (s.vendBegun i pay) := by
  have paused := pauseSweep_paused (reserve (vendSlots s pay) { s with vnd := ⟨some (newVend s i pay)⟩ })
  have rpq : (s.vendBegun i pay).rpq = { s.rpq with reserved := s.rpq.reserved + vendSlots s pay } :=
    paused.only.rpq.resolve_right (by decide)
  refine ⟨paused.only.vnd.resolve_right (by decide), by rw [rpq]; rfl, by rw [rpq]; exact paused, ?_⟩
  refine .trans ?_ (paused.only.mono (by decide))
  constructor <;> simp [reserve]

theorem enterLoadWait_files {v : VendCtx} {s : State} (ctx : s.vnd.ctx = some v) (awake : s.mgt.mode ≠ .safe) :
    enterLoadWait s = evaluateClaims
      (fileClaim .vend (if v.partner.isSome then 2 else 1) { s with vnd := ⟨some { v with stage := .loadWait }⟩ }) := by
  unfold enterLoadWait
  rw [ctx]
  exact if_neg awake

/-- R10: a vend of a known payment is taken when it passes its checks. -/
theorem vendFrame_accepts {i p : Byte} {pay : Payment} {s : State} (payment : paymentOf p.toNat = some pay)
    (passes : vendRefusal s i.toNat pay = none) : vendFrame [i, p] s = (okAnswer [], acceptVend i.toNat pay s) := by
  unfold vendFrame
  dsimp only
  rw [payment]
  dsimp only
  rw [vendCommand_eq, passes]
  rfl

/-- R100: the request stands last for a reader that is PRESENT. -/
theorem askApproval_asks (v : VendCtx) {n : Nat} {r : Route} {s : State} (entry : entryOf .card s = some (n, r))
    (present : r.presence = .present) (room : s.dlk.own.length < 4) (opened : s.crd.state = .opened) :
    ∃ t, askApproval v s = (t, false) ∧ t.crd = { s.crd with
        state := .approvalWait, deadline := some (s.now + seconds 30), lastRequest := some (v.selection, v.price) } ∧
      t.dlk = { s.dlk with own := s.dlk.own ++ [⟨r.base, .approvalRequest v.price v.selection⟩] } ∧
      t.rpq.reserved = s.rpq.reserved ∧ Reported .cardSession t ∧ ChangesOnly [.crd, .dlk, .rpq] s t := by
  let c : Crd := { s.crd with
    state := .approvalWait, deadline := some (s.now + seconds 30), lastRequest := some (v.selection, v.price) }
  obtain ⟨x, hx⟩ : ∃ x, x = setSession c s := ⟨_, rfl⟩
  have only : ChangesOnly [.crd, .rpq] s x := by rw [hx]; exact setSession_only _ _
  have dlk : x.dlk = s.dlk := only.dlk.resolve_right (by decide)
  have same : entryOf .card x = some (n, r) := by
    unfold entryOf at entry ⊢
    rwa [dlk]
  have asks : askApproval v s =
      ({ x with dlk := { x.dlk with own := x.dlk.own ++ [⟨r.base, .approvalRequest v.price v.selection⟩] } }, false) := by
    unfold askApproval
    rw [← hx]
    exact handFrame_handed same present (by simp [OwnKind.kind, kApprovalRequest, kEnable]) (by rwa [dlk])
  refine ⟨_, asks, ?_, by rw [dlk], ?_, ?_, (only.mono (by decide)).trans (by constructor <;> simp)⟩
  · rw [hx]
    exact setSession_crd _ _
  · rw [hx]
    exact reportIf_reserved _ _ _
  · have reported : Reported .cardSession x := by
      rw [hx]
      exact setSession_reported (.inl (by rw [opened]; nofun))
    exact reported.of_rpq rfl

theorem vendRefusal_payment {s : State} {i : Nat} {pay : Payment} (passes : vendRefusal s i pay = none) :
    paymentRefusal s pay (selOf s i).price = none := by
  unfold vendRefusal at passes
  dsimp only at passes
  repeat' split at passes
  all_goals simp_all

/-- R10: a CARD vend finds its session OPEN. -/
theorem vendRefusal_card {s : State} {i : Nat} (passes : vendRefusal s i .card = none) : s.crd.state = .opened := by
  by_contra closed
  have refused : paymentRefusal s .card (selOf s i).price = some .noSession := if_pos closed
  rw [vendRefusal_payment passes] at refused
  cases refused

end Sys2Proof.Machine
end

section
/-! PROOF. VEND that passes its checks (R11 to R13, R100). -/

namespace Sys2Proof.Machine

/-- Settles O22: the session asks, and the request stands last for a reader that is PRESENT. -/
theorem acceptedCardVendsAskForApproval : Obligations.AcceptedCardVendsAskForApproval := by
  intro src i n r s h passes entry present room none
  let v := newVend s i.toNat .card
  have begun := vendBegun_begun i.toNat .card s.taken
  obtain ⟨x, hx⟩ : ∃ x, x = s.taken.vendBegun i.toNat .card := ⟨_, rfl⟩
  rw [← hx] at begun
  have clear : x.lds.claims = [] := List.eq_nil_iff_forall_not_mem.mpr fun c mem => by
    have before := begun.paused.claims c mem
    rw [show ({ s.taken with vnd := ⟨some v⟩, rpq := x.rpq } : State).lds.claims = [] from none] at before
    cases before
  have opened : s.crd.state = .opened := vendRefusal_card passes
  have dlk : x.dlk = s.dlk := begun.only.dlk.resolve_right (by decide)
  have crd : x.crd = s.crd := begun.only.crd.resolve_right (by decide)
  have same : entryOf .card x = some (n, r) := by
    unfold entryOf at entry ⊢
    rwa [dlk]
  obtain ⟨u, asks, crd', dlk', reserved, reported, only⟩ :=
    askApproval_asks v same present (by rwa [dlk]) (by rw [crd, opened])
  have accepts : acceptVend i.toNat .card s.taken = u := by
    have waits : evaluateClaims x = x := evaluateClaims_nil clear
    show (match askApproval v (evaluateClaims (s.taken.vendBegun i.toNat .card)) with
      | (t, true) => requestEnds false t
      | (t, false) => t) = u
    rw [← hx, waits, asks]
  have acts : vendFrame [i, 1] s.taken = (okAnswer [], u) := by
    rw [← accepts]
    exact vendFrame_accepts rfl passes
  have ulk : u.ulk = s.taken.ulk := by rw [← accepts]; simp
  have acted := deliver_acted src kCommand _ h acts ulk
  have all := acted.only (.trans (begun.only.mono (by decide)) (only.mono (cs := [.vnd, .spd, .crd, .lds, .dlk, .rpq]) (by decide)))
  obtain ⟨answered, beside⟩ := acted
  refine ⟨_, rfl, answered, ?_⟩
  obtain ⟨t, ht⟩ : ∃ t, t = deliver src kCommand (vendFrame [i, 1]) s := ⟨_, rfl⟩
  rw [← ht] at beside all ⊢
  have vnd : u.vnd = ⟨some v⟩ := (only.vnd.resolve_right (by decide)).trans begun.vnd
  rw [beside]
  refine ⟨⟨v, congrArg Vnd.ctx vnd, rfl, rfl, rfl, rfl, rfl, rfl⟩, ?_, reported.of_rpq rfl, ?_, ?_, beside ▸ all⟩
  · refine crd'.trans ?_
    rw [crd, begun.only.now.resolve_right (by decide)]
    rfl
  · refine dlk'.trans ?_
    rw [dlk]
    rfl
  · exact reserved.trans begun.reserved

/-- Settles O21: the context, its money and its slots, and the claim last in the list, before the evaluation. -/
theorem acceptedVendsFileTheirClaim : Obligations.AcceptedVendsFileTheirClaim := by
  intro src i p col partner s h kind passes position
  let pay : Payment := if p = 0 then .cash else .free
  let v := newVend s i.toNat pay
  have begun := vendBegun_begun i.toNat pay s.taken
  obtain ⟨x, hx⟩ : ∃ x, x = s.taken.vendBegun i.toNat pay := ⟨_, rfl⟩
  rw [← hx] at begun
  obtain ⟨y, hy⟩ : ∃ y, y = if p = 0 then settleCash s.taken (takeCredit v.price x) else x := ⟨_, rfl⟩
  have paid : ChangesOnly [.csh, .dlk, .rpq] x y ∧ y.rpq.reserved = x.rpq.reserved ∧
      SameAccount { x with csh := { x.csh with credit := if p = 0 then x.csh.credit - v.price else x.csh.credit } } y ∧
      SameLink x y ∧ (p = 0 → 0 < v.price → Reported .credit y) := by
    by_cases cash : p = 0
    · simp only [if_pos cash] at hy ⊢
      have taken : ChangesOnly [.csh, .dlk, .rpq] x y := by rw [hy]; constructor <;> simp
      refine ⟨taken, ?_, ?_, ?_, fun _ price => ?_⟩ <;> rw [hy]
      · rw [settleCash_reserved, takeCredit_reserved]
      · exact (settleCash_sameAccount _ _).of_csh (takeCredit_csh_eq _ _)
      · exact (settleCash_sameLink _ _).of_dlk (by simp)
      · exact (takeCredit_reported (Nat.ne_of_gt price) x).settleCash _
    · simp only [if_neg cash] at hy ⊢
      rw [hy]
      exact ⟨.refl _ x, rfl, rfl, rfl, fun is => absurd is cash⟩
  obtain ⟨only, reserved, account, link, reported⟩ := paid
  have vnd : y.vnd.ctx = some v := by rw [only.vnd.resolve_right (by decide), begun.vnd]; rfl
  have mode : y.mgt = s.mgt := by
    rw [only.mgt.resolve_right (by decide), begun.only.mgt.resolve_right (by decide)]
    rfl
  have awake : y.mgt.mode ≠ .safe := by rw [mode]; exact vendRefusal_awake passes
  let u := fileClaim .vend (if v.partner.isSome then 2 else 1) { y with vnd := ⟨some { v with stage := .loadWait }⟩ }
  have accepts : acceptVend i.toNat pay s.taken = evaluateClaims u := by
    rw [← enterLoadWait_files vnd awake, hy, hx]
    obtain rfl | rfl := kind <;> rfl
  have acts : vendFrame [i, p] s.taken = (okAnswer [], evaluateClaims u) := by
    rw [← accepts]
    refine vendFrame_accepts ?_ passes
    obtain rfl | rfl := kind <;> rfl
  have ulk : (evaluateClaims u).ulk = s.taken.ulk := by rw [← accepts]; simp
  refine ⟨u, _, rfl, deliver_acted src kCommand _ h acts ulk, ?_⟩
  have spot : (positionOf s (selOf s i.toNat)).getD (0, none) = (col, partner) := by rw [position]; rfl
  have slotted : vendSlots s pay = if p = 0 ∧ s.csh.multiVend = false then 2 else 1 := by
    obtain rfl | rfl := kind
    · simp [vendSlots, pay]
    · simp [vendSlots, pay]
  have context : ({ v with stage := .loadWait } : VendCtx) =
      { selection := i.toNat, payment := if p = 0 then .cash else .free, price := (selOf s i.toNat).price, stage := .loadWait,
        dropSeen := false, slots := if p = 0 ∧ s.csh.multiVend = false then 2 else 1, outcome := none,
        tray := (selOf s i.toNat).tray, col := col, partner := partner } := by
    show ({ newVend s i.toNat pay with stage := .loadWait } : VendCtx) = _
    unfold newVend
    dsimp only
    rw [spot, slotted]
  have slots : v.slots = if p = 0 ∧ s.csh.multiVend = false then 2 else 1 := congrArg VendCtx.slots context
  have partner' : v.partner = partner := congrArg VendCtx.partner context
  have all : ChangesOnly [.ulk, .vnd, .spd, .csh, .lds, .dlk, .rpq] s u := by
    have filed : ChangesOnly [.vnd, .lds] y u := by constructor <;> simp [u]
    exact ((begun.only.mono (by decide)).trans ((only.mono (by decide)).trans (filed.mono (by decide)))).of_taken
  have csh : x.csh = s.csh := begun.only.csh.resolve_right (by decide)
  have dlk : x.dlk = s.dlk := begun.only.dlk.resolve_right (by decide)
  have now : y.now = s.now := by
    rw [only.now.resolve_right (by decide), begun.only.now.resolve_right (by decide)]
    rfl
  have spd : y.spd = x.spd := only.spd.resolve_right (by decide)
  refine ⟨congrArg some context, ?_, ?_, ?_, ?_, ?_, reported, all, ?_⟩
  · exact account.of_csh (by rw [csh]; rfl)
  · rw [← slots]
    exact reserved.trans begun.reserved
  · show (_ ++ [_]).getLast? = _
    rw [List.getLast?_concat, partner']
    exact congrArg (fun t => some (Claim.mk _ _ t _)) now
  · exact (congrArg Spd.sweep spd).trans begun.paused.sweep
  · show y.spd = { s.spd with sweep := y.spd.sweep, rowOn := y.spd.rowOn, colsOn := y.spd.colsOn }
    rw [spd]
    exact begun.paused.spd
  · exact link.of_dlk (by rw [dlk])

end Sys2Proof.Machine
end

section
/-! SUPPORT. A state that no step reaches: five units granted, and a vend that waits with a claim of none (R136). -/

namespace Sys2Proof.Machine

/-- A vend of the chilled perishable selection 0 waits for no unit while the compressor in GUARD holds five, and the hold is due. -/
def overGranted : State := { State.reset with
  sel := { State.reset.sel with table := tset State.reset.sel.table 0 { Selection.powerOn with chilled := true, perishable := true } }
  vnd := ⟨some {
    selection := 0, payment := .cash, price := 0, stage := .loadWait, dropSeen := false, slots := 1, outcome := none
    tray := 0, col := 0, partner := none }⟩
  lds := { State.reset.lds with claims := [⟨.vend, 0, 0, false⟩], compUnits := 5 }
  rpq := { State.reset.rpq with reserved := 1 }
  clg := { State.reset.clg with warmTime := 65535, comp := .guard } }

/-- The sample grants the claim, so that the hold finds a vend in its turn. -/
theorem overGranted_sampled : ∃ t, exec (.coolingSample 0 0 0 0) overGranted = .next t ∧ t.clg.hold = true ∧ t.vnd.ctx.isSome = true :=
  ⟨_, rfl, by decide, by decide⟩

end Sys2Proof.Machine
end

section
/-! PROOF. The cooling sample (R112 to R133). -/

namespace Sys2Proof.Machine

/-- Refutes O46: a vend claim of no unit fits beside five units granted, so the vend turns before the hold could cancel it. -/
theorem not_theSampleUpdatesTheCompartment : ¬ Obligations.TheSampleUpdatesTheCompartment := by
  intro holds
  obtain ⟨t, runs, hold, turns⟩ := overGranted_sampled
  obtain ⟨u, ran, -, -, -, -, -, -, -, -, -, -, -, -, -, -, -, -, -, -, held, -⟩ := holds 0 0 0 0 overGranted
  rw [runs] at ran
  cases ran
  have claims : ∀ k ∈ overGranted.lds.claims, k.kind = .vend ∧ 4 < k.units + unitsGranted overGranted := by decide
  obtain ⟨-, -, -, cancels⟩ := held rfl hold
  obtain ⟨gone, -⟩ := cancels _ rfl (.inr rfl) rfl nofun (by decide) (by decide) rfl claims (by decide)
  rw [gone] at turns
  cases turns

end Sys2Proof.Machine
end

section
/-! SUPPORT. The management reset, work by work (R23, R96, R187, R198). -/

namespace Sys2Proof.Machine

/-! ## The results (R23, R198) -/

/-- An event report finds room in a queue that holds at most one entry, where nothing is reserved. -/
theorem appendResult_queue {e : EventReport} {s : State} (room : s.rpq.queue.length + s.rpq.reserved < 32) :
    (appendResult (some e) s).rpq = { s.rpq with queue := s.rpq.queue ++ [.event e] } := by
  have free : 0 < freeSlots s := by
    unfold freeSlots
    omega
  show (appendEvent e s).rpq = _
  rw [appendEvent, if_pos free]

theorem appendResult_retains (ev : Option EventReport) (s : State) : Retains s (appendResult ev s) := by
  cases ev with
  | none => exact .refl s
  | some e => exact appendEvent_retains e s

/-- Both results stand in the emptied queue, in either order. -/
theorem appendResults_queued {vend payout : Option EventReport} {s : State} (empty : s.rpq.queue = [])
    (free : s.rpq.reserved = 0) : (appendResults vend payout s).rpq.reserved = 0 ∧
      (∀ e, vend = some e → .event e ∈ (appendResults vend payout s).rpq.queue) ∧
      (∀ e, payout = some e → .event e ∈ (appendResults vend payout s).rpq.queue) := by
  have one (e : EventReport) {u : State} (rpq : u.rpq = s.rpq) :
      (appendResult (some e) u).rpq = { s.rpq with queue := [.event e] } := by
    rw [appendResult_queue (by rw [rpq, empty, free]; decide), rpq, empty]
    rfl
  have two (e f : EventReport) {u : State} (rpq : u.rpq = s.rpq) :
      (appendResult (some f) (appendResult (some e) u)).rpq = { s.rpq with queue := [.event e, .event f] } := by
    have room : (appendResult (some e) u).rpq.queue.length + (appendResult (some e) u).rpq.reserved < 32 := by
      simp [one e rpq, free]
    rw [appendResult_queue room, one e rpq]
    rfl
  cases vend with
  | none =>
    cases payout with
    | none => exact ⟨free, nofun, nofun⟩
    | some f =>
      show (appendResult (some f) s).rpq.reserved = 0 ∧ _ ∧ ∀ e, _ → _ ∈ (appendResult (some f) s).rpq.queue
      rw [one f rfl]
      exact ⟨free, nofun, fun e named => by cases named; exact List.mem_singleton_self _⟩
  | some e =>
    cases payout with
    | none =>
      show (appendResult (some e) s).rpq.reserved = 0 ∧ (∀ f, _ → _ ∈ (appendResult (some e) s).rpq.queue) ∧ _
      rw [one e rfl]
      exact ⟨free, fun f named => by cases named; exact List.mem_singleton_self _, nofun⟩
    | some f =>
      unfold appendResults
      rw [if_pos ⟨rfl, rfl⟩]
      dsimp only
      split
      · rw [two e f (u := { s with freeIx := s.freeIx + 1 }) rfl]
        exact ⟨free, fun x named => by cases named; simp, fun x named => by cases named; simp⟩
      · rw [two f e (u := { s with freeIx := s.freeIx + 1 }) rfl]
        exact ⟨free, fun x named => by cases named; simp, fun x named => by cases named; simp⟩

/-! ## The vend (R23) -/

/-- A drop was seen in the turn that the reset ends. -/
def DroppedIn (drop : Bool) (s : State) : Prop :=
  ∃ v, s.vnd.ctx = some v ∧ (v.stage = .turn1 ∨ v.stage = .turn2) ∧ (v.dropSeen = true ∨ drop = true)

/-- The outcome a reset gives counts as a delivery exactly where a drop was seen. -/
theorem resetVend_delivered {drop : Bool} {v : VendCtx} (open_ : v.stage ≠ .settling) :
    (resetVend drop v).2.delivered (resetVend drop v).1 = true ↔
      (v.stage = .turn1 ∨ v.stage = .turn2) ∧ (v.dropSeen = true ∨ drop = true) := by
  cases stage : v.stage with
  | settling => exact absurd stage open_
  | approvalWait | loadWait | turn1 | turn2 => simp [resetVend, stage, VendCtx.delivered]

theorem resetVend_ctx (drop : Bool) (v : VendCtx) :
    (resetVend drop v).2 = { v with dropSeen := (resetVend drop v).2.dropSeen } := by
  unfold resetVend
  split <;> rfl

/-- What the reset leaves of the vend and its money. -/
structure VendReset (drop : Bool) (s t : State) : Prop where
  ctx : t.vnd.ctx = none
  csh : t.csh = { s.csh with credit := t.csh.credit, audit := t.csh.audit }
  cooling : SameCooling s t
  reserved : t.rpq.reserved = s.rpq.reserved
  retains : Retains s t
  unused : s.vnd.ctx = none → t.sel.table = s.sel.table ∧ t.csh.audit = s.csh.audit
  waited : ∀ v, s.vnd.ctx = some v → v.stage = .approvalWait ∨ v.stage = .loadWait → t.sel.table = s.sel.table
  paid : (∀ v, s.vnd.ctx = some v → (v.stage = .settling ↔ v.outcome.isSome)) → DroppedIn drop s → t.csh.credit = s.csh.credit
  unpaid : (∀ v, s.vnd.ctx = some v → (v.stage = .settling ↔ v.outcome.isSome)) → ¬DroppedIn drop s →
    s.csh.credit + heldPrice s ≤ 65535 → t.csh.credit = s.csh.credit + heldPrice s

theorem settleMoney_csh (o : VendOutcome) (v : VendCtx) (s : State) : (settleMoney o v s).csh =
    { s.csh with credit := (settleMoney o v s).csh.credit, audit := (settleMoney o v s).csh.audit } := by
  unfold settleMoney
  split
  · rfl
  · split
    · obtain ⟨-, e⟩ | ⟨-, e⟩ | ⟨-, e⟩ := addCredit_cases v.price s <;> rw [e]
      · simp
      · simp
    · rfl

theorem recordOutcome_table (o : VendOutcome) (jam : Bool) (v : VendCtx) (s : State) : (recordOutcome o jam v s).sel.table =
    tset s.sel.table v.selection (outcomeEntry o jam v (selOf s v.selection)) := by
  simp [recordOutcome, storeSelection]

theorem recordOutcome_cooling (o : VendOutcome) (jam : Bool) (v : VendCtx) (s : State) :
    SameCooling s (recordOutcome o jam v s) := by
  have eco := (selRefresh_sameCooling (storeSelection v.selection (outcomeEntry o jam v (selOf s v.selection))
    { s with vnd := ⟨some { v with outcome := some o, stage := .settling }⟩ })).of_clg (s := s) (by simp)
  unfold SameCooling at eco ⊢
  simpa [recordOutcome] using eco

theorem recordOutcome_reserved (o : VendOutcome) (jam : Bool) (v : VendCtx) (s : State) :
    (recordOutcome o jam v s).rpq.reserved = s.rpq.reserved :=
  ((settleMoney_stored o v _).2.2.2.trans (selRefresh_reserved _)).trans (storeSelection_reserved _ _ _)

/-- An outcome's part of the account, found by its equation. -/
theorem recordOutcome_eq (o : VendOutcome) (jam : Bool) (v : VendCtx) (s : State) :
    ∃ u, recordOutcome o jam v s = settleMoney o v u ∧ u.csh = s.csh := ⟨_, rfl, by simp⟩

theorem resetVendSettles_reset (drop : Bool) (s : State) : VendReset drop s (resetVendSettles drop s) := by
  unfold resetVendSettles
  cases ctx : s.vnd.ctx with
  | none =>
    refine ⟨ctx, rfl, rfl, rfl, .refl s, fun _ => ⟨rfl, rfl⟩, fun v some => by simp [ctx] at some, fun _ _ => rfl, fun _ _ _ => ?_⟩
    simp [heldPrice, ctx]
  | some v =>
    have same {w : VendCtx} (some : s.vnd.ctx = some w) : w = v := (Option.some.inj (ctx.symm.trans some)).symm
    dsimp only
    by_cases settled : v.stage = .settling
    · rw [if_pos settled]
      refine ⟨rfl, rfl, rfl, rfl, retains_same rfl rfl rfl, fun none => by simp [ctx] at none, fun w some waits => rfl,
        fun _ _ => rfl, fun ended _ _ => ?_⟩
      have nothing : heldPrice s = 0 := by
        rw [heldPrice_some ctx]
        exact if_neg fun held => absurd ((ended v ctx).mp settled) (by simp [held.2])
      rw [nothing]
      rfl
    rw [if_neg settled]
    have delivered := resetVend_delivered (drop := drop) settled
    have whole := resetVend_ctx drop v
    obtain ⟨o, named⟩ : ∃ o, o = (resetVend drop v).1 := ⟨_, rfl⟩
    obtain ⟨x, called⟩ : ∃ x, x = (resetVend drop v).2 := ⟨_, rfl⟩
    rw [← named, ← called] at delivered
    rw [← called] at whole
    rw [← named, ← called]
    have payment : x.payment = v.payment := by rw [whole]
    have price : x.price = v.price := by rw [whole]
    obtain ⟨u, eq, csh⟩ := recordOutcome_eq o false x s
    obtain ⟨audit, kept, returned, -⟩ := settleMoney_stored o x u
    have account := settleMoney_csh o x u
    rw [← eq, csh] at audit kept returned account
    have cooling := recordOutcome_cooling o false x s
    have table := recordOutcome_table o false x s
    have reserved := recordOutcome_reserved o false x s
    have retains := recordOutcome_retains o false x s
    have droppedIff : DroppedIn drop s ↔ x.delivered o = true := by
      rw [delivered]
      constructor
      · rintro ⟨w, some, turns, seen⟩
        rw [same some] at turns seen
        exact ⟨turns, seen⟩
      · exact fun dropped => ⟨v, ctx, dropped⟩
    have waitedCase (waits : v.stage = .approvalWait ∨ v.stage = .loadWait) : o = .cancelled ∧ x = v := by
      rw [named, called]
      obtain stage | stage := waits
      · unfold resetVend; rw [stage]; exact ⟨rfl, rfl⟩
      · unfold resetVend; rw [stage]; exact ⟨rfl, rfl⟩
    generalize recordOutcome o false x s = r at *
    refine ⟨rfl, account, cooling, reserved, retains.trans (retains_same rfl rfl rfl), fun none => by simp [ctx] at none,
      fun w some waits => ?_, fun _ dropped => kept (.inl (droppedIff.mp dropped)), fun ended lost range => ?_⟩
    · rw [same some] at waits
      obtain ⟨cancelled, itself⟩ := waitedCase waits
      show r.sel.table = _
      rw [table, itself, cancelled]
      exact table_kept rfl (by decide) (by decide) false s
    · have open_ : v.outcome = none := by
        cases outcome : v.outcome with
        | none => rfl
        | some o' => exact absurd ((ended v ctx).mpr (by simp [outcome])) settled
      have missed : x.delivered o = false := Bool.eq_false_iff.mpr fun got => lost (droppedIff.mpr got)
      have held := heldPrice_some ctx
      show r.csh.credit = _
      by_cases cash : v.payment = .cash
      · rw [if_pos ⟨cash, open_⟩] at held
        rw [returned missed (payment.trans cash) (by rw [price]; omega), price, held]
      · rw [if_neg fun both => cash both.1] at held
        rw [kept (.inr fun is => cash (payment.symm.trans is)), held, Nat.add_zero]

/-! ## The payout (R96) -/

/-- What the reset leaves of the payout and its money. -/
structure PayoutReset (s t : State) : Prop where
  chg : t.chg = { s.chg with payout := none, drive := t.chg.drive }
  drive : t.chg.drive = none ∨ (s.chg.payout = none ∧ t.chg.drive = s.chg.drive)
  books : SameBooks s t
  link : SameLink s t
  lds : s.lds.claims = [] → s.lds.payoutUnits = 0 → t.lds = s.lds
  reserved : t.rpq.reserved = s.rpq.reserved
  retains : Retains s t
  money : s.csh.credit + moneyOwed s ≤ 65535 → t.csh.credit = s.csh.credit + moneyOwed s

theorem endPayoutWith_reset (s : State) : PayoutReset s (endPayoutWith (fun _ a => a) s) := by
  unfold endPayoutWith
  cases payout : s.chg.payout with
  | none =>
    refine ⟨by dsimp only; rw [← payout], .inr ⟨payout, rfl⟩, .refl s, .refl s, fun _ _ => rfl, rfl, .refl s, fun _ => ?_⟩
    simp [moneyOwed, payout]
  | some p =>
    have owed : moneyOwed s = if p.source.isService then 0 else p.remainder := by simp [moneyOwed, payout]
    dsimp only
    obtain ⟨u, freed⟩ : ∃ u, u = withdrawClaim .payout { s with
      lds := { s.lds with payoutUnits := 0 }
      chg := { s.chg with payout := none, drive := none } } := ⟨_, rfl⟩
    rw [← freed]
    have csh : u.csh = s.csh := by rw [freed]; rfl
    have dlk : u.dlk = s.dlk := by rw [freed]; rfl
    have rpq : u.rpq = s.rpq := by rw [freed]; rfl
    have chg : u.chg = { s.chg with payout := none, drive := none } := by rw [freed]; rfl
    have lds (none : s.lds.claims = []) (idle : s.lds.payoutUnits = 0) : u.lds = s.lds := by
      rw [freed]
      show ({ s.lds with payoutUnits := 0, claims := s.lds.claims.filter _ } : Lds) = s.lds
      rw [none, ← idle, List.filter_nil, ← none]
    clear freed
    obtain ⟨w, returned⟩ : ∃ w, w = if p.source.isService then u else addCredit p.remainder u := ⟨_, rfl⟩
    rw [← returned]
    have books : SameBooks s w := by
      rw [returned]
      split
      · exact sameBooks_of_csh csh
      · exact (sameBooks_of_csh csh).trans (addCredit_books _ _)
    have wDlk : w.dlk = s.dlk := by rw [returned]; split <;> simp [dlk]
    have wChg : w.chg = u.chg := by rw [returned]; split <;> simp
    have wLds : w.lds = u.lds := by rw [returned]; split <;> simp
    have wReserved : w.rpq.reserved = s.rpq.reserved := by
      rw [returned, ← rpq]
      split
      · rfl
      · exact addCredit_reserved _ _
    have wRetains : Retains s w := by
      rw [returned]
      split
      · exact retains_same (by rw [rpq]) (by rw [rpq]) (by rw [dlk])
      · exact (addCredit_retains _ _).from (by rw [rpq]) (by rw [rpq]) (by rw [dlk])
    have money (range : s.csh.credit + moneyOwed s ≤ 65535) : w.csh.credit = s.csh.credit + moneyOwed s := by
      rw [owed] at range ⊢
      rw [returned]
      split
      · rw [csh]; rfl
      · rw [if_neg ‹_›] at range
        rw [addCredit_credit (by rw [csh]; exact range), csh]
    clear returned
    refine ⟨by simp [wChg, chg], .inl (by simp [wChg, chg]), books.trans (settleCash_sameAccount s w).books,
      (sameLink_of_dlk wDlk).trans (settleCash_sameLink s w), fun none idle => by simpa using wLds.trans (lds none idle),
      (settleCash_reserved s w).trans wReserved, wRetains.trans (settleCash_retains s w), fun range => by simpa using money range⟩

/-! ## The blocks (R37, R49, R97, R142, R176, R187) -/

/-- The machine with the reports, the links, the card session, the loads, the spirals and the mode reset. -/
def State.blocksReset (s : State) : State := resetMode (resetSpirals (resetLoads (resetCard (resetLink (resetReports s)))))

/-- What the reset of the blocks leaves. -/
structure BlocksReset (s t : State) : Prop where
  only : ChangesOnly [.freeIx, .spd, .crd, .lds, .dlk, .mgt, .rpq] s t
  mgt : t.mgt = { mode := if s.cmn.supplyLow then .safe else .setup, returnMode := .setup }
  crd : t.crd = Crd.powerOn
  spd : t.spd = { s.spd with rowOn := none, colsOn := [], turn := none, sweep := none, lateDrop := t.spd.lateDrop }
  lds : t.lds = { s.lds with claims := [], vendUnits := 0, payoutUnits := 0, coilUnits := 0 }
  dlk : t.dlk.routes = s.dlk.routes ∧ t.dlk.nextTag = s.dlk.nextTag ∧ t.dlk.fastRate = s.dlk.fastRate ∧
    t.dlk.guardGap = s.dlk.guardGap ∧ t.dlk.transits = [] ∧ t.dlk.exchange = none
  reserved : t.rpq.reserved = 0
  vendResult : ∀ e, resetVendReport (windowDrop s) s = some e → .event e ∈ t.rpq.queue
  payoutResult : ∀ e, resetPayoutReport s = some e → .event e ∈ t.rpq.queue

theorem resetSpirals_spd (s : State) : (resetSpirals s).spd =
    { s.spd with rowOn := none, colsOn := [], turn := none, sweep := none, lateDrop := (resetSpirals s).spd.lateDrop } := by
  cases turn : s.spd.turn <;> simp [resetSpirals, stopTurn, driversOff, turn]

theorem resetLink_dlk (s : State) : (resetLink s).dlk.routes = s.dlk.routes ∧ (resetLink s).dlk.nextTag = s.dlk.nextTag ∧
    (resetLink s).dlk.fastRate = s.dlk.fastRate ∧ (resetLink s).dlk.guardGap = s.dlk.guardGap ∧
    (resetLink s).dlk.transits = [] ∧ (resetLink s).dlk.exchange = none := by
  unfold resetLink
  refine ⟨tryRelease_routes _, ?_, ?_, ?_, tryRelease_transits _, tryRelease_exchange _⟩ <;>
    (unfold tryRelease; split <;> rfl)

theorem resetReports_dlk (s : State) : (resetReports s).dlk = (emptyReports s).dlk := by simp [resetReports]

theorem State.blocksReset_reset (s : State) : BlocksReset s s.blocksReset := by
  obtain ⟨free, vend, payout⟩ := appendResults_queued (vend := resetVendReport (windowDrop s) s) (payout := resetPayoutReport s)
    (s := emptyReports s) rfl rfl
  obtain ⟨r, reports⟩ : ∃ r, r = resetReports s := ⟨_, rfl⟩
  have rOnly : ChangesOnly [.freeIx, .dlk, .rpq] s r := by
    rw [reports]
    constructor <;> simp [resetReports]
  have rDlk : r.dlk.routes = s.dlk.routes ∧ r.dlk.nextTag = s.dlk.nextTag ∧ r.dlk.fastRate = s.dlk.fastRate ∧
      r.dlk.guardGap = s.dlk.guardGap := by
    rw [reports, resetReports_dlk]
    simp
  change (resetReports s).rpq.reserved = 0 at free
  change ∀ e, _ → _ ∈ (resetReports s).rpq.queue at vend
  change ∀ e, _ → _ ∈ (resetReports s).rpq.queue at payout
  unfold State.blocksReset
  rw [← reports] at free vend payout ⊢
  have spd : r.spd = s.spd := rOnly.spd.resolve_right (by decide)
  have lds : r.lds = s.lds := rOnly.lds.resolve_right (by decide)
  have cmn : r.cmn = s.cmn := rOnly.cmn.resolve_right (by decide)
  clear reports
  have lOnly : ChangesOnly [.dlk] r (resetLink r) := by constructor <;> simp
  obtain ⟨routes, tag, rate, gap, transits, exchange⟩ := resetLink_dlk r
  obtain ⟨l, link⟩ : ∃ l, l = resetLink r := ⟨_, rfl⟩
  rw [← link] at lOnly routes tag rate gap transits exchange ⊢
  clear link
  have retained := setSession_retains Crd.powerOn l
  have cOnly := setSession_only Crd.powerOn l
  have cCrd := setSession_crd Crd.powerOn l
  have cReserved : (setSession Crd.powerOn l).rpq.reserved = l.rpq.reserved := reportIf_reserved _ _ _
  obtain ⟨c, card⟩ : ∃ c, c = resetCard l := ⟨_, rfl⟩
  change c = setSession Crd.powerOn l at card
  rw [← card] at retained cOnly cCrd cReserved
  rw [show resetCard l = c from card.symm]
  clear card
  have kept : ChangesOnly [.freeIx, .crd, .dlk, .rpq] s c :=
    ((rOnly.mono (by decide)).trans (lOnly.mono (by decide))).trans (cOnly.mono (by decide))
  have cDlk : c.dlk = l.dlk := cOnly.dlk.resolve_right (by decide)
  have lRpq : l.rpq = r.rpq := lOnly.rpq.resolve_right (by decide)
  have cSpd : c.spd = s.spd := kept.spd.resolve_right (by decide)
  have cLds : c.lds = s.lds := kept.lds.resolve_right (by decide)
  have cCmn : c.cmn = s.cmn := kept.cmn.resolve_right (by decide)
  obtain ⟨rRoutes, rTag, rRate, rGap⟩ := rDlk
  have last : ChangesOnly [.spd, .lds, .mgt] c (resetMode (resetSpirals (resetLoads c))) := by constructor <;> simp
  have spirals := resetSpirals_spd (resetLoads c)
  rw [show (resetLoads c).spd = s.spd from cSpd] at spirals
  refine ⟨(kept.mono (by decide)).trans (last.mono (by decide)), ?_, ?_, by simpa using spirals, ?_, ?_, ?_, fun e is => ?_, fun e is => ?_⟩
  · show ({ mode := if (resetSpirals (resetLoads c)).cmn.supplyLow then _ else _, returnMode := _ } : Mgt) = _
    simp [cCmn]
  · simpa using cCrd
  · rw [show (resetMode (resetSpirals (resetLoads c))).lds = (resetLoads c).lds by simp]
    show ({ c.lds with claims := _, vendUnits := _, payoutUnits := _, coilUnits := _ } : Lds) = _
    rw [cLds]
  · rw [last.dlk.resolve_right (by decide), cDlk]
    exact ⟨routes.trans rRoutes, tag.trans rTag, rate.trans rRate, gap.trans rGap, transits, exchange⟩
  · rw [last.rpq.resolve_right (by decide), cReserved, lRpq, free]
  · rw [last.rpq.resolve_right (by decide)]
    exact retained.queued (by rw [lRpq]; exact vend e is)
  · rw [last.rpq.resolve_right (by decide)]
    exact retained.queued (by rw [lRpq]; exact payout e is)

/-! ## The work (R23, R59, R65, R96) -/

/-- The machine with its work ended, before the compressor files its claim again. -/
def State.workReset (s : State) : State :=
  cshRefresh (resetCash (endPayoutWith (fun _ a => a) (resetVendSettles (windowDrop s) s.blocksReset)))

/-- What the end of the work leaves. -/
structure WorkReset (s t : State) : Prop where
  only : ChangesOnly [.freeIx, .sel, .vnd, .spd, .csh, .chg, .crd, .clg, .lds, .dlk, .mgt, .rpq] s t
  ctx : t.vnd.ctx = none
  mgt : t.mgt = { mode := if s.cmn.supplyLow then .safe else .setup, returnMode := .setup }
  crd : t.crd = Crd.powerOn
  spd : t.spd = { s.spd with rowOn := none, colsOn := [], turn := none, sweep := none, lateDrop := t.spd.lateDrop }
  lds : t.lds = { s.lds with claims := [], vendUnits := 0, payoutUnits := 0, coilUnits := 0 }
  dlk : t.dlk.routes = s.dlk.routes ∧ t.dlk.nextTag = s.dlk.nextTag ∧ t.dlk.fastRate = s.dlk.fastRate ∧
    t.dlk.guardGap = s.dlk.guardGap ∧ t.dlk.transits = [] ∧ t.dlk.exchange = none
  chg : t.chg = { s.chg with payout := none, drive := t.chg.drive }
  drive : t.chg.drive = none ∨ (s.chg.payout = none ∧ t.chg.drive = s.chg.drive)
  csh : t.csh = { s.csh with
    escrow := none, gateOpen := false, diverterTube := false, credit := t.csh.credit, audit := t.csh.audit
    coinSafe := t.csh.coinSafe, billSafe := t.csh.billSafe, effMask := t.csh.effMask, exactChange := t.csh.exactChange }
  cooling : SameCooling s t
  reserved : t.rpq.reserved = 0
  vendResult : ∀ e, resetVendReport (windowDrop s) s = some e → .event e ∈ t.rpq.queue
  payoutResult : ∀ e, resetPayoutReport s = some e → .event e ∈ t.rpq.queue
  unused : s.vnd.ctx = none → t.sel.table = s.sel.table ∧ t.csh.audit = s.csh.audit
  waited : ∀ v, s.vnd.ctx = some v → v.stage = .approvalWait ∨ v.stage = .loadWait → t.sel.table = s.sel.table
  money : (∀ v, s.vnd.ctx = some v → (v.stage = .settling ↔ v.outcome.isSome)) → moneyHeld s ≤ 65535 →
    (¬DroppedIn (windowDrop s) s → t.csh.credit = moneyHeld s) ∧
    (DroppedIn (windowDrop s) s → t.csh.credit = s.csh.credit + moneyOwed s)

theorem State.workReset_reset (s : State) : WorkReset s s.workReset := by
  unfold State.workReset
  have blocks := s.blocksReset_reset
  generalize s.blocksReset = b at blocks ⊢
  have bVnd : b.vnd = s.vnd := blocks.only.vnd.resolve_right (by decide)
  have bCsh : b.csh = s.csh := blocks.only.csh.resolve_right (by decide)
  have bChg : b.chg = s.chg := blocks.only.chg.resolve_right (by decide)
  have bSel : b.sel = s.sel := blocks.only.sel.resolve_right (by decide)
  have bClg : b.clg = s.clg := blocks.only.clg.resolve_right (by decide)
  have vend := resetVendSettles_reset (windowDrop s) b
  have vOnly : ChangesOnly [.freeIx, .sel, .vnd, .csh, .clg, .rpq] b (resetVendSettles (windowDrop s) b) := by constructor <;> simp
  generalize resetVendSettles (windowDrop s) b = v at vend vOnly ⊢
  have payout := endPayoutWith_reset v
  have pOnly : ChangesOnly [.freeIx, .csh, .chg, .lds, .dlk, .rpq] v (endPayoutWith (fun _ a => a) v) := by constructor <;> simp
  generalize endPayoutWith (fun _ a => a) v = p at payout pOnly ⊢
  have cOnly : ChangesOnly [.csh, .dlk, .rpq] p (cshRefresh (resetCash p)) := by constructor <;> simp
  have flags := cshRefresh_sameAccount (resetCash p)
  have link : SameLink p (cshRefresh (resetCash p)) := (cshRefresh_sameLink (resetCash p)).of_dlk rfl
  have cReserved : (cshRefresh (resetCash p)).rpq.reserved = p.rpq.reserved := by
    simp [cshRefresh, reportIf_reserved]
  have cRetains : Retains p (cshRefresh (resetCash p)) := (cshRefresh_retains (resetCash p)).from rfl rfl rfl
  generalize cshRefresh (resetCash p) = c at *
  unfold SameAccount at flags
  rw [show (resetCash p).csh = { p.csh with escrow := none, gateOpen := false, diverterTube := false } from rfl] at flags
  have vDlk : v.dlk = b.dlk := vOnly.dlk.resolve_right (by decide)
  have vLds : v.lds = b.lds := vOnly.lds.resolve_right (by decide)
  have vChg : v.chg = s.chg := (vOnly.chg.resolve_right (by decide)).trans bChg
  have pLds : p.lds = v.lds := payout.lds (by rw [vLds, blocks.lds]) (by rw [vLds, blocks.lds])
  have credit : c.csh.credit = p.csh.credit := by rw [flags]
  have audit : c.csh.audit = v.csh.audit := by
    rw [flags]
    exact congrArg (·.audit) payout.books
  have table : c.sel.table = v.sel.table := by rw [cOnly.sel.resolve_right (by decide), pOnly.sel.resolve_right (by decide)]
  have spd : c.spd = b.spd := by
    rw [cOnly.spd.resolve_right (by decide), pOnly.spd.resolve_right (by decide), vOnly.spd.resolve_right (by decide)]
  have chg : c.chg = p.chg := cOnly.chg.resolve_right (by decide)
  have retained : Retains b c := (vend.retains.trans payout.retains).trans cRetains
  have account : p.csh = { s.csh with
      credit := p.csh.credit, audit := p.csh.audit, coinSafe := p.csh.coinSafe, billSafe := p.csh.billSafe
      effMask := p.csh.effMask, exactChange := p.csh.exactChange } := by
    have books := payout.books
    unfold SameBooks at books
    rw [books, vend.csh, bCsh]
  refine ⟨?_, ?_, ?_, ?_, by rw [spd]; exact blocks.spd, ?_, ?_, ?_, ?_, ?_, ?_, ?_, fun e is => retained.queued (blocks.vendResult e is),
    fun e is => retained.queued (blocks.payoutResult e is), fun none => ?_, fun w some waits => ?_, fun ended range => ?_⟩
  · exact (((blocks.only.mono (by decide)).trans (vOnly.mono (by decide))).trans (pOnly.mono (by decide))).trans (cOnly.mono (by decide))
  · rw [cOnly.vnd.resolve_right (by decide), pOnly.vnd.resolve_right (by decide)]
    exact vend.ctx
  · rw [cOnly.mgt.resolve_right (by decide), pOnly.mgt.resolve_right (by decide), vOnly.mgt.resolve_right (by decide)]
    exact blocks.mgt
  · rw [cOnly.crd.resolve_right (by decide), pOnly.crd.resolve_right (by decide), vOnly.crd.resolve_right (by decide)]
    exact blocks.crd
  · rw [cOnly.lds.resolve_right (by decide), pLds, vLds]
    exact blocks.lds
  · have whole := payout.link.trans link
    unfold SameLink at whole
    rw [whole, vDlk]
    exact blocks.dlk
  · rw [chg, payout.chg, vChg]
  · rw [chg]
    exact payout.drive.imp id fun idle => ⟨vChg ▸ idle.1, idle.2.trans (by rw [vChg])⟩
  · rw [flags, account]
  · have same := vend.cooling.of_clg bClg
    unfold SameCooling at same ⊢
    rwa [cOnly.clg.resolve_right (by decide), pOnly.clg.resolve_right (by decide)]
  · rw [cReserved, payout.reserved, vend.reserved, blocks.reserved]
  · rw [table, audit, ← bSel, ← bCsh]
    exact vend.unused (by rw [bVnd]; exact none)
  · rw [table, ← bSel]
    exact vend.waited w (by rw [bVnd]; exact some) waits
  · have held : heldPrice b = heldPrice s := heldPrice_congr bVnd
    have owed : moneyOwed v = moneyOwed s := moneyOwed_congr (by rw [vChg])
    have paid := payout.money
    have drops : DroppedIn (windowDrop s) b ↔ DroppedIn (windowDrop s) s := by unfold DroppedIn; rw [bVnd]
    have kept := vend.paid (by rw [bVnd]; exact ended)
    have returned := vend.unpaid (by rw [bVnd]; exact ended)
    rw [drops, bCsh] at kept
    rw [drops, bCsh, held] at returned
    rw [owed] at paid
    rw [credit]
    unfold moneyHeld at range ⊢
    refine ⟨fun lost => ?_, fun dropped => ?_⟩
    · have back := returned lost (by omega)
      rw [paid (by omega), back]
    · have stays := kept dropped
      rw [paid (by omega), stays]

/-! ## The compressor's claim (R128, R138, log entry 41) -/

/-- The start claim that the compressor files again. -/
def State.startClaim (s : State) : Claim := ⟨.compressor, 4, s.now, false⟩

/-- What the compressor's claim, filed again alone, makes of the machine. -/
structure StartRefiled (s t : State) : Prop where
  only : ChangesOnly [.clg, .lds, .rpq] s t
  lds : t.lds = { s.lds with claims := t.lds.claims, compUnits := t.lds.compUnits }
  reserved : t.rpq.reserved = s.rpq.reserved
  retains : Retains s t
  kept : t.clg.settings = s.clg.settings ∧ t.clg.points = s.clg.points ∧ t.clg.hold = s.clg.hold
  rests : s.clg.comp ≠ .waitSupply → s.clg.comp ≠ .blindOn ∨ s.clg.contactor = true → t = s
  waits : s.clg.comp = .waitSupply → 0 < s.lds.compUnits → t.clg = s.clg ∧ t.lds.claims = [s.startClaim]
  starts : s.clg.comp = .waitSupply → s.lds.compUnits = 0 → s.mgt.mode ≠ .safe →
    t.clg.comp = .start ∧ t.clg.contactor = true ∧ t.clg.startedAt = s.now ∧ t.lds.compUnits = 4 ∧ t.lds.claims = []

theorem refileStart_refiled {s : State} (none : s.lds.claims = [])
    (idle : s.lds.vendUnits = 0 ∧ s.lds.payoutUnits = 0 ∧ s.lds.coilUnits = 0) :
    StartRefiled s (evaluateClaims (refileStart s)) := by
  obtain ⟨vendIdle, payoutIdle, coilIdle⟩ := idle
  have kept : (evaluateClaims (refileStart s)).clg.settings = s.clg.settings ∧
      (evaluateClaims (refileStart s)).clg.points = s.clg.points ∧ (evaluateClaims (refileStart s)).clg.hold = s.clg.hold := by simp
  have units : unitsGranted s = s.lds.compUnits := by
    unfold unitsGranted
    omega
  by_cases wanted : s.clg.comp = .waitSupply ∨ (s.clg.comp = .blindOn ∧ s.clg.contactor = false)
  · rw [refileStart, if_pos wanted] at kept ⊢
    have alone : (fileStart s).lds.claims = [s.startClaim] := by
      rw [fileStart_claims (by simp [none]), none]
      rfl
    have filed : (fileStart s).lds = { s.lds with claims := [s.startClaim] } := by rw [← alone]; rfl
    have filedOnly : ChangesOnly [.lds] s (fileStart s) := by constructor <;> simp
    have clg : (fileStart s).clg = s.clg := filedOnly.clg.resolve_right (by decide)
    have rests (still : s.clg.comp ≠ .waitSupply) (drives : s.clg.comp ≠ .blindOn ∨ s.clg.contactor = true) {t : State} : t = s :=
      (wanted.elim still fun blind => drives.elim (absurd blind.1 ·) fun on => by simp [on] at blind).elim
    by_cases granted : s.mgt.mode ≠ .safe ∧ s.lds.compUnits = 0
    · obtain ⟨awake, free⟩ := granted
      rw [evaluateClaims_startGranted alone awake (by rw [fileStart_units, units, free])] at kept ⊢
      obtain ⟨u, unclaimed⟩ : ∃ u : State, u = { fileStart s with lds := { (fileStart s).lds with claims := [] } } := ⟨_, rfl⟩
      rw [← unclaimed] at kept ⊢
      have uOnly : ChangesOnly [.lds] s u := by rw [unclaimed]; constructor <;> simp
      have uLds : u.lds = { s.lds with claims := [] } := by rw [unclaimed]; rfl
      have uRpq : u.rpq = s.rpq := uOnly.rpq.resolve_right (by decide)
      have uDlk : u.dlk = s.dlk := uOnly.dlk.resolve_right (by decide)
      have uNow : u.now = s.now := uOnly.now.resolve_right (by decide)
      have uClg : u.clg = s.clg := uOnly.clg.resolve_right (by decide)
      clear unclaimed
      obtain ⟨lds, contactor, started, comp, only⟩ := startCompressor_spec u
      have reserved : (startCompressor u).rpq.reserved = s.rpq.reserved := by
        rw [← uRpq]
        obtain slots | ⟨had, none', -⟩ := startCompressor_slots u
        · exact slots.2
        · rw [only.chg.resolve_right (by decide)] at none'
          simp [none'] at had
      refine ⟨(uOnly.mono (by decide)).trans (only.mono (by decide)), by rw [lds, uLds], reserved,
        (startCompressor_retains u).from (by rw [uRpq]) (by rw [uRpq]) (by rw [uDlk]), kept,
        fun still drives => rests still drives, fun _ busy => absurd free (by omega), fun supply _ _ => ?_⟩
      rw [uClg, if_neg (by rw [supply]; decide)] at comp
      exact ⟨comp, contactor, started.trans uNow, by rw [lds], by rw [lds, uLds]⟩
    · have waits : evaluateClaims (fileStart s) = fileStart s := by
        by_cases safe : s.mgt.mode = .safe
        · exact evaluateClaims_safe (by simpa using safe)
        · exact evaluateClaims_startWaits alone
            (by rw [fileStart_units, units]; exact Nat.pos_of_ne_zero fun free => granted ⟨safe, free⟩)
      rw [waits] at kept ⊢
      exact ⟨filedOnly.mono (by decide), by rw [filed], rfl, retains_same rfl rfl rfl, kept, fun still drives => rests still drives,
        fun _ _ => ⟨clg, alone⟩, fun _ free awake => absurd ⟨awake, free⟩ granted⟩
  · rw [refileStart, if_neg wanted, evaluateClaims_nil none]
    exact ⟨.refl _ s, rfl, rfl, .refl s, ⟨rfl, rfl, rfl⟩, fun _ _ => rfl, fun supply => absurd (.inl supply) wanted,
      fun supply => absurd (.inl supply) wanted⟩

theorem windowDrop_any (s : State) : windowDrop s = s.spd.turn.any (fun w => w.dropSeen) := by
  unfold windowDrop
  cases s.spd.turn <;> rfl

end Sys2Proof.Machine
end

section
/-! PROOF. The management reset (R187 and the rules it cites). -/

namespace Sys2Proof.Machine

/-- Settles O56: the results stand in the emptied queue, each block's work ends, and the compressor alone may file a claim again. -/
theorem managementResetEndsTheWork : Obligations.ManagementResetEndsTheWork := by
  intro src s h
  obtain ⟨t, named⟩ : ∃ t, t = deliver src kReset (noParams resetCommand []) s := ⟨_, rfl⟩
  refine ⟨t, congrArg Host.Outcome.next named.symm, ?_⟩
  have work := s.taken.workReset_reset
  have start := refileStart_refiled (s := s.taken.workReset) (by rw [work.lds]) (by rw [work.lds]; exact ⟨rfl, rfl, rfl⟩)
  have resets : evaluateClaims (refileStart s.taken.workReset) = managementReset s.taken := rfl
  rw [resets] at start
  have ulk : (managementReset s.taken).ulk = s.taken.ulk := by simp
  obtain ⟨answered, beside⟩ : AnsweredAfter src kReset (okAnswer []) s (managementReset s.taken) t := by
    rw [named]
    exact deliver_acted src kReset _ h (noParams_nil _ _) ulk
  clear named resets ulk
  obtain ⟨ended, endedIs⟩ : ∃ w, w = s.taken.workReset := ⟨_, rfl⟩
  obtain ⟨u, resetIs⟩ : ∃ u, u = managementReset s.taken := ⟨_, rfl⟩
  rw [← endedIs] at work start
  rw [← resetIs] at start beside
  clear endedIs resetIs
  have tVnd : t.vnd = ended.vnd := by rw [beside]; exact start.only.vnd.resolve_right (by decide)
  have tSpd : t.spd = ended.spd := by rw [beside]; exact start.only.spd.resolve_right (by decide)
  have tCsh : t.csh = ended.csh := by rw [beside]; exact start.only.csh.resolve_right (by decide)
  have tChg : t.chg = ended.chg := by rw [beside]; exact start.only.chg.resolve_right (by decide)
  have tDlk : t.dlk = ended.dlk := by rw [beside]; exact start.only.dlk.resolve_right (by decide)
  have tSel : t.sel = ended.sel := by rw [beside]; exact start.only.sel.resolve_right (by decide)
  have tClg : t.clg = u.clg := by rw [beside]
  have tLds : t.lds = u.lds := by rw [beside]
  have tRpq : t.rpq = u.rpq := by rw [beside]
  have now : ended.now = s.now := work.only.now.resolve_right (by decide)
  have cooling := work.cooling
  unfold SameCooling at cooling
  have settings : u.clg.settings = s.clg.settings ∧ u.clg.points = s.clg.points ∧ u.clg.hold = s.clg.hold := by
    obtain ⟨settings, points, hold⟩ := start.kept
    rw [settings, points, hold, cooling]
    exact ⟨rfl, rfl, rfl⟩
  obtain ⟨routes, tag, rate, gap, transits, exchange⟩ := work.dlk
  refine ⟨answered, ?_, ?_, ?_, ?_, by rw [tVnd]; exact work.ctx, by rw [tSpd, work.spd], by rw [tSpd, work.spd],
    by rw [tSpd, work.spd], by rw [tSpd, work.spd], by rw [tChg, work.chg], by rw [tCsh, work.csh], by rw [tCsh, work.csh], ?_,
    by rw [tDlk]; exact transits, by rw [tDlk]; exact exchange, by rw [tRpq, start.reserved, work.reserved],
    by rw [tDlk]; exact routes, by rw [tDlk]; exact tag, ?_, ?_, ?_, by rw [tSpd, work.spd]; rfl, by rw [tCsh, work.csh]; rfl,
    by rw [tCsh, work.csh]; rfl, by rw [tCsh, work.csh]; rfl, by rw [tCsh, work.csh]; rfl, by rw [tChg, work.chg]; rfl,
    by rw [tClg]; exact settings.1, by rw [tClg]; exact settings.2.1, by rw [tClg]; exact settings.2.2,
    by rw [tSpd, work.spd]; rfl, by rw [tCsh, work.csh]; rfl, by rw [tCsh, work.csh]; rfl, by rw [tSpd, work.spd]; rfl,
    by rw [tDlk]; exact rate, by rw [tDlk]; exact gap, fun owned => ?_, fun still drives => ?_, fun supply busy => ?_,
    fun supply free good => ?_, fun none => ?_, fun ended' range => ?_, fun v some waits => ?_, fun p some => ?_⟩
  · rw [beside]
    exact (start.only.now.resolve_right (by decide)).trans now
  · rw [beside]
    exact (start.only.pending.resolve_right (by decide)).trans (work.only.pending.resolve_right (by decide))
  · rw [beside]
    exact (start.only.cmn.resolve_right (by decide)).trans (work.only.cmn.resolve_right (by decide))
  · rw [beside]
    exact (start.only.mgt.resolve_right (by decide)).trans work.mgt
  · rw [beside]
    exact (start.only.crd.resolve_right (by decide)).trans work.crd
  · rw [tLds, start.lds, work.lds]
  · rw [tLds, start.lds, work.lds]
  · rw [tLds, start.lds, work.lds]
  · rw [tChg]
    obtain off | ⟨idle, same⟩ := work.drive
    · exact off
    · rw [same]
      by_contra on
      have := owned (Option.isSome_iff_ne_none.mpr on)
      simp [show s.chg.payout = none from idle] at this
  · have same : u = ended := start.rests (by rw [cooling]; exact still) (by rw [cooling]; exact drives)
    rw [tClg, tLds, same]
    exact ⟨cooling, by rw [work.lds]; rfl, by rw [work.lds]⟩
  · obtain ⟨clg, claims⟩ := start.waits (by rw [cooling]; exact supply) (by rw [work.lds]; exact busy)
    rw [tClg, tLds, clg]
    refine ⟨cooling, claims.trans ?_⟩
    rw [State.startClaim, now]
  · obtain ⟨comp, contactor, started, units, claims⟩ := start.starts (by rw [cooling]; exact supply) (by rw [work.lds]; exact free)
      (by rw [work.mgt, show s.taken.cmn.supplyLow = false from good]; decide)
    rw [tClg, tLds]
    exact ⟨comp, contactor, started.trans now, units, claims⟩
  · rw [tSel, tCsh]
    exact work.unused none
  · have dropped : DroppedIn (windowDrop s.taken) s.taken ↔ ∃ v, s.vnd.ctx = some v ∧ (v.stage = .turn1 ∨ v.stage = .turn2) ∧
        (v.dropSeen = true ∨ s.spd.turn.any (fun w => w.dropSeen) = true) := by
      rw [DroppedIn, windowDrop_any]
      rfl
    have money := work.money ended' range
    rw [dropped] at money
    rw [tCsh]
    exact money
  · rw [tSel, tRpq]
    refine ⟨work.waited v some waits, start.retains.queued (work.vendResult _ ?_)⟩
    show s.vnd.ctx.map _ = _
    rw [some]
    obtain stage | stage := waits
    · simp [resetVend, stage, vendReport]
    · simp [resetVend, stage, vendReport]
  · rw [tRpq]
    refine start.retains.queued (work.payoutResult _ ?_)
    show s.chg.payout.map _ = _
    rw [some]
    rfl

end Sys2Proof.Machine
end

section
/-! SUPPORT. The entry to SAFE, part by part (R22, R96, R106, R128, R141, R144). -/

namespace Sys2Proof.Machine

/-! ## The vend (R18 to R22, R105, R106) -/

/-- The context of a vend that an interruption finds in its turn, with the drop its turn record holds. -/
def VendCtx.dropping (drop : Bool) (v : VendCtx) : VendCtx := { v with dropSeen := v.dropSeen || drop }

theorem VendCtx.dropping_delivered (drop : Bool) (v : VendCtx) :
    (v.dropping drop).delivered .interrupted = (v.dropSeen || drop) := rfl

theorem turning_iff (g : Stage) : g.turning = true ↔ g = .turn1 ∨ g = .turn2 := by
  cases g <;> simp [Stage.turning]

theorem interruptVend_turning {drop : Bool} {v : VendCtx} {s : State} (ctx : s.vnd.ctx = some v)
    (turns : v.stage = .turn1 ∨ v.stage = .turn2) :
    interruptVend drop s = settle .interrupted false false { s with vnd := ⟨some (v.dropping drop)⟩ } := by
  unfold interruptVend
  rw [ctx]
  exact if_pos ((turning_iff _).mpr turns)

theorem interruptVend_still {drop : Bool} {s : State} (still : ∀ v, s.vnd.ctx = some v → ¬(v.stage = .turn1 ∨ v.stage = .turn2)) :
    interruptVend drop s = s := by
  unfold interruptVend
  split
  · next v ctx => exact if_neg fun turns => still v ctx ((turning_iff _).mp turns)
  · rfl

/-- In SAFE a settlement gives back nothing, and no slot goes before the vend's own. -/
theorem vendSettles_reserved {o : VendOutcome} {jam : Bool} {v : VendCtx} {s : State} (safe : s.mgt.mode = .safe)
    (claims : s.lds.claims = []) (units : s.lds.vendUnits = 0) : (s.vendSettles o jam v).rpq.reserved = s.rpq.reserved := by
  unfold State.vendSettles
  rw [releaseVend_safe safe claims units]
  exact (outcomeStored_stored o jam v s).reserved

theorem VendSettles.told {o : VendOutcome} {jam : Bool} {v : VendCtx} {s u : State} (h : VendSettles o jam v s u) (informed : Bool)
    (slot : 1 ≤ u.rpq.reserved) : .event (vendReport v o informed) ∈ (finishVend informed u).rpq.queue :=
  (finishVend_finished (v := v.settled o) (by rw [h.vnd]) informed).report slot

/-- R19: the money of a vend that an outcome settles. -/
theorem VendSettles.accounted {o : VendOutcome} {jam : Bool} {v : VendCtx} {s u : State} (h : VendSettles o jam v s u)
    (open_ : v.outcome = none) (range : moneyHeld s ≤ 65535) :
    moneyHeld u + (if v.delivered o = true ∧ v.payment = .cash then v.price else 0) = moneyHeld s := by
  by_cases delivered : v.delivered o = true
  · simpa [delivered] using h.spent open_ delivered range
  · simpa [delivered] using h.lost open_ (Bool.eq_false_iff.mpr delivered) range

/-- What the interruption of the vend `v` leaves in SAFE. -/
structure VendInterrupted (drop : Bool) (v : VendCtx) (s t : State) : Prop where
  gone : v.payment ≠ .card → t.vnd.ctx = none
  table : t.sel.table = tset s.sel.table v.selection (outcomeEntry .interrupted false (v.dropping drop) (selOf s v.selection))
  audit : t.csh.audit = if v.dropSeen || drop then auditDelivery v s.csh.audit else s.csh.audit
  money : v.outcome = none → moneyHeld s ≤ 65535 →
    moneyHeld t + (if (v.dropSeen || drop) = true ∧ v.payment = .cash then v.price else 0) = moneyHeld s
  told : v.payment ≠ .card → 1 ≤ s.rpq.reserved →
    .event (.vendResult v.selection v.payment .interrupted v.price none (some (v.dropSeen || drop))) ∈ t.rpq.queue
  owed : v.payment = .card → s.crd.state = .vending → ∀ n r, entryOf .card s = some (n, r) → r.presence = .present →
    s.dlk.own.length < 3 →
    t.vnd.ctx = some { v with dropSeen := v.dropSeen || drop, stage := .settling, outcome := some .interrupted } ∧
    t.crd = { s.crd with
      deadline := none
      owed := some { success := v.dropSeen || drop, price := v.price, selection := v.selection, vendLink := true } } ∧
    ⟨r.base, .vendResult (v.dropSeen || drop) v.price v.selection⟩ ∈ t.dlk.own
  unheard : v.payment = .card → s.crd.state = .none → t.vnd.ctx = none ∧ (1 ≤ s.rpq.reserved →
    .event (.vendResult v.selection .card .interrupted v.price (some false) (some (v.dropSeen || drop))) ∈ t.rpq.queue)

theorem settle_interrupted {drop : Bool} {v : VendCtx} {s a : State} (open_ : s.vnd.ctx = some v) (safe : s.mgt.mode = .safe)
    (claims : s.lds.claims = []) (units : s.lds.vendUnits = 0) (found : a = { s with vnd := ⟨some (v.dropping drop)⟩ }) :
    VendInterrupted drop v s (settle .interrupted false false a) := by
  have ctx : a.vnd.ctx = some (v.dropping drop) := by rw [found]
  have sel : a.sel = s.sel := by rw [found]
  have csh : a.csh = s.csh := by rw [found]
  have crd : a.crd = s.crd := by rw [found]
  have dlk : a.dlk = s.dlk := by rw [found]
  have money : moneyHeld a = moneyHeld s := by
    have price : heldPrice a = heldPrice s := by
      rw [heldPrice_some ctx, heldPrice_some open_]
      rfl
    have owed : moneyOwed a = moneyOwed s := moneyOwed_congr (by rw [found])
    rw [moneyHeld, csh, price, owed, moneyHeld]
  have settles := vendSettles_settles ctx .interrupted false
  have reserved : (a.vendSettles .interrupted false (v.dropping drop)).rpq.reserved = s.rpq.reserved := by
    rw [vendSettles_reserved (by rw [found]; exact safe) (by rw [found]; exact claims) (by rw [found]; exact units), found]
  have eq := settle_eq ctx .interrupted false false
  obtain ⟨w, settles', after⟩ := settle_aftermath ctx (o := .interrupted) false false
  have free : heldPrice w = 0 := by
    rw [heldPrice_some (v := (v.dropping drop).settled .interrupted) (by rw [settles'.vnd])]
    exact if_neg fun held => by cases held.2
  refine ⟨fun plain => (settle_ended ctx (.inl plain) false false).ctx, ?_, ?_, fun fresh range => ?_, fun plain slot => ?_,
    fun card vending n r entry present room => ?_, fun card gone => ?_⟩
  · rw [after.sel, settles'.table, selOf, sel, selOf]
    rfl
  · rw [after.books, settles'.audit, csh]
    rfl
  · have accounted := settles'.accounted fresh (by rw [money]; exact range)
    rw [VendCtx.dropping_delivered, money] at accounted
    rw [after.money free (by omega)]
    exact accounted
  · rw [eq, if_neg fun card => plain card.1]
    have told := settles.told false (by rw [reserved]; exact slot)
    unfold vendReport at told
    rw [if_neg (show ¬(v.dropping drop).payment = .card from plain), if_pos rfl] at told
    exact told
  · obtain ⟨u, settled, handed⟩ := settle_owed (o := .interrupted) ctx card (by decide) (.inr (by rw [crd]; exact vending))
      (by rw [← entry]; unfold entryOf; rw [dlk]) present (by rw [dlk]; exact room) false false
    refine ⟨?_, ?_, ?_⟩
    · rw [handed.only.vnd.resolve_right (by decide), settled.vnd]
      rfl
    · rw [handed.crd, settled.crd, crd, ← vending]
      rfl
    · rw [handed.dlk]
      exact List.mem_append_right _ (List.mem_singleton_self _)
  · have ends := settle_unheard (o := .interrupted) ctx (by rw [crd]; exact gone) card (by decide) false false
    refine ⟨ends.ctx, fun slot => ?_⟩
    have asked : requestResult ((v.dropping drop).delivered .interrupted) (v.dropping drop)
        (a.vendSettles .interrupted false (v.dropping drop)) =
          finishVend false (a.vendSettles .interrupted false (v.dropping drop)) := by
      unfold requestResult
      rw [settles.crd, crd, gone]
    rw [eq, if_pos ⟨card, by decide⟩, asked]
    have told := settles.told false (by rw [reserved]; exact slot)
    unfold vendReport at told
    rw [if_pos (show (v.dropping drop).payment = .card from card), if_pos rfl, show (v.dropping drop).payment = .card from card] at told
    exact told

theorem interruptVend_interrupted {drop : Bool} {v : VendCtx} {s : State} (ctx : s.vnd.ctx = some v)
    (turns : v.stage = .turn1 ∨ v.stage = .turn2) (safe : s.mgt.mode = .safe) (claims : s.lds.claims = [])
    (units : s.lds.vendUnits = 0) : VendInterrupted drop v s (interruptVend drop s) := by
  rw [interruptVend_turning ctx turns]
  exact settle_interrupted ctx safe claims units rfl

/-! ## The payout, the compressor and what follows the mode (R68, R96, R110, R128, R173) -/

/-- What the entry to SAFE leaves once the vend is settled in `s`. -/
structure SafeFollows (s t : State) : Prop where
  only : ChangesOnly [.freeIx, .csh, .chg, .crd, .clg, .lds, .dlk, .rpq] s t
  books : SameBooks s t
  money : moneyHeld s ≤ 65535 → moneyHeld t = moneyHeld s
  session : s.crd.state ≠ .opened → t.crd = s.crd
  retains : Retains s t
  cut : ∀ p, s.chg.payout = some p → p.paying = true → p.window.isSome →
    t.chg.payout = some { p with pulse := none, cut := true }
  ended : ∀ p, s.chg.payout = some p → p.paying = false ∨ p.window = none → t.chg.payout = none
  comp : t.clg.comp = if s.clg.comp = .disabled then .disabled else .guard
  refuses : ∀ i, tget t.csh.effMask false i = false

/-- The payout's part, from one state to the next. -/
structure PayoutCut (s t : State) : Prop where
  only : ChangesOnly [.freeIx, .csh, .chg, .lds, .dlk, .rpq] s t
  books : SameBooks s t
  money : moneyHeld s ≤ 65535 → moneyHeld t = moneyHeld s
  cut : ∀ p, s.chg.payout = some p → p.paying = true → p.window.isSome →
    t.chg.payout = some { p with pulse := none, cut := true }
  ended : ∀ p, s.chg.payout = some p → p.paying = false ∨ p.window = none → t.chg.payout = none

theorem cutPayout_cut (s : State) : PayoutCut s (cutPayout s) := by
  have only : ChangesOnly [.freeIx, .csh, .chg, .lds, .dlk, .rpq] s (cutPayout s) := by constructor <;> simp
  cases payout : s.chg.payout with
  | none =>
    have same : cutPayout s = s := by unfold cutPayout; rw [payout]
    rw [same]
    exact ⟨.refl _ s, .refl s, fun _ => rfl, fun p some => by simp [payout] at some, fun p some => by simp [payout] at some⟩
  | some p =>
    have own {q : Payout} (some : s.chg.payout = some q) : q = p := (Option.some.inj (payout.symm.trans some)).symm
    by_cases runs : p.paying = true ∧ p.window.isSome = true
    · have stays : cutPayout s = { s with chg := { s.chg with drive := none, payout := some { p with pulse := none, cut := true } } } := by
        unfold cutPayout
        rw [payout]
        exact if_pos runs
      rw [stays] at only ⊢
      have owed : moneyOwed { s with chg := { s.chg with drive := none, payout := some { p with pulse := none, cut := true } } } =
          moneyOwed s := by
        simp only [moneyOwed, payout]
        rfl
      refine ⟨only, rfl, fun _ => ?_, fun q some _ _ => by rw [own some], fun q some idle => ?_⟩
      · rw [moneyHeld, owed]
        rfl
      · rw [own some] at idle
        obtain ⟨paying, window⟩ := runs
        obtain off | shut := idle
        · simp [paying] at off
        · simp [shut] at window
    · have ends : cutPayout s = endPayout s := by
        unfold cutPayout
        rw [payout]
        exact if_neg runs
      rw [ends] at only ⊢
      refine ⟨only, endPayout_books s, endPayout_money, fun q some paying window => ?_, fun q some idle => by rw [endPayout_chg]⟩
      rw [own some] at paying window
      exact absurd ⟨paying, window⟩ runs

theorem coolingEntersSafe_comp (s : State) :
    (coolingEntersSafe s).clg.comp = if s.clg.comp = .disabled then .disabled else .guard := by
  unfold coolingEntersSafe
  split
  · next off => exact off
  · exact setComp_comp _ _

theorem modeFollows_session {before s : State} (closed : s.crd.state ≠ .opened) : (modeFollows before s).crd = s.crd := by
  have settled : (settleCash before s).crd = s.crd := by simp
  unfold modeFollows
  dsimp only
  split
  · have kept : sessionLeavesOnline (settleCash before s) = settleCash before s := if_neg (by rw [settled]; exact closed)
    rw [kept]
    simp
  · exact settled

theorem safe_follows {before s : State} (awake : before.mgt.mode ≠ .safe) (safe : s.mgt.mode = .safe) :
    SafeFollows s (modeFollows before (coolingEntersSafe (cutPayout s))) := by
  have cut := cutPayout_cut s
  have cutRetains := cutPayout_retains s
  generalize cutPayout s = c at cut cutRetains ⊢
  have cool : ChangesOnly [.clg, .rpq] c (coolingEntersSafe c) := by constructor <;> simp
  have coolRetains := coolingEntersSafe_retains c
  have comp := coolingEntersSafe_comp c
  generalize coolingEntersSafe c = e at cool coolRetains comp ⊢
  have mode : e.mgt.mode = .safe := by
    rw [cool.mgt.resolve_right (by decide), cut.only.mgt.resolve_right (by decide)]
    exact safe
  have moved : before.mgt.mode ≠ e.mgt.mode := by rw [mode]; exact awake
  have csh := modeFollows_csh moved
  have only := modeFollows_only before e
  have account : SameBooks e (modeFollows before e) := by
    have same := (cshRefresh_sameAccount e).books
    unfold SameBooks at same ⊢
    rwa [csh]
  have kept : (modeFollows before e).csh.credit = e.csh.credit := by rw [csh]; simp
  have session := modeFollows_session (before := before) (s := e)
  have retains := modeFollows_retains before e
  have refuses (i : Nat) : tget (modeFollows before e).csh.effMask false i = false := by
    rw [csh]
    exact cshRefresh_effMask_offline (by rw [mode]; decide) i
  generalize modeFollows before e = t at *
  have eCsh : e.csh = c.csh := cool.csh.resolve_right (by decide)
  have eVnd : e.vnd = c.vnd := cool.vnd.resolve_right (by decide)
  have eChg : e.chg = c.chg := cool.chg.resolve_right (by decide)
  have tChg : t.chg = c.chg := (only.chg.resolve_right (by decide)).trans eChg
  have eCrd : e.crd = s.crd := by rw [cool.crd.resolve_right (by decide), cut.only.crd.resolve_right (by decide)]
  refine ⟨((cut.only.mono (by decide)).trans (cool.mono (by decide))).trans (only.mono (by decide)),
    (cut.books.trans (sameBooks_of_csh eCsh)).trans account, fun range => ?_, fun closed => ?_,
    (cutRetains.trans coolRetains).trans retains, by rw [tChg]; exact cut.cut, by rw [tChg]; exact cut.ended, ?_, refuses⟩
  · rw [moneyHeld_congr kept (only.vnd.resolve_right (by decide)) (by rw [tChg, eChg]),
      moneyHeld_congr (by rw [eCsh]) eVnd (by rw [eChg])]
    exact cut.money range
  · rw [session (by rw [eCrd]; exact closed), eCrd]
  · rw [only.clg.resolve_right (by decide), comp, cut.only.clg.resolve_right (by decide)]

/-- The state that the fourth low sample leaves, before the mode follows it. -/
def State.supplyFound (volts : Nat) (s : State) : State :=
  let s1 := supplySampled volts (s.upTo s.cmn.nextSupply)
  report .supply { s1 with cmn := { s1.cmn with supplyLow := true, brownouts := satAdd 255 s1.cmn.brownouts 1 } }

theorem State.supplyFound_cmn {volts : Nat} {s : State} (low : volts < 190) : (s.supplyFound volts).cmn = { s.cmn with
    supplyLow := true, brownouts := min 255 (s.cmn.brownouts + 1), volts := volts, lowRun := min 4 (s.cmn.lowRun + 1)
    goodRun := 0, nextSupply := s.cmn.nextSupply + ms 10 } := by
  have bad : ¬215 ≤ volts := by omega
  simp [State.supplyFound, supplySampled, State.upTo, low, bad, satAdd]

theorem State.supplyFound_only (volts : Nat) (s : State) : ChangesOnly [.now, .cmn, .rpq] s (s.supplyFound volts) := by
  constructor <;> simp [State.supplyFound, supplySampled, State.upTo]

theorem execSupplyLow_eq {volts : Nat} {s : State} (good : s.cmn.supplyLow = false) (low : volts < 190) (run : 3 ≤ s.cmn.lowRun) :
    exec (.supplyLow volts) s = .next (enterSafe (s.supplyFound volts)) :=
  if_pos (by simp [completesLow, good, low, run])

/-- The parts that the stop of everything driven leaves. -/
theorem State.safeDrivers_only (s : State) : ChangesOnly [.spd, .lds, .mgt] s s.safeDrivers := by
  unfold State.safeDrivers
  constructor <;> simp [dropAllGrants]

theorem State.safeDrivers_mgt (s : State) : s.safeDrivers.mgt = { mode := .safe, returnMode := s.mgt.mode.toReturn } := by
  unfold State.safeDrivers
  simp [dropAllGrants]

/-- R141, R144: with its owners, nothing is driven in SAFE. -/
theorem sleeps_undriven {f t : State} (h : Sleeps f.vitals t.vitals) (owned : DrivesOwned f)
    (covered : f.clg.comp = .disabled → f.clg.contactor = false) : NothingDriven t := by
  obtain ⟨matrix, driven⟩ := owned
  have off : t.spd.rowOn = none ∧ t.spd.colsOn = [] := by
    obtain off | ⟨row, cols, turn, check⟩ := h.drivers
    · exact off
    · have idle : ¬(f.spd.rowOn.isSome ∨ f.spd.colsOn ≠ []) := fun on => by
        obtain ⟨w, before, -⟩ | ⟨x, since, before, energized⟩ := matrix on
        · exact nomatch before.symm.trans turn
        · exact check x since before energized
      obtain ⟨rowOff, colsOff⟩ := not_or.mp idle
      exact ⟨row.trans (Option.not_isSome_iff_eq_none.mp rowOff), cols.trans (not_not.mp colsOff)⟩
  have undriven : t.chg.drive = none := by
    obtain none | ⟨same, gone⟩ := h.drive
    · exact none
    · by_contra on
      have has := driven (Option.isSome_iff_ne_none.mpr fun none => on (same.trans none))
      rw [show f.chg.payout = none from gone] at has
      cases has
  have stopped : t.clg.contactor = false := by
    obtain ⟨disabled, -, same⟩ | ⟨-, open_⟩ := h.comp
    · exact same.trans (covered disabled)
    · exact open_
  exact ⟨off.1, off.2, undriven, stopped⟩

end Sys2Proof.Machine
end

section
/-! PROOF. The entry to SAFE (R22, R37, R96, R128, R141, R143, R144). -/

namespace Sys2Proof.Machine

/-- Settles O44: the entry to SAFE, part by part. -/
theorem aLowSupplyMakesTheMachineSafe : Obligations.ALowSupplyMakesTheMachineSafe := by
  intro volts s good low run awake owned covered
  obtain ⟨f, found⟩ : ∃ f, f = s.supplyFound volts := ⟨_, rfl⟩
  have fOnly : ChangesOnly [.now, .cmn, .rpq] s f := by rw [found]; exact s.supplyFound_only volts
  have fCmn := s.supplyFound_cmn low
  have fReported : Reported .supply f := by rw [found]; exact report_reported _ _
  have fNow : f.now = max s.now s.cmn.nextSupply := by
    rw [found]
    simp [State.supplyFound, supplySampled, State.upTo]
  have fReserved : f.rpq.reserved = s.rpq.reserved := by
    rw [found]
    exact (report_rpq _ _).1
  have enters := execSupplyLow_eq good low run
  rw [← found] at fCmn enters
  clear found
  have sleeps := enterSafe_sleeps (s := f) (by rw [fCmn])
  have moves := enterSafe_eq f
  have stopped := safeDrivers_vitals f
  have aOnly := f.safeDrivers_only
  have aMgt := f.safeDrivers_mgt
  obtain ⟨t, named⟩ : ∃ t, t = enterSafe f := ⟨_, rfl⟩
  rw [← named] at sleeps moves enters
  refine ⟨t, enters, ?_⟩
  clear enters named
  obtain ⟨drop, dropped⟩ : ∃ drop, drop = windowDrop f := ⟨_, rfl⟩
  have dropEq : drop = s.spd.turn.any (·.dropSeen) := by
    rw [dropped, windowDrop_any, fOnly.spd.resolve_right (by decide)]
  rw [← dropped] at moves
  clear dropped
  obtain ⟨a, quiet⟩ : ∃ a, a = f.safeDrivers := ⟨_, rfl⟩
  rw [← quiet] at moves stopped aOnly aMgt
  clear quiet
  have safe : a.mgt.mode = .safe := by rw [aMgt]
  have unclaimed : a.lds.claims = [] := congrArg (·.lds.claims) stopped
  have ungranted : a.lds.vendUnits = 0 := congrArg (·.lds.vendUnits) stopped
  have resold := (interruptVend_resold safe unclaimed ungranted drop).2
  have still := interruptVend_still (drop := drop) (s := a)
  have interrupted {v : VendCtx} (ctx : a.vnd.ctx = some v) (turns : v.stage = .turn1 ∨ v.stage = .turn2) :=
    interruptVend_interrupted (drop := drop) ctx turns safe unclaimed ungranted
  have bOnly : ChangesOnly Block.settlement a (interruptVend drop a) := by constructor <;> simp [Block.settlement]
  have bRetains : Retains a (interruptVend drop a) := interruptVend_retains _ _
  obtain ⟨b, settled⟩ : ∃ b, b = interruptVend drop a := ⟨_, rfl⟩
  rw [← settled] at moves bOnly bRetains resold
  have bMode : b.mgt.mode = .safe := by rw [bOnly.mgt.resolve_right (by decide)]; exact safe
  have follows := safe_follows (before := f) (s := b) (by rw [fOnly.mgt.resolve_right (by decide)]; exact awake) bMode
  rw [← moves] at follows
  have follow : ChangesOnly Block.settlement a t := bOnly.trans (follows.only.mono (by decide))
  have retains : Retains f t := (Retains.trans bRetains follows.retains).from
    (by rw [aOnly.rpq.resolve_right (by decide)]) (by rw [aOnly.rpq.resolve_right (by decide)])
    (by rw [aOnly.dlk.resolve_right (by decide)])
  have fSpd : f.spd = s.spd := fOnly.spd.resolve_right (by decide)
  have fChg : f.chg = s.chg := fOnly.chg.resolve_right (by decide)
  have fClg : f.clg = s.clg := fOnly.clg.resolve_right (by decide)
  have aVnd : a.vnd = s.vnd := (aOnly.vnd.resolve_right (by decide)).trans (fOnly.vnd.resolve_right (by decide))
  have aSel : a.sel = s.sel := (aOnly.sel.resolve_right (by decide)).trans (fOnly.sel.resolve_right (by decide))
  have aCsh : a.csh = s.csh := (aOnly.csh.resolve_right (by decide)).trans (fOnly.csh.resolve_right (by decide))
  have aChg : a.chg = s.chg := (aOnly.chg.resolve_right (by decide)).trans fChg
  have aClg : a.clg = s.clg := (aOnly.clg.resolve_right (by decide)).trans fClg
  have aCrd : a.crd = s.crd := (aOnly.crd.resolve_right (by decide)).trans (fOnly.crd.resolve_right (by decide))
  have aDlk : a.dlk = s.dlk := (aOnly.dlk.resolve_right (by decide)).trans (fOnly.dlk.resolve_right (by decide))
  have aReserved : a.rpq.reserved = s.rpq.reserved := by rw [aOnly.rpq.resolve_right (by decide), fReserved]
  have bPayout : b.chg.payout = s.chg.payout := (congrArg Vitals.payout resold).trans (congrArg (·.payout) aChg)
  have tVnd : t.vnd = b.vnd := follows.only.vnd.resolve_right (by decide)
  have tSel : t.sel = b.sel := follows.only.sel.resolve_right (by decide)
  have lds : t.lds = Lds.powerOn := sleeps.lds
  have held : moneyHeld a = moneyHeld s := moneyHeld_congr (by rw [aCsh]) aVnd (by rw [aChg])
  have waits (v : VendCtx) (some : s.vnd.ctx = some v) (waiting : v.stage = .approvalWait ∨ v.stage = .loadWait) : b = a := by
    rw [settled]
    refine still fun w ctx turns => ?_
    rw [aVnd, some] at ctx
    rw [← Option.some.inj ctx] at turns
    obtain is | is := waiting <;> simp [is] at turns
  have inTurn {v : VendCtx} (some : s.vnd.ctx = some v) (turns : v.stage = .turn1 ∨ v.stage = .turn2) :
      VendInterrupted drop v a b := by
    rw [settled]
    exact interrupted (by rw [aVnd]; exact some) turns
  refine ⟨?_, ?_, sleeps.mode, retains.reported fReported, ?_, by rw [unitsGranted, lds]; rfl, by rw [lds]; rfl, ?_, sleeps.turn,
    sleeps.sweep, ?_, ?_, fun v some waiting => ?_, fun v some turns plain => ?_, fun v some turns fresh index => ?_, ?_, ?_,
    follows.refuses⟩
  · rw [follow.now.resolve_right (by decide), aOnly.now.resolve_right (by decide)]
    exact fNow
  · rw [follow.cmn.resolve_right (by decide), aOnly.cmn.resolve_right (by decide)]
    exact fCmn
  · rw [follow.mgt.resolve_right (by decide), aMgt, fOnly.mgt.resolve_right (by decide)]
    cases s.mgt.mode <;> rfl
  · exact sleeps_undriven sleeps (by rw [DrivesOwned, fSpd, fChg]; exact owned) (by rw [fClg]; exact covered.2)
  · rw [follows.comp, show b.clg.comp = s.clg.comp from (congrArg Vitals.comp resold).trans (congrArg (·.comp) aClg)]
  · rw [follow.ulk.resolve_right (by decide), aOnly.ulk.resolve_right (by decide)]
    exact fOnly.ulk.resolve_right (by decide)
  · rw [tVnd, waits v some waiting, aVnd]
    exact some
  · rw [tVnd]
    exact (inTurn some turns).gone plain
  · obtain ⟨-, table, audit, money, told, owes, unheard⟩ := inTurn some turns
    rw [dropEq] at table audit money told owes unheard
    rw [aSel, show selOf a v.selection = selOf s v.selection by rw [selOf, aSel, selOf]] at table
    rw [aReserved] at told unheard
    rw [aCrd] at owes unheard
    rw [aDlk] at owes
    intro drop counted paid
    refine ⟨?_, ?_, fun range => ?_, fun plain slot => follows.retains.queued (told plain slot),
      fun card vending n r entry present room => ?_, fun card gone _ slot => ?_⟩
    · rw [selOf, tSel, table]
      exact tget_tset_same _ _ _ index
    · have total : auditDelivery v s.csh.audit = counted := by
        simp only [counted, auditDelivery]
        cases v.payment <;> rfl
      rw [← total, ← aCsh, ← audit]
      exact congrArg (·.audit) follows.books
    · have settles := money fresh (by rw [held]; exact range)
      have kept := follows.money (((Nat.le_add_right _ _).trans settles.le).trans (by rw [held]; exact range))
      rw [held, ← kept] at settles
      exact settles
    · obtain ⟨ctx, crd, queued⟩ := owes card vending n r (by rw [← entry]; unfold entryOf; rw [aDlk]) present room
      refine ⟨by rw [tVnd]; exact ctx, ?_, follows.retains.own _ queued (by simp [OwnKind.kind, kVendResult, kEnable])⟩
      rw [follows.session (by rw [crd, vending]; decide)]
      exact crd
    · obtain ⟨none, event⟩ := unheard card gone
      exact ⟨by rw [tVnd]; exact none, follows.retains.queued (event slot)⟩
  · rw [← bPayout]
    exact follows.cut
  · rw [← bPayout]
    exact follows.ended

end Sys2Proof.Machine
end
